-- ==== Sys2Proof/Word.lean ====
section
/-! DEFINITION. The plain number types of the FB-4208 (spec/00_scope.md, CONVENTIONS): bytes, 16-bit
quantities, slots and profile ids. -/

namespace Sys2Proof

/-- One byte on the host link, on the downstream bus or in a record. -/
abbrev Byte := BitVec 8

/-- A 16-bit quantity: a generation, a counter that wraps, a conversion result. -/
abbrev Word16 := BitVec 16

/-- A slot, 0 to 7 (00_scope.md, Identifiers). -/
abbrev Slot := Fin 8

/-- A profile id, 0 to 63 (00_scope.md, Identifiers). -/
abbrev ProfileId := Fin 64

end Sys2Proof
end

