-- ==== Sys2Proof/Syntax.lean ====
section
/-! DEFINITION. The commands the block takes: one constructor for each row of spec/opcode_table.json,
in the table's order, with what the part samples from outside at that happening as operands (log 1). -/

namespace Sys2Proof

/-- The identity of a store object (R139). -/
inductive ObjId where
  | settings
  | target (slot : Slot)
  | image (slot : Slot)
  | profile (id : ProfileId)
  deriving DecidableEq, Repr

/-- The two copies of a store object (R139). -/
inductive CopyName where
  | a
  | b
  deriving DecidableEq, Repr

/-- What the REMOTE conversion delivers (R4): a status and, with status OK, a temperature. -/
inductive RemoteConversion where
  | ok (temperature : Word16)
  | openCircuit
  | short
  deriving DecidableEq, Repr

/-- What the BM meets on SCL and SDA during one transaction (R113 to R115): the target's acknowledge
bits in order and the bytes it drives; or a clock held low for more than 25 ms after a number of items
(START, bytes, repeated START), with the acknowledge bits and the bytes until then; or SDA low under a
high SCL before the START or, with `repeated`, before the repeated START of a READ (log 21). -/
inductive BusResponse where
  | complete (acks : List Bool) (data : List Byte)
  | clockHeld (itemsBefore : Nat) (acks : List Bool) (data : List Byte)
  | lineStuck (repeated : Bool)
  deriving DecidableEq, Repr

/-- What the BM meets during a recovery sequence (R119): SDA high after pulse n + 1, the clock held
low for more than 25 ms at pulse n + 1, or SDA still low after the ninth pulse. -/
inductive RecoveryRun where
  | sdaHighAfter (n : Fin 9)
  | clockHeldAt (n : Fin 9)
  | stillLow
  deriving DecidableEq, Repr

/-- The commands, one per row of spec/opcode_table.json. `derate` is the level of the DERATE input
and `straps` are the levels of BAUD1 and BAUD0 at the happening; `c` is the character on HRX. -/
inductive Instr where
  | powerOnReset
  | pinReset
  | resetRelease (straps : BitVec 2)
  | startUpScanEnd (disturbed : List (ObjId × CopyName))
  | cycleStart
  | cycleCompletion (die : Word16) (remote : RemoteConversion) (vmon : Nat)
  | endOfStart
  | withheldNoticesAppend
  | damagedObjectNotices
  | slotSetUp (derate : Bool)
  | withheldOverrunNotice
  | cycleCompleteAtCe (derate : Bool)
  | supplyChangeAtCe
  | supplyChangeAtBm
  | supplyRecoveryChecks
  | slotInvalidation (slot : Slot)
  | profileActivation (derate : Bool)
  | recordActivation (derate : Bool)
  | recordRemoval
  | imageActivation (derate : Bool)
  | compensationFailureReport
  | queueDeparture (derate : Bool)
  | checkTimerExpiry (slot : Slot)
  | faultHoldTimerExpiry (slot : Slot) (derate : Bool)
  | transactionEnd (response : BusResponse) (derate : Bool)
  | recoverySequenceEnd (run : RecoveryRun) (derate : Bool)
  | recoveryTimerExpiry
  | quietTimeEnd (slot : Slot)
  | commitEnd (verified : Bool)
  | editTimerExpiry
  | requestFrameReceived (c : Byte)
  | ackReceived (c : Byte)
  | invalidFrame (c : Byte) (framingError : Bool)
  | gapTimerExpiry
  | unknownRequest
  | identify
  | getStatus (derate : Bool)
  | getMeasurements
  | getTarget
  | getProfile
  | getShadow
  | getImage
  | getSettings
  | setMode
  | setTrim
  | setDerate (derate : Bool)
  | passNow (derate : Bool)
  | targetAdmin (derate : Bool)
  | restart
  | manualRead
  | manualWrite
  | editOpen
  | editField
  | editPoints
  | editEntries
  | editCount
  | editRemove
  | editShow
  | editCommit
  | editAbandon
  | frameSent (straps : BitVec 2)
  | noticeAppend
  | retransmitTimerExpiry
  | characterReceived (c : Byte) (framingError : Bool)
  | owedStop
  deriving DecidableEq, Repr

end Sys2Proof
end

