-- ==== Sys2Proof/Decode.lean ====
section
/-! DEFINITION. The FB-4208 has no instruction decoder: spec/opcode_table.json gives no row any bits.
The byte encodings of the requests are read by the Host Link (Machine/Operands.lean). -/

namespace Sys2Proof

/-- The command a word spells by the table's bits: no row of the table gives bits, so no word spells
a command. -/
def decodeTableWord (_nbits _w : Nat) : Option Instr := none

end Sys2Proof
end

