-- ==== Sys2Proof/Config.lean ====
section
/-! DEFINITION. What the part fixes (capacities and periods the spec states) and the values the spec
leaves open (opaque constants: nothing can evaluate them). -/

namespace Sys2Proof.Config

/-- Places of the transfer queue (R104). -/
def queuePlaces : Nat := 32
/-- Bound on the COMPENSATE transfers in the queue (R45, R104). -/
def compensatePlaces : Nat := 24
/-- Places of the notice queue (R186, R187). -/
def noticePlaces : Nat := 16
/-- Outstanding notices allowed ahead of acknowledgement (R188). -/
def noticeWindow : Nat := 4
/-- Places of the reply queue (R180). -/
def replyPlaces : Nat := 4
/-- Entries of the pending request table (R179). -/
def pendingPlaces : Nat := 4
/-- Entries of the reply cache (R181). -/
def cachePlaces : Nat := 4
/-- Frames of the intake (R175). -/
def intakePlaces : Nat := 2
/-- Point positions of a profile buffer (R150). -/
def pointPositions : Nat := 24
/-- Entry positions of an image buffer (R150). -/
def entryPositions : Nat := 32

/-- A byte the spec does not state, drawn afresh: the first argument is the number of the draw, the
second the place within it (log 9, 10, 11). -/
opaque freeByte : Nat → Nat → Byte

/-- The index temperature an evaluation meets while Ti is ABSENT; R9 says this does not happen, so no
rule states a value (log 12). -/
opaque absentIndex : Int

end Sys2Proof.Config
end

