-- ==== Sys2Proof/Machine/Records.lean ====
section
/-! DEFINITION. The stored records of the part (spec/02, 04, 08, 12): profile, target record, static
image and settings, with the factory settings and the defaults of the edit buffer. -/

namespace Sys2Proof.Machine

/-- Width of a parameter or image value (02 THE PROFILE RECORD). -/
inductive Width where
  | byte
  | word
  deriving DecidableEq, Repr

/-- Byte order of a WORD on the downstream bus (R19). -/
inductive WordOrder where
  | highFirst
  | lowFirst
  deriving DecidableEq, Repr

/-- How values between points are found (R22, R23). -/
inductive Interpolation where
  | step
  | linear
  deriving DecidableEq, Repr

/-- Derate mode of a profile, NONE (`plain`) or SHIFT (R29). -/
inductive DerateMode where
  | plain
  | shift
  deriving DecidableEq, Repr

/-- One point of a curve: temperature in 1/16 degree and value. -/
structure Point where
  temp : Int
  value : Nat
  deriving DecidableEq, Repr

/-- The header and optional fields of a profile record (02 THE PROFILE RECORD, 12 RECORD ENCODINGS). -/
structure ProfileHeader where
  enabled : Bool
  slot : Nat
  param : Byte
  width : Width
  order : WordOrder
  rank : Nat
  interp : Interpolation
  lower : Nat
  upper : Nat
  stepLimit : Nat
  start : Option Nat
  derate : DerateMode
  deriving DecidableEq, Repr

/-- A committed profile: its header and the points below the count (R155). -/
structure Profile where
  header : ProfileHeader
  points : List Point
  deriving DecidableEq, Repr

/-- A register and the byte that belongs to it: marker or latch (R57). -/
structure RegValue where
  reg : Byte
  value : Byte
  deriving DecidableEq, Repr

/-- The identity check of a target record (R57). -/
structure IdentityCheck where
  reg : Byte
  expected : Byte
  mask : Byte
  deriving DecidableEq, Repr

/-- The status check of a target record (R57). -/
structure StatusCheck where
  reg : Byte
  mask : Byte
  deriving DecidableEq, Repr

/-- The target record of a slot (R57); the check period is in units of 100 ms. -/
structure TargetRecord where
  addr : Byte
  autoStart : Bool
  identity : Option IdentityCheck
  marker : Option RegValue
  status : Option StatusCheck
  latch : Option RegValue
  checkPeriod : Nat
  retryLimit : Nat
  deriving DecidableEq, Repr

/-- One entry of a static image (R59); the delay is in ms. -/
structure ImageEntry where
  reg : Byte
  width : Width
  value : Nat
  delay : Nat
  deriving DecidableEq, Repr

/-- The sensor an index is taken from (R7). -/
inductive IndexSource where
  | die
  | remote
  deriving DecidableEq, Repr

/-- Bus speed (R125). -/
inductive BusSpeed where
  | khz100
  | khz400
  deriving DecidableEq, Repr

/-- Start mode of the settings (R142). -/
inductive StartMode where
  | run
  | hold
  deriving DecidableEq, Repr

/-- The settings of the part (R142): periods in ms or s, supply in mV, temperatures in 1/16 degree. -/
structure Settings where
  period : Nat
  source : IndexSource
  k : Nat
  h : Nat
  low : Int
  high : Int
  floor : Nat
  margin : Nat
  speed : BusSpeed
  holdTime : Nat
  recoveryLimit : Nat
  deratePin : Nat
  startMode : StartMode
  deriving DecidableEq, Repr

/-- The content of a store object, by kind. -/
inductive Content where
  | settings (s : Settings)
  | target (r : TargetRecord)
  | image (entries : List ImageEntry)
  | profile (p : Profile)
  deriving DecidableEq, Repr

/-- The content of the edit buffer (R147, R150): lists keep their count apart from their positions. -/
inductive BufferContent where
  | settings (s : Settings)
  | target (r : TargetRecord)
  | image (count : Nat) (positions : List ImageEntry)
  | profile (header : ProfileHeader) (count : Nat) (positions : List Point)
  deriving DecidableEq, Repr

/-- The factory values (R142). -/
def factorySettings : Settings where
  period := 100
  source := .die
  k := 2
  h := 8
  low := -640
  high := 1520
  floor := 3000
  margin := 100
  speed := .khz400
  holdTime := 5
  recoveryLimit := 3
  deratePin := 1
  startMode := .run

/-- The defaults of an absent profile's header (R147). -/
def defaultHeader : ProfileHeader where
  enabled := false
  slot := 0
  param := 0
  width := .byte
  order := .highFirst
  rank := 0
  interp := .step
  lower := 0
  upper := 255
  stepLimit := 0
  start := none
  derate := .plain

/-- The defaults of an absent target record (R147). -/
def defaultRecord : TargetRecord where
  addr := 0
  autoStart := false
  identity := none
  marker := none
  status := none
  latch := none
  checkPeriod := 0
  retryLimit := 0

/-- The default of an entry position (R147). -/
def defaultEntry : ImageEntry := ⟨0, .byte, 0, 0⟩

/-- The default of a point position (R147). -/
def defaultPoint : Point := ⟨0, 0⟩

/-- The buffer content EDIT_OPEN gives an absent object of each kind (R147). -/
def defaultContent : ObjId → BufferContent
  | .settings => .settings factorySettings
  | .target _ => .target defaultRecord
  | .image _ => .image 0 (List.replicate Config.entryPositions defaultEntry)
  | .profile _ => .profile defaultHeader 0 (List.replicate Config.pointPositions defaultPoint)

/-- The largest value of a width (00_scope.md, Parameter values). -/
def widthMax : Width → Nat
  | .byte => 255
  | .word => 65535

/-- The 81 store objects in ascending object order (R139, R145). -/
def allObjects : List ObjId :=
  .settings :: ((List.finRange 8).map .target ++ ((List.finRange 8).map .image ++ (List.finRange 64).map .profile))

end Sys2Proof.Machine
end

