-- ==== Sys2Proof/Machine/Blocks.lean ====
section
/-! DEFINITION. The state of every block of the FB-4208 as plain data types, and the announcements the
blocks make to each other (spec/01 to spec/11, the state tables at the head of each chapter). -/

namespace Sys2Proof.Machine

/-! ### Names the spec counts out -/

/-- Part state (R161). -/
inductive PartState where
  | start
  | run
  | hold
  | safe
  deriving DecidableEq, Repr

/-- Reset cause (R161). -/
inductive ResetCause where
  | power
  | pin
  | request
  deriving DecidableEq, Repr

/-- The nine target states (R63), in the order of their codes (R194). -/
inductive TargetState where
  | unconfigured
  | disabled
  | probing
  | loading
  | inService
  | suspended
  | faultHold
  | mismatch
  | outOfService
  deriving DecidableEq, Repr

/-- The reasons of R65, in the order of their codes (R194). -/
inductive Reason where
  | reset
  | started
  | recordAdded
  | recordRemoved
  | autoStart
  | activation
  | hostEnable
  | hostResume
  | hostReload
  | hostDisable
  | hostSuspend
  | probed
  | loaded
  | identityMismatch
  | unreachable
  | targetFault
  | stateLost
  | holdExpired
  | recoveryExhausted
  deriving DecidableEq, Repr

/-- Severity of a notice (R186). -/
inductive Severity where
  | info
  | warn
  | fault
  deriving DecidableEq, Repr

/-- Converter status of a REMOTE reading (R4). -/
inductive ConvStatus where
  | ok
  | openCircuit
  | short
  deriving DecidableEq, Repr

/-- Remote condition (R6). -/
inductive RemoteCond where
  | good
  | faulted
  deriving DecidableEq, Repr

/-- Span condition (R10). -/
inductive SpanCond where
  | inside
  | outside
  deriving DecidableEq, Repr

/-- Supply condition (R11). -/
inductive SupplyCond where
  | normal
  | low
  deriving DecidableEq, Repr

/-- Reasons of a SENSOR notice, also of an INVALID reading (R5, R6). -/
inductive SensorReason where
  | openCircuit
  | short
  | range
  | recovered
  deriving DecidableEq, Repr

/-- Where Ti lies, as an INDEX_SPAN notice carries it (R10). -/
inductive SpanPosition where
  | below
  | above
  | inside
  deriving DecidableEq, Repr

/-- Classes of transfers (R102). -/
inductive Class where
  | manual
  | check
  | restore
  | compensate
  deriving DecidableEq, Repr

/-- What a transfer was placed for (R102); its class follows from it. -/
inductive Origin where
  | profile (id : ProfileId)
  | latch
  | identity
  | image (index : Nat)
  | loadProfile (id : ProfileId)
  | loadLatch
  | loadMarker
  | checkMarker
  | checkStatus
  | request (tag : Byte)
  deriving DecidableEq, Repr

/-- Direction of a transfer (R102). -/
inductive Dir where
  | write
  | read
  deriving DecidableEq, Repr

/-- Bus outcomes (R116, R120; 12 CODES). -/
inductive BusOutcome where
  | done
  | nackAddress
  | nackData
  | timeout
  | busStuck
  | busFault
  deriving DecidableEq, Repr

/-- Bus condition (R120). -/
inductive BusCond where
  | ready
  | fault
  deriving DecidableEq, Repr

/-- Cancel causes of a purged manual transfer (R136). -/
inductive CancelCause where
  | slotState
  | addressChanged
  | addressClaimed
  deriving DecidableEq, Repr

/-- The detail of an entry (R65). -/
inductive Detail where
  | absent
  | byteRead (b : Byte)
  | failed (origin : Origin) (outcome : BusOutcome)
  deriving DecidableEq, Repr

/-- The steps the load cursor walks (R60, R88). -/
inductive LoadStep where
  | identity
  | image (index : Nat)
  | profile (index : Nat)
  | latch
  | marker
  | finish
  deriving DecidableEq, Repr

/-- Check step (R60). -/
inductive CheckStep where
  | idle
  | marker
  | status
  deriving DecidableEq, Repr

/-- Settings in effect (R142). -/
inductive InEffect where
  | stored
  | factory
  | factoryDamaged
  deriving DecidableEq, Repr

/-- Edit session (R146). -/
inductive Session where
  | closed
  | opened
  | committing
  deriving DecidableEq, Repr

/-! ### Measurement Unit -/

/-- The three readings of one cycle (R4). -/
structure Readings where
  die : Int
  remoteStatus : ConvStatus
  remote : Int
  supply : Nat
  deriving DecidableEq, Repr

/-- The measurement cycle in progress: when it started and the period it took (R1). -/
structure Cycle where
  start : Nat
  period : Nat
  deriving DecidableEq, Repr

/-- The settings the MU has taken up, but for the period and the source (01, R14). -/
structure MuSettings where
  k : Nat
  h : Nat
  low : Int
  high : Int
  floor : Nat
  margin : Nat
  deriving DecidableEq, Repr

/-- The scan record handed to the Operating Control (R144, R145). -/
structure ScanRecord where
  nTargets : Nat
  nImages : Nat
  nProfiles : Nat
  damagedCopies : Nat
  absentByDamage : List ObjId
  deriving DecidableEq, Repr

/-- Copy states as the directory holds them (R140, R155). -/
inductive CopyInfo where
  | empty
  | valid (gen : Word16)
  | removed (gen : Word16)
  | damaged
  | programming
  deriving DecidableEq, Repr

/-- Stages that changed a value, as a LIMIT notice names them (R35). -/
structure Stages where
  limit : Bool
  final : Bool
  deriving DecidableEq, Repr

/-- Content of a notice, by kind, as the rule of the kind gives it (11 KINDS OF NOTICE). -/
inductive NoticeContent where
  | started (cause : ResetCause) (part : PartState) (inEffect : InEffect) (baud : BitVec 2)
      (record : ScanRecord) (ti : Int) (source : IndexSource) (supply : SupplyCond)
  | target (slot : Slot) (before after : TargetState) (reason : Reason) (detail : Detail) (addr : Byte)
      (recovery loads losses faults : Nat)
  | indexSpan (ti low high : Int) (position : SpanPosition)
  | sensor (reason : SensorReason) (remote : Int) (status : ConvStatus) (inUse effective : IndexSource)
  | supply (reading floor margin : Nat) (cond : SupplyCond)
  | busFault (attempts : Nat) (cls : Class) (slot : Option Slot) (addr : Byte) (answered : Nat)
  | busReady (attempts : Nat) (seconds : Nat)
  | storeDamaged (obj : ObjId) (a b : CopyInfo)
  | storeCommit (obj : ObjId) (copy : CopyName) (gen : Word16) (a b : CopyInfo)
  | editExpired (obj : ObjId) (isNew removal : Bool)
  | limit (id : ProfileId) (slot : Nat) (flag : Bool) (stages : Stages) (computed output lower upper : Nat)
      (ti : Int) (isLoad : Bool)
  | linkOverrun (tag code : Byte) (count : Nat)
  deriving DecidableEq, Repr

/-- A notice handed to the NU for appending (R187). -/
structure Notice where
  severity : Severity
  content : NoticeContent
  deriving DecidableEq, Repr

/-- State of the Measurement Unit (01). -/
structure Mu where
  reading : Option Readings
  cycleCount : Word16
  remoteCond : RemoteCond
  runCount : Nat
  sourceInUse : IndexSource
  effSource : IndexSource
  tf : Int
  ti : Option Int
  span : SpanCond
  supply : SupplyCond
  inUse : MuSettings
  cycle : Option Cycle
  nextStart : Option Nat
  lastPeriod : Nat
  withheld : List Notice
  deriving DecidableEq, Repr

/-! ### Compensation Engine -/

/-- A reference of a shadow: the transfer it names and the value that carries (R37). -/
structure Ref where
  id : Nat
  value : Nat
  deriving DecidableEq, Repr

/-- A shadow record (R37); `none` stands for NONE, UNKNOWN and no reference. -/
structure Shadow where
  computed : Option Nat
  written : Option Nat
  waiting : Option Ref
  onBus : Option Ref
  deferred : Bool
  clamped : Bool
  deriving DecidableEq, Repr

/-- Latch state of a slot: the latch-deferred flag and the transfers its references name (03). -/
structure LatchState where
  deferred : Bool
  waiting : Option Nat
  onBus : Option Nat
  deriving DecidableEq, Repr

/-- State of the Compensation Engine (03, R25, R28). -/
structure Ce where
  shadows : Vector Shadow 64
  trims : Vector Int 64
  hostDerate : Nat
  latches : Vector LatchState 8
  supply : SupplyCond
  passCount : Word16
  deriving DecidableEq, Repr

/-! ### Target Manager -/

/-- The target context of a slot (R60); the identity check its latest probe placed (R86); the steps its
load counted at the entry into LOADING: profile list, image entries, latch and marker (R88). -/
structure Ctx where
  state : TargetState
  reason : Reason
  detail : Detail
  cursor : LoadStep
  roomMark : Bool
  checkStep : CheckStep
  awaited : Option Nat
  staleHold : Option Nat
  checkTimer : Option Nat
  faultTimer : Option Nat
  recovery : Nat
  loads : Nat
  losses : Nat
  faults : Nat
  probe : Option IdentityCheck
  profileList : List ProfileId
  imageCount : Nat
  latchStep : Bool
  markerStep : Bool
  deriving DecidableEq, Repr

/-! ### Bus Master -/

/-- A transfer record (R102). `id` is the model's handle for it (log 27); `slot` none is NONE. -/
structure Transfer where
  id : Nat
  age : Nat
  origin : Origin
  slot : Option Slot
  addr : Byte
  dir : Dir
  reg : Byte
  data : List Byte
  readLen : Nat
  attempts : Nat
  delay : Nat
  onBus : Bool
  stale : Bool
  deriving DecidableEq, Repr

/-- What the BM drives or receives on SCL and SDA (R113, R114, R119). -/
inductive WireItem where
  | startCond
  | sent (b : Byte) (acknowledged : Bool)
  | received (b : Byte) (acknowledged : Bool)
  | pulse
  | stopCond
  deriving DecidableEq, Repr

/-- State of the Bus Master (06). The transfer on the bus is the record with `onBus`. -/
structure Bm where
  queue : List Transfer
  nextId : Nat
  nextAge : Nat
  recovering : Bool
  cond : BusCond
  recoveryTimer : Option Nat
  attempts : Nat
  faultSince : Option Nat
  starvation : Nat
  quiet : Vector (Option Nat) 8
  supply : SupplyCond
  speed : BusSpeed
  owedStop : Bool
  wire : List WireItem
  deriving DecidableEq, Repr

/-! ### Configuration Store -/

/-- A nonvolatile copy of an object whose content has type α (R140). -/
inductive Copy (α : Type) where
  | empty
  | valid (gen : Word16) (content : α)
  | removed (gen : Word16)
  | damaged
  deriving DecidableEq, Repr

/-- The two copies of an object (R139). -/
structure Copies (α : Type) where
  a : Copy α
  b : Copy α
  deriving DecidableEq, Repr

/-- The nonvolatile store: 81 objects in two copies (R139). -/
structure Store where
  settings : Copies Settings
  targets : Vector (Copies TargetRecord) 8
  images : Vector (Copies (List ImageEntry)) 8
  profiles : Vector (Copies Profile) 64
  deriving DecidableEq, Repr

/-- A directory entry: what the CS knows of the copies, and the active one (R141, R143). -/
structure DirEntry where
  a : CopyInfo
  b : CopyInfo
  active : Option CopyName
  deriving DecidableEq, Repr

/-- The directory (R143). -/
structure Directory where
  settings : DirEntry
  targets : Vector DirEntry 8
  images : Vector DirEntry 8
  profiles : Vector DirEntry 64
  deriving DecidableEq, Repr

/-- The edit buffer (R147). -/
structure EditBuffer where
  obj : ObjId
  isNew : Bool
  removal : Bool
  content : BufferContent
  deriving DecidableEq, Repr

/-- The commit in progress (R155): `wasEmpty` says that the copy was EMPTY before it (R158). -/
structure Commit where
  obj : ObjId
  copy : CopyName
  gen : Word16
  started : Nat
  endTime : Nat
  wasEmpty : Bool
  deriving DecidableEq, Repr

/-- State of the Configuration Store (08); only `store` is nonvolatile. -/
structure Cs where
  store : Store
  dir : Directory
  scanning : Bool
  inEffect : InEffect
  scan : ScanRecord
  session : Session
  buffer : Option EditBuffer
  editTimer : Option Nat
  commit : Option Commit
  deriving DecidableEq, Repr

/-! ### Operating Control -/

/-- The scan result the CS handed over (R162). -/
structure ScanResult where
  inEffect : InEffect
  startMode : StartMode
  record : ScanRecord
  deriving DecidableEq, Repr

/-- State of the Operating Control (09); `restart` is the TAG of the RESTART reply awaited. -/
structure Oc where
  part : PartState
  held : Bool
  cause : ResetCause
  baud : BitVec 2
  scanResult : Option ScanResult
  firstCompletion : Bool
  restart : Option Byte
  deriving DecidableEq, Repr

/-! ### Host Link -/

/-- The receive machine with the bytes of the frame in progress (R173): in BODY the LEN and the bytes
so far, in CHECK the LEN, the body and the first CRC byte once it has come. -/
inductive Rx where
  | hunt
  | length
  | body (len : Byte) (bytes : List Byte)
  | check (len : Byte) (bytes : List Byte) (crcHigh : Option Byte)
  deriving DecidableEq, Repr

/-- A request frame: TAG and payload, the request code first (R172). -/
structure Frame where
  tag : Byte
  payload : List Byte
  deriving DecidableEq, Repr

/-- The operation of a pending entry (R179). -/
inductive PendingOp where
  | transfer (id : Nat)
  | commit
  deriving DecidableEq, Repr

/-- An entry of the pending request table (R179): `ended` holds the order of ending and the reply. -/
structure PendingEntry where
  tag : Byte
  code : Byte
  digest : Word16
  op : PendingOp
  ended : Option (Nat × List Byte)
  deriving DecidableEq, Repr

/-- A reply in the reply queue; `restart` marks the reply whose last byte resets the part (R170). -/
structure Reply where
  tag : Byte
  payload : List Byte
  restart : Bool
  deriving DecidableEq, Repr

/-- An entry of the reply cache (R181). -/
structure CacheEntry where
  tag : Byte
  code : Option Byte
  digest : Word16
  payload : List Byte
  deriving DecidableEq, Repr

/-- The frame leaving HTX (R182). -/
structure TxFrame where
  bytes : List Byte
  restart : Bool
  deriving DecidableEq, Repr

/-- State of the Host Link (10). -/
structure Hl where
  rx : Rx
  gap : Option Nat
  intake : List Frame
  pend : List PendingEntry
  endedCount : Nat
  replies : List Reply
  cache : List CacheEntry
  tx : Option TxFrame
  fairness : Nat
  overruns : Nat
  startOverrun : Option (Byte × Byte)
  deriving DecidableEq, Repr

/-! ### Notice Unit -/

/-- An entry of the notice queue (R186); kind and subject follow from the content. -/
structure Entry where
  severity : Severity
  content : NoticeContent
  changes : Nat
  lost : Bool
  transmitted : Bool
  seq : Option Byte
  retrans : Nat
  due : Bool
  deriving DecidableEq, Repr

/-- State of the Notice Unit (11). -/
structure Nu where
  queue : List Entry
  nextSeq : Byte
  lostPending : Bool
  timer : Option Nat
  stalled : Bool
  deriving DecidableEq, Repr

/-! ### Announcements not yet taken, pins, and the whole -/

/-- What the MU hands the CE at a completion (R12); `first` marks the first completion after reset. -/
inductive CeAnnounce where
  | supplyChange (c : SupplyCond)
  | cycleComplete (r : Readings) (ti : Int) (source : IndexSource) (supply : SupplyCond) (first : Bool)
  deriving DecidableEq, Repr

/-- Activation of a profile content or removal, with what it replaces (R159). -/
structure ProfileChange where
  id : ProfileId
  before : Option Profile
  after : Option Profile
  deriving DecidableEq, Repr

/-- Activations the CS announces to the TM (R159): a record or its removal with what it replaces; an
image or its removal with whether the slot's record is present. -/
inductive TmActivation where
  | record (slot : Slot) (before after : Option TargetRecord)
  | image (slot : Slot) (recordPresent : Bool)
  deriving DecidableEq, Repr

/-- The CE's report of a failed compensation write or latch (R50). -/
structure FailureReport where
  slot : Slot
  origin : Origin
  outcome : BusOutcome
  deriving DecidableEq, Repr

/-- Announcements made and not yet taken by their receiver (log 5). -/
structure Msgs where
  ceMu : List CeAnnounce
  ceInvalidate : Vector Bool 8
  ceProfile : List ProfileChange
  tmSupply : List SupplyCond
  tmStore : List TmActivation
  tmReports : List FailureReport
  departures : Nat
  bmSupply : List SupplyCond
  endMu : Bool
  endCs : Bool
  endTm : Option PartState
  endHl : Bool
  notices : List Notice
  deriving DecidableEq, Repr

/-- Levels of ALERT_N and HRDY, and the DERATE level last sampled (00_scope.md, PIN DEFINITION). -/
structure Pins where
  alertN : Bool
  hrdy : Bool
  derate : Bool
  deriving DecidableEq, Repr

end Sys2Proof.Machine
end

