-- ==== Sys2Proof/Machine/ResetValues.lean ====
section
/-! DEFINITION. The value of every block's state after reset, as each chapter gives it. -/

namespace Sys2Proof.Machine

/-- Reset values of the MU (R2, R16; log 8 for Tf, which R2 leaves undefined, for the settings in use and
for the latest period). -/
def Mu.reset : Mu where
  reading := none
  cycleCount := 0
  remoteCond := .good
  runCount := 0
  sourceInUse := .die
  effSource := .die
  tf := 0
  ti := none
  span := .inside
  supply := .normal
  inUse := ⟨factorySettings.k, factorySettings.h, factorySettings.low, factorySettings.high, factorySettings.floor, factorySettings.margin⟩
  cycle := none
  nextStart := none
  lastPeriod := factorySettings.period
  withheld := []

/-- A shadow record after reset (R39). -/
def Shadow.reset : Shadow := ⟨none, none, none, none, false, false⟩

/-- Latch state after reset (R39). -/
def LatchState.reset : LatchState := ⟨false, none, none⟩

/-- Reset values of the CE (R25, R28, R39). -/
def Ce.reset : Ce where
  shadows := Vector.replicate 64 Shadow.reset
  trims := Vector.replicate 64 0
  hostDerate := 0
  latches := Vector.replicate 8 LatchState.reset
  supply := .normal
  passCount := 0

/-- A target context after reset (R60). -/
def Ctx.reset : Ctx where
  state := .unconfigured
  reason := .reset
  detail := .absent
  cursor := .identity
  roomMark := false
  checkStep := .idle
  awaited := none
  staleHold := none
  checkTimer := none
  faultTimer := none
  recovery := 0
  loads := 0
  losses := 0
  faults := 0
  probe := none
  profileList := []
  imageCount := 0
  latchStep := false
  markerStep := false

/-- Reset values of the BM (R126; log 8 for the speed before the scan's announcement). -/
def Bm.reset : Bm where
  queue := []
  nextId := 0
  nextAge := 0
  recovering := false
  cond := .ready
  recoveryTimer := none
  attempts := 0
  faultSince := none
  starvation := 0
  quiet := Vector.replicate 8 none
  supply := .normal
  speed := factorySettings.speed
  owedStop := false
  wire := []

/-- A store as manufactured: every copy EMPTY (R140). -/
def Store.manufactured : Store where
  settings := ⟨.empty, .empty⟩
  targets := Vector.replicate 8 ⟨.empty, .empty⟩
  images := Vector.replicate 8 ⟨.empty, .empty⟩
  profiles := Vector.replicate 64 ⟨.empty, .empty⟩

/-- A directory entry before the scan: no copy known, none active (log 8). -/
def DirEntry.unknown : DirEntry := ⟨.empty, .empty, none⟩

/-- The directory before the scan (log 8). -/
def Directory.reset : Directory where
  settings := DirEntry.unknown
  targets := Vector.replicate 8 DirEntry.unknown
  images := Vector.replicate 8 DirEntry.unknown
  profiles := Vector.replicate 64 DirEntry.unknown

/-- The scan record before the scan: nothing counted, nothing listed (DESIGN CHOICE, log 8). -/
def ScanRecord.reset : ScanRecord := ⟨0, 0, 0, 0, []⟩

/-- Reset values of the CS around a store that outlives the reset (R143, R146). The settings in effect are FACTORY
and the scan record counts nothing until the scan settles them (R144), which R142 and R144 leave open: DESIGN CHOICE,
log 8. -/
def Cs.reset (store : Store) : Cs where
  store := store
  dir := Directory.reset
  scanning := true
  inEffect := .factory
  scan := ScanRecord.reset
  session := .closed
  buffer := none
  editTimer := none
  commit := none

/-- Reset values of the OC (R161). -/
def Oc.reset (cause : ResetCause) (straps : BitVec 2) : Oc where
  part := .start
  held := false
  cause := cause
  baud := straps
  scanResult := none
  firstCompletion := false
  restart := none

/-- Reset values of the HL (R173, R175, R179 to R182). -/
def Hl.reset : Hl where
  rx := .hunt
  gap := none
  intake := []
  pend := []
  endedCount := 0
  replies := []
  cache := []
  tx := none
  fairness := 0
  overruns := 0
  startOverrun := none

/-- Reset values of the NU (R193). -/
def Nu.reset : Nu := ⟨[], 0, false, none, false⟩

/-- No announcement stands after a reset: every block's state is lost (R161). -/
def Msgs.reset : Msgs where
  ceMu := []
  ceInvalidate := Vector.replicate 8 false
  ceProfile := []
  tmSupply := []
  tmStore := []
  tmReports := []
  departures := 0
  bmSupply := []
  endMu := false
  endCs := false
  endTm := none
  endHl := false
  notices := []

end Sys2Proof.Machine
end

