-- ==== Sys2Proof/Machine/State.lean ====
section
/-! DEFINITION. The whole state of the FB-4208 as plain data: the blocks, the announcements between
them that are not yet taken, the queue of commands; the reasons to stop; the machine after reset. -/

namespace Sys2Proof.Machine

/-- The reasons a command could stop the machine: none. Every happening of the spec goes on, so no
constructor is needed (safe: nothing is left out by it; log 26). -/
inductive Fault where
  deriving DecidableEq, Repr

/-- The reasons a command has no meaning. `notModelled` is raised by exec's arms alone, for a command
not reached yet (safe: the model stops where the part goes on); no arm raises it now. -/
inductive Refusal where
  | notModelled (mnemonic : String)
  deriving DecidableEq, Repr

/-- The whole machine: the blocks, the announcements between them, the pins, and the model's own
clock, draw counter and queue of commands. -/
structure State where
  pending : List Instr
  now : Nat
  freeDraws : Nat
  pins : Pins
  mu : Mu
  ce : Ce
  ctxs : Vector Ctx 8
  bm : Bm
  cs : Cs
  oc : Oc
  hl : Hl
  nu : Nu
  msgs : Msgs
  deriving DecidableEq, Repr

/-- The machine right after a power-on reset of a part as manufactured (log 7). -/
def State.reset : State where
  pending := []
  now := 0
  freeDraws := 0
  pins := ⟨true, true, false⟩
  mu := Mu.reset
  ce := Ce.reset
  ctxs := Vector.replicate 8 Ctx.reset
  bm := Bm.reset
  cs := Cs.reset Store.manufactured
  oc := Oc.reset .power 0
  hl := Hl.reset
  nu := Nu.reset
  msgs := Msgs.reset

end Sys2Proof.Machine
end

