-- ==== Sys2Proof/Machine/Ops.lean ====
section
/-! DEFINITION. The named operations over the state: the clock, per-slot and per-profile updates, the
reads of active store objects, notices and announcements, and the reset of every block. -/

namespace Sys2Proof.Machine

/-- What a command answers. -/
abbrev Answer := Host.Outcome State Fault Refusal

/-! ### Clock and free values -/

/-- The clock moves on to the moment a scheduled happening comes (log 3). -/
def advanceTo (t : Nat) (s : State) : State := { s with now := max s.now t }

/-- The DERATE input as the command samples it (log 1). -/
def sampleDerate (level : Bool) (s : State) : State := { s with pins := { s.pins with derate := level } }

/-- One more draw of free values has been made (log 9). -/
def drawFree (s : State) : State := { s with freeDraws := s.freeDraws + 1 }

/-- A count that stops at 65535 (R61, R120, R175). -/
def satInc (n : Nat) : Nat := min 65535 (n + 1)

/-! ### Per-slot and per-profile updates -/

/-- The context of a slot is replaced. -/
def setCtx (slot : Slot) (c : Ctx) (s : State) : State := { s with ctxs := s.ctxs.set slot c }

/-- The context of a slot is changed by a function. -/
def modCtx (slot : Slot) (f : Ctx → Ctx) (s : State) : State := setCtx slot (f s.ctxs[slot]) s

/-- The shadow of a profile id is replaced. -/
def setShadow (id : ProfileId) (sh : Shadow) (s : State) : State :=
  { s with ce := { s.ce with shadows := s.ce.shadows.set id sh } }

/-- The shadow of a profile id is changed by a function. -/
def modShadow (id : ProfileId) (f : Shadow → Shadow) (s : State) : State :=
  setShadow id (f s.ce.shadows[id]) s

/-- The latch state of a slot is replaced. -/
def setLatch (slot : Slot) (l : LatchState) (s : State) : State :=
  { s with ce := { s.ce with latches := s.ce.latches.set slot l } }

/-- The trim of a profile id is replaced (R26). -/
def setTrimOf (id : ProfileId) (t : Int) (s : State) : State :=
  { s with ce := { s.ce with trims := s.ce.trims.set id t } }

/-- The quiet-until of a slot is replaced (R112). -/
def setQuiet (slot : Slot) (q : Option Nat) (s : State) : State :=
  { s with bm := { s.bm with quiet := s.bm.quiet.set slot q } }

/-- Every element of a table changed by a function of its index. -/
def mapTable {α : Type} {n : Nat} (f : Fin n → α → α) (v : Vector α n) : Vector α n :=
  ⟨⟨List.ofFn fun i => f i v[i]⟩, by simp⟩

/-- The first element that meets a test, changed by a function. -/
def changeFirst {α : Type} (p : α → Bool) (f : α → α) : List α → List α
  | [] => []
  | x :: xs => if p x then f x :: xs else x :: changeFirst p f xs

/-- The list without its first element that meets a test. -/
def dropFirst {α : Type} (p : α → Bool) : List α → List α
  | [] => []
  | x :: xs => if p x then xs else x :: dropFirst p xs

/-- A list sorted upward by a key; equal keys keep their order. -/
def insertByKey {α : Type} (key : α → Nat) (x : α) : List α → List α
  | [] => [x]
  | y :: ys => if key x ≤ key y then x :: y :: ys else y :: insertByKey key x ys

/-- Insertion sort by a key. -/
def sortByKey {α : Type} (key : α → Nat) : List α → List α
  | [] => []
  | x :: xs => insertByKey key x (sortByKey key xs)

/-- The element with the smallest key, the first of several. -/
def leastBy {α : Type} (key : α → Nat) : List α → Option α
  | [] => none
  | x :: xs => match leastBy key xs with
    | none => some x
    | some y => if key x ≤ key y then some x else some y

/-! ### Store objects in use -/

/-- The content of a copy, when it is VALID (R139). -/
def Copy.content {α : Type} : Copy α → Option α
  | .valid _ c => some c
  | _ => none

/-- The content of the active copy, when it is VALID (R139). -/
def activeContent {α : Type} (e : DirEntry) (c : Copies α) : Option α :=
  match e.active with
  | some .a => c.a.content
  | some .b => c.b.content
  | none => none

/-- The active settings: the stored ones, or the factory values where the object is absent (R142). -/
def activeSettings (s : State) : Settings :=
  (activeContent s.cs.dir.settings s.cs.store.settings).getD factorySettings

/-- The active target record of a slot (R57). -/
def activeRecord (s : State) (slot : Slot) : Option TargetRecord :=
  activeContent s.cs.dir.targets[slot] s.cs.store.targets[slot]

/-- The active image of a slot, when one is present (R59). -/
def activeImage (s : State) (slot : Slot) : Option (List ImageEntry) :=
  activeContent s.cs.dir.images[slot] s.cs.store.images[slot]

/-- The entries of a slot's image: an absent image counts as a list of none (R59). -/
def imageEntries (s : State) (slot : Slot) : List ImageEntry := (activeImage s slot).getD []

/-- The active content of a profile (R17). -/
def activeProfile (s : State) (id : ProfileId) : Option Profile :=
  activeContent s.cs.dir.profiles[id] s.cs.store.profiles[id]

/-- The record that the latest outstanding activation of the slot carries as replaced content. Where the slot has
no active record that activation is its removal, so that this is the record the removal carries, whatever changes of
the record are outstanding ahead of it (log 13). -/
def replacedRecord (slot : Slot) : List TmActivation → Option TargetRecord
  | [] => none
  | .record s before _ :: rest => (replacedRecord slot rest).or (if s = slot then before else none)
  | .image _ _ :: rest => replacedRecord slot rest

/-- The record a slot is run on: the active one (R57) or, while a removal is committed and not yet taken by
the TM, the one it removes (DEDUCED, log 13). A changed record is the active one from its commit's end on, also for a
step or an outcome that comes before the TM takes the activation (log 36). -/
def recordInUse (s : State) (slot : Slot) : Option TargetRecord :=
  match activeRecord s slot with
  | some r => some r
  | none => replacedRecord slot s.msgs.tmStore

/-- Whether a profile is active, enabled and names the slot (R17, R90). -/
def profileServes (s : State) (slot : Slot) (id : ProfileId) : Bool :=
  match activeProfile s id with
  | some p => p.header.enabled && p.header.slot == slot.val
  | none => false

/-- Position of a profile in (slot, rank, id) order (R18) as one number. -/
def profileKey (s : State) (id : ProfileId) : Nat :=
  match activeProfile s id with
  | some p => p.header.slot * 65536 + p.header.rank * 256 + id.val
  | none => id.val

/-- The enabled profiles of a slot in (rank, id) order (R18, R88). -/
def slotProfiles (s : State) (slot : Slot) : List ProfileId :=
  sortByKey (profileKey s) ((List.finRange 64).filter (profileServes s slot))

/-! ### Notices and announcements -/

/-- A block hands the NU a notice to append (R187); NOTICE_APPEND takes it (log 5). -/
def postNotice (severity : Severity) (content : NoticeContent) (s : State) : State :=
  { s with msgs := { s.msgs with notices := s.msgs.notices ++ [⟨severity, content⟩] } }

/-- Several notices in order. -/
def postNotices (ns : List Notice) (s : State) : State :=
  { s with msgs := { s.msgs with notices := s.msgs.notices ++ ns } }

/-- The entry actions tell the CE to invalidate a slot (R53, R66). -/
def askInvalidation (slot : Slot) (s : State) : State :=
  { s with msgs := { s.msgs with ceInvalidate := s.msgs.ceInvalidate.set slot true } }

/-! ### Reset -/

/-- What a reset leaves of the copy a commit was programming: EMPTY when it was EMPTY and the reset
comes within the first 4 ms, DAMAGED otherwise (R158; log 15). -/
def cutCopy {α : Type} (wasEmptyAndEarly : Bool) : Copy α :=
  if wasEmptyAndEarly then .empty else .damaged

/-- One copy of an object replaced. -/
def setCopyOf {α : Type} (n : CopyName) (c : Copy α) (cs : Copies α) : Copies α :=
  match n with
  | .a => { cs with a := c }
  | .b => { cs with b := c }

/-- One copy of any object marked EMPTY or DAMAGED. -/
def spoilCopy (obj : ObjId) (n : CopyName) (early : Bool) (st : Store) : Store :=
  match obj with
  | .settings => { st with settings := setCopyOf n (cutCopy early) st.settings }
  | .target i => { st with targets := st.targets.set i (setCopyOf n (cutCopy early) st.targets[i]) }
  | .image i => { st with images := st.images.set i (setCopyOf n (cutCopy early) st.images[i]) }
  | .profile i => { st with profiles := st.profiles.set i (setCopyOf n (cutCopy early) st.profiles[i]) }

/-- The store a reset leaves: a commit in progress is cut (R158). -/
def storeAfterReset (s : State) : Store :=
  match s.cs.commit with
  | none => s.cs.store
  | some c => spoilCopy c.obj c.copy (c.wasEmpty && decide (s.now < c.started + 4)) s.cs.store

/-- Every block takes its reset values and the part enters START with the cause, the straps sampled
and the scan running; the store survives (R161). The queue of commands, the draw counter and the
sampled input are not the part's volatile state. -/
def resetEnded (cause : ResetCause) (straps : BitVec 2) (s : State) : State :=
  { State.reset with
    pending := s.pending
    freeDraws := s.freeDraws
    pins := ⟨true, true, s.pins.derate⟩
    cs := Cs.reset (storeAfterReset s)
    oc := Oc.reset cause straps }

/-- The part is held in reset: all volatile state is lost, HRDY is low, ALERT_N released, and nothing
runs until RESET_RELEASE (R161). -/
def holdInReset (cause : ResetCause) (s : State) : State :=
  { State.reset with
    pending := s.pending
    freeDraws := s.freeDraws
    pins := ⟨true, false, s.pins.derate⟩
    cs := { Cs.reset (storeAfterReset s) with scanning := false }
    oc := { Oc.reset cause s.oc.baud with held := true } }

end Sys2Proof.Machine
end

