-- ==== Sys2Proof/Machine/Flags.lean ====
section
/-! DEFINITION. Every condition, flag and line level the spec computes: the judgement of readings, the
remote, span and supply conditions, the clamped flag's stages, classes of origins, ALERT_N, HRDY. -/

namespace Sys2Proof.Machine

/-- The reading the REMOTE conversion gives: with OPEN or SHORT the temperature is 0 (R4). -/
def remoteReading : RemoteConversion → ConvStatus × Int
  | .ok t => (.ok, t.toInt)
  | .openCircuit => (.openCircuit, 0)
  | .short => (.short, 0)

/-- The judgement of a REMOTE reading: `none` is VALID, else the reason it is INVALID (R5). -/
def judgeRemote (status : ConvStatus) (t : Int) : Option SensorReason :=
  match status with
  | .openCircuit => some .openCircuit
  | .short => some .short
  | .ok => if t < -880 ∨ 2400 < t then some .range else none

/-- The remote condition and run count after a judgement, and whether it changed (R6). -/
def moveRemote (cond : RemoteCond) (run : Nat) (judgement : Option SensorReason) : RemoteCond × Nat × Bool :=
  match cond, judgement with
  | .good, none => (.good, 0, false)
  | .good, some _ => (.faulted, 0, true)
  | .faulted, some _ => (.faulted, 0, false)
  | .faulted, none => if run < 2 then (.faulted, run + 1, false) else (.good, 0, true)

/-- The effective index source (R7). -/
def effectiveSource (inUse : IndexSource) (cond : RemoteCond) : IndexSource :=
  match inUse, cond with
  | .remote, .good => .remote
  | _, _ => .die

/-- Where Ti lies against the span (R10). -/
def spanPosition (ti low high : Int) : SpanPosition :=
  if ti < low then .below else if high < ti then .above else .inside

/-- The span condition Ti calls for (R10). -/
def spanOf (p : SpanPosition) : SpanCond := if p = .inside then .inside else .outside

/-- The supply condition after a reading (R11). -/
def moveSupply (cond : SupplyCond) (reading floor margin : Nat) : SupplyCond :=
  match cond with
  | .normal => if reading < floor then .low else .normal
  | .low => if floor + margin ≤ reading then .normal else .low

/-- The clamped flag: a change by stage 4 or stage 6 (R34). -/
def Stages.flag (st : Stages) : Bool := st.limit || st.final

/-- The class of a transfer, which its origin fixes (R102). -/
def Origin.cls : Origin → Class
  | .profile _ => .compensate
  | .latch => .compensate
  | .identity => .restore
  | .image _ => .restore
  | .loadProfile _ => .restore
  | .loadLatch => .restore
  | .loadMarker => .restore
  | .checkMarker => .check
  | .checkStatus => .check
  | .request _ => .manual

/-- The class of a transfer. -/
def Transfer.cls (t : Transfer) : Class := t.origin.cls

/-- An automatic transfer: any class but MANUAL (00_scope.md, Automatic transfer). -/
def Transfer.automatic (t : Transfer) : Bool := t.cls != .manual

/-- The profile a transfer writes, whether a pass or a load placed it (R37). -/
def Origin.profileOf : Origin → Option ProfileId
  | .profile id => some id
  | .loadProfile id => some id
  | _ => none

/-- Target states whose entry actions are those of R66: every state but LOADING and IN_SERVICE. -/
def cleanEntry : TargetState → Bool
  | .loading => false
  | .inService => false
  | _ => true

/-- Target states of automatic use, in which raw writes to the slot's address are kept away (R68,
R76, R131). -/
def automaticUse : TargetState → Bool
  | .probing => true
  | .loading => true
  | .inService => true
  | .faultHold => true
  | .mismatch => true
  | .outOfService => true
  | _ => false

/-- The severity of a TARGET notice (R70). -/
def targetSeverity (st : TargetState) (r : Reason) : Severity :=
  match st with
  | .faultHold => .fault
  | .mismatch => .fault
  | .outOfService => .fault
  | .probing => if r = .stateLost then .warn else .info
  | _ => .info

/-- The effective derate level: the larger of the host level and the pin level (R27). DESIGN CHOICE (log 8): in START
before the scan's end no settings are known, and GET_STATUS (R185) then reports the pin level of the factory settings,
1, while DERATE is asserted; R27 and R142 are silent there. -/
def effectiveDerate (s : State) : Nat :=
  max s.ce.hostDerate (if s.pins.derate then (activeSettings s).deratePin else 0)

/-- The rank of a severity, INFO below WARN below FAULT (11 KINDS OF NOTICE). -/
def Severity.rank : Severity → Nat
  | .info => 0
  | .warn => 1
  | .fault => 2

/-- The higher of two severities (R187). -/
def Severity.higher (a b : Severity) : Severity := if a.rank < b.rank then b else a

/-- ALERT_N is high (released) unless an entry of severity FAULT is queued (R192). -/
def alertLevel (queue : List Entry) : Bool := !queue.any (fun e => e.severity == .fault)

/-- HRDY is high while the intake holds fewer than 2 frames (R175). -/
def hrdyLevel (intake : List Frame) : Bool := decide (intake.length < Config.intakePlaces)

/-- HTX is high while the transmitter is idle (R171). -/
def State.htxIdle (s : State) : Bool := s.hl.tx.isNone

/-- A generation newer than another: the difference modulo 65536 lies in 1 to 32767 (R141). -/
def newer (g1 g2 : Word16) : Bool := decide (1 ≤ (g1 - g2).toNat) && decide ((g1 - g2).toNat ≤ 32767)

end Sys2Proof.Machine
end

