-- ==== Sys2Proof/Machine/Evaluate.lean ====
section
/-! DEFINITION. The evaluation of a profile in six stages (spec/02_compensation_profiles.md, R20 to
R34), exact over integers and naturals. -/

namespace Sys2Proof.Machine

/-- The last point whose temperature is at or below Ti, with the point after it (R22, R23). -/
def neighbours (ti : Int) : List Point → Option (Point × Option Point)
  | [] => none
  | [p] => if p.temp ≤ ti then some (p, none) else none
  | p :: q :: rest => if q.temp ≤ ti then neighbours ti (q :: rest) else if p.temp ≤ ti then some (p, some q) else none

/-- The quotient of R23 rounded to the nearest whole number, an exact half toward the larger. -/
def roundedQuotient (num den : Int) : Int := (2 * num + den) / (2 * den)

/-- LINEAR interpolation between two neighbouring points (R23). -/
def linearBetween (lo hi : Point) (ti : Int) : Nat :=
  ((lo.value : Int) + roundedQuotient (((hi.value : Int) - lo.value) * (ti - lo.temp)) (hi.temp - lo.temp)).toNat

/-- Stage 1, the base value of the curve at Ti (R21 to R23). A curve has 2 to 24 points (R154); the
value of a curve without points is not met. -/
def baseValue (p : Profile) (ti : Int) : Nat :=
  match p.points with
  | [] => 0
  | first :: rest =>
    if ti ≤ first.temp then first.value
    else match neighbours ti (first :: rest) with
      | none => first.value
      | some (lo, none) => lo.value
      | some (lo, some hi) =>
        match p.header.interp with
        | .step => lo.value
        | .linear => linearBetween lo hi ti

/-- Stage 2: base plus trim, not below 0, not cut at the width (R24). -/
def trimmedValue (base : Nat) (trim : Int) : Nat := ((base : Int) + trim).toNat

/-- Stage 3: halved once for each level for a SHIFT profile (R29). -/
def deratedValue (mode : DerateMode) (level v : Nat) : Nat :=
  match mode with
  | .plain => v
  | .shift => v / 2 ^ level

/-- A value held within limits (R30, R33). -/
def clampTo (lower upper v : Nat) : Nat := if v < lower then lower else if upper < v then upper else v

/-- Stage 5: the slewed value from the computed value, the step limit and the reference (R31, R32). -/
def slewedValue (computed stepLimit : Nat) (reference start : Option Nat) : Nat :=
  if stepLimit = 0 then computed
  else match reference with
    | some r =>
      if r + stepLimit < computed then r + stepLimit
      else if computed + stepLimit < r then r - stepLimit
      else computed
    | none => start.getD computed

/-- What an evaluation hands back to the CE (R20). -/
structure Evaluation where
  computed : Nat
  output : Nat
  stages : Stages
  deriving DecidableEq, Repr

/-- The value entering the limit clamp (stages 1 to 3). -/
def preLimit (p : Profile) (ti trim : Int) (level : Nat) : Nat :=
  deratedValue p.header.derate level (trimmedValue (baseValue p ti) trim)

/-- The whole evaluation (R20 to R34). -/
def evaluate (p : Profile) (ti trim : Int) (level : Nat) (reference : Option Nat) : Evaluation :=
  let pre := preLimit p ti trim level
  let computed := clampTo p.header.lower p.header.upper pre
  let slewed := slewedValue computed p.header.stepLimit reference p.header.start
  let output := clampTo p.header.lower p.header.upper slewed
  ⟨computed, output, ⟨computed != pre, output != slewed⟩⟩

/-- The data bytes of a parameter write (R19). -/
def parameterBytes (w : Width) (o : WordOrder) (v : Nat) : List Byte :=
  match w, o with
  | .byte, _ => [BitVec.ofNat 8 v]
  | .word, .highFirst => [BitVec.ofNat 8 (v / 256), BitVec.ofNat 8 v]
  | .word, .lowFirst => [BitVec.ofNat 8 v, BitVec.ofNat 8 (v / 256)]

/-- The reference value of a shadow: waiting, else on the bus, else written (R38). -/
def Shadow.reference (sh : Shadow) : Option Nat :=
  match sh.waiting, sh.onBus with
  | some w, _ => some w.value
  | none, some b => some b.value
  | none, none => sh.written

end Sys2Proof.Machine
end

