-- ==== Sys2Proof/Machine/Codec.lean ====
section
/-! DEFINITION. Bytes on the host link (spec/12_frame_and_record_formats.md, spec/10 R172): byte order,
code tables, record encodings, frames and their CRC. -/

namespace Sys2Proof.Machine

/-! ### Numbers -/

/-- The low byte of a number. -/
def byteOf (n : Nat) : Byte := BitVec.ofNat 8 n

/-- Two bytes, high byte first (R194). -/
def be16 (n : Nat) : List Byte := [byteOf (n / 256), byteOf n]

/-- Four bytes, high byte first (R194). -/
def be32 (n : Nat) : List Byte := [byteOf (n / 16777216), byteOf (n / 65536), byteOf (n / 256), byteOf n]

/-- A signed quantity as two bytes, two's complement, high byte first (R194). -/
def signed16 (t : Int) : List Byte := be16 (BitVec.ofInt 16 t).toNat

/-- Yes, set, present as 01h, no, clear, absent as 00h (R194). -/
def flagByte (b : Bool) : Byte := if b then 1 else 0

/-- An unsigned number from two bytes, high byte first. -/
def nat16 (hi lo : Byte) : Nat := hi.toNat * 256 + lo.toNat

/-- A signed number from two bytes, high byte first. -/
def int16 (hi lo : Byte) : Int := (BitVec.ofNat 16 (nat16 hi lo)).toInt

/-- A value that may be NONE, UNKNOWN or ABSENT: a presence byte, then the value's bytes, 00h when it
is absent (R194). -/
def optional (width : Nat) : Option (List Byte) → List Byte
  | none => 0 :: List.replicate width 0
  | some bytes => 1 :: bytes

/-! ### Codes (R194, CODES) -/

def PartState.code : PartState → Byte
  | .start => 0
  | .run => 1
  | .hold => 2
  | .safe => 3

def ResetCause.code : ResetCause → Byte
  | .power => 0
  | .pin => 1
  | .request => 2

def TargetState.code : TargetState → Byte
  | .unconfigured => 0
  | .disabled => 1
  | .probing => 2
  | .loading => 3
  | .inService => 4
  | .suspended => 5
  | .faultHold => 6
  | .mismatch => 7
  | .outOfService => 8

def Reason.code : Reason → Byte
  | .reset => 0x00
  | .started => 0x01
  | .recordAdded => 0x02
  | .recordRemoved => 0x03
  | .autoStart => 0x04
  | .activation => 0x05
  | .hostEnable => 0x06
  | .hostResume => 0x07
  | .hostReload => 0x08
  | .hostDisable => 0x09
  | .hostSuspend => 0x0A
  | .probed => 0x0B
  | .loaded => 0x0C
  | .identityMismatch => 0x0D
  | .unreachable => 0x0E
  | .targetFault => 0x0F
  | .stateLost => 0x10
  | .holdExpired => 0x11
  | .recoveryExhausted => 0x12

def Severity.code : Severity → Byte
  | .info => 0
  | .warn => 1
  | .fault => 2

def ConvStatus.code : ConvStatus → Byte
  | .ok => 0
  | .openCircuit => 1
  | .short => 2

def SensorReason.code : SensorReason → Byte
  | .openCircuit => 0
  | .short => 1
  | .range => 2
  | .recovered => 3

def IndexSource.code : IndexSource → Byte
  | .die => 0
  | .remote => 1

def RemoteCond.code : RemoteCond → Byte
  | .good => 0
  | .faulted => 1

def SpanCond.code : SpanCond → Byte
  | .inside => 0
  | .outside => 1

def SpanPosition.code : SpanPosition → Byte
  | .below => 0
  | .above => 1
  | .inside => 2

def SupplyCond.code : SupplyCond → Byte
  | .normal => 0
  | .low => 1

def BusCond.code : BusCond → Byte
  | .ready => 0
  | .fault => 1

def Class.code : Class → Byte
  | .manual => 0
  | .check => 1
  | .restore => 2
  | .compensate => 3

def CheckStep.code : CheckStep → Byte
  | .idle => 0
  | .marker => 1
  | .status => 2

def Session.code : Session → Byte
  | .closed => 0
  | .opened => 1
  | .committing => 2

def InEffect.code : InEffect → Byte
  | .stored => 0
  | .factory => 1
  | .factoryDamaged => 2

def BusOutcome.code : BusOutcome → Byte
  | .done => 0
  | .nackAddress => 1
  | .nackData => 2
  | .timeout => 3
  | .busStuck => 4
  | .busFault => 5

def CancelCause.code : CancelCause → Byte
  | .slotState => 1
  | .addressChanged => 2
  | .addressClaimed => 3

def CopyInfo.code : CopyInfo → Byte
  | .empty => 0
  | .valid _ => 1
  | .removed _ => 2
  | .damaged => 3
  | .programming => 4

def copyCode : CopyName → Byte
  | .a => 0
  | .b => 1

/-- Active copy: A 00h, B 01h, none FFh. -/
def activeCode : Option CopyName → Byte
  | some n => copyCode n
  | none => 0xFF

/-- Slot 00h to 07h, NONE FFh. -/
def slotCode : Option Slot → Byte
  | some i => byteOf i.val
  | none => 0xFF

/-- Store object kind codes. -/
def objKind : ObjId → Byte
  | .settings => 0
  | .target _ => 1
  | .image _ => 2
  | .profile _ => 3

/-- The id of a store object within its kind. -/
def objIdByte : ObjId → Byte
  | .settings => 0
  | .target i => byteOf i.val
  | .image i => byteOf i.val
  | .profile i => byteOf i.val

/-- Load cursor: step kind (IDENTITY 00h to END 05h) and index. -/
def LoadStep.bytes : LoadStep → List Byte
  | .identity => [0, 0]
  | .image i => [1, byteOf i]
  | .profile i => [2, byteOf i]
  | .latch => [3, 0]
  | .marker => [4, 0]
  | .finish => [5, 0]

/-- Origin code of a failed transfer with its index or profile id (R197). A MANUAL transfer fails no
slot; its origin has no code there. -/
def Origin.bytes : Origin → List Byte
  | .identity => [0, 0]
  | .image i => [1, byteOf i]
  | .loadProfile id => [2, byteOf id.val]
  | .loadLatch => [3, 0]
  | .loadMarker => [4, 0]
  | .checkMarker => [5, 0]
  | .checkStatus => [6, 0]
  | .profile id => [7, byteOf id.val]
  | .latch => [8, 0]
  | .request _ => [0, 0]

/-- A detail (R197): presence, kind and two bytes, and for a failed origin the bus outcome as one byte
more; an absent detail is 00h throughout (log 19). -/
def Detail.bytes : Detail → List Byte
  | .absent => [0, 0, 0, 0]
  | .byteRead b => [1, 1, 0, b]
  | .failed o out => [1, 2] ++ (o.bytes ++ [out.code])

/-- Stages of a LIMIT notice: NEITHER 00h, LIMIT 01h, FINAL 02h, BOTH 03h (R197). -/
def Stages.code (st : Stages) : Byte := (if st.limit then 1 else 0) + (if st.final then 2 else 0)

/-! ### Records (RECORD ENCODINGS) -/

def widthCode : Width → Byte
  | .byte => 0
  | .word => 1

def orderCode : WordOrder → Byte
  | .highFirst => 0
  | .lowFirst => 1

def interpCode : Interpolation → Byte
  | .step => 0
  | .linear => 1

def derateModeCode : DerateMode → Byte
  | .plain => 0
  | .shift => 1

def speedCode : BusSpeed → Byte
  | .khz100 => 0
  | .khz400 => 1

def startModeCode : StartMode → Byte
  | .run => 1
  | .hold => 2

/-- The fields of a profile header, 17 bytes before the point count. -/
def headerBytes (h : ProfileHeader) : List Byte :=
  [flagByte h.enabled, byteOf h.slot, h.param, widthCode h.width, orderCode h.order, byteOf h.rank, interpCode h.interp]
    ++ (be16 h.lower ++ (be16 h.upper ++ (be16 h.stepLimit ++ (optional 2 (h.start.map be16) ++ [derateModeCode h.derate]))))

def pointBytes (p : Point) : List Byte := signed16 p.temp ++ be16 p.value

def identityBytes (c : IdentityCheck) : List Byte := [c.reg, c.expected, c.mask]

def regValueBytes (c : RegValue) : List Byte := [c.reg, c.value]

def statusBytes (c : StatusCheck) : List Byte := [c.reg, c.mask]

/-- A target record, 18 bytes. -/
def recordBytes (r : TargetRecord) : List Byte :=
  [r.addr, flagByte r.autoStart] ++ (optional 3 (r.identity.map identityBytes) ++ (optional 2 (r.marker.map regValueBytes)
    ++ (optional 2 (r.status.map statusBytes) ++ (optional 2 (r.latch.map regValueBytes)
    ++ (be16 r.checkPeriod ++ [byteOf r.retryLimit])))))

/-- One image entry, 5 bytes. -/
def entryBytes (e : ImageEntry) : List Byte := [e.reg, widthCode e.width] ++ (be16 e.value ++ [byteOf e.delay])

/-- The settings, 18 bytes. -/
def settingsBytes (s : Settings) : List Byte :=
  be16 s.period ++ ([s.source.code, byteOf s.k, byteOf s.h] ++ (signed16 s.low ++ (signed16 s.high ++ (be16 s.floor
    ++ (be16 s.margin ++ [speedCode s.speed, byteOf s.holdTime, byteOf s.recoveryLimit, byteOf s.deratePin,
    startModeCode s.startMode])))))

/-- The bytes an image entry sends after the register address: high byte first for a WORD (R59). -/
def imageData (e : ImageEntry) : List Byte := parameterBytes e.width .highFirst e.value

/-! ### Frames (R172) -/

/-- One bit-serial step of the CRC-16, polynomial 1021h, repeated. -/
def crcShift : Nat → Word16 → Word16
  | 0, c => c
  | n + 1, c => crcShift n (if c.msb then (c <<< 1) ^^^ 0x1021#16 else c <<< 1)

/-- The CRC-16 carried over bytes, most significant bit first, no final inversion (R172). -/
def crcOver : List Byte → Word16 → Word16
  | [], c => c
  | b :: bs, c => crcOver bs (crcShift 8 (c ^^^ (b.setWidth 16 <<< 8)))

/-- The CRC-16 of some bytes with initial value FFFFh (R172). -/
def crc16 (bytes : List Byte) : Word16 := crcOver bytes 0xFFFF#16

/-- Frame kinds. -/
def kindRequest : Byte := 1
def kindReply : Byte := 2
def kindNotice : Byte := 3
def kindAck : Byte := 4

/-- A frame's bytes: SYNC, LEN, KIND, TAG, payload, CRC high byte first; the CRC covers LEN to the last
payload byte (R172). -/
def frameBytes (kind tag : Byte) (payload : List Byte) : List Byte :=
  let covered := byteOf (payload.length + 2) :: kind :: tag :: payload
  0xA5 :: (covered ++ be16 (crc16 covered).toNat)

/-- The digest of a request: the CRC-16 over its whole payload, code included (R172). -/
def digestOf (payload : List Byte) : Word16 := crc16 payload

/-- Result codes (R183, CODES). -/
inductive Result where
  | ok
  | unknownRequest
  | badArgument
  | busy
  | tagInUse
  | wrongState
  | targetState
  | noEdit
  | invalid
  | storeFault
  | addressOwned
  | queueFull
  | cancelled
  | transferFailed
  deriving DecidableEq, Repr

def Result.code : Result → Byte
  | .ok => 0x00
  | .unknownRequest => 0x01
  | .badArgument => 0x02
  | .busy => 0x03
  | .tagInUse => 0x04
  | .wrongState => 0x05
  | .targetState => 0x06
  | .noEdit => 0x07
  | .invalid => 0x08
  | .storeFault => 0x09
  | .addressOwned => 0x0A
  | .queueFull => 0x0B
  | .cancelled => 0x0C
  | .transferFailed => 0x0D

/-- A reply payload: request code as received (00h without one), result, content (R196). -/
def replyPayload (code : Option Byte) (r : Result) (content : List Byte) : List Byte :=
  code.getD 0 :: r.code :: content

/-! ### Request codes (REQUESTS) -/

/-- The request codes of the catalogue. -/
def requestCodes : List Byte :=
  [0x01, 0x02, 0x03, 0x04, 0x05, 0x06, 0x07, 0x08, 0x10, 0x11, 0x12, 0x13, 0x14, 0x15, 0x20, 0x21,
   0x30, 0x31, 0x32, 0x33, 0x34, 0x35, 0x36, 0x37, 0x38]

/-- The request code of a frame, absent for an empty payload (R174). -/
def Frame.code (f : Frame) : Option Byte := f.payload.head?

/-- The argument bytes after the request code. -/
def Frame.args (f : Frame) : List Byte := f.payload.tail

end Sys2Proof.Machine
end

