-- ==== Sys2Proof/Machine/Notices.lean ====
section
/-! DEFINITION. The Notice Unit (spec/11_notices.md) and the payload of a notice (R197): appending,
sending order, acknowledgement, retransmission, the stall and ALERT_N. -/

namespace Sys2Proof.Machine

/-! ### Kind, subject and payload -/

/-- Kind code of a notice (12 NOTICE PAYLOADS). -/
def NoticeContent.kind : NoticeContent → Byte
  | .started .. => 0x01
  | .target .. => 0x02
  | .indexSpan .. => 0x03
  | .sensor .. => 0x04
  | .supply .. => 0x05
  | .busFault .. => 0x06
  | .busReady .. => 0x06
  | .storeDamaged .. => 0x07
  | .storeCommit .. => 0x07
  | .editExpired .. => 0x08
  | .limit .. => 0x09
  | .linkOverrun .. => 0x0A

/-- Subject bytes: 00h and the slot, 00h and the profile id, object kind and id, or FFh FFh (R197). -/
def NoticeContent.subject : NoticeContent → List Byte
  | .target slot .. => [0, byteOf slot.val]
  | .limit id .. => [0, byteOf id.val]
  | .storeDamaged obj .. => [objKind obj, objIdByte obj]
  | .storeCommit obj .. => [objKind obj, objIdByte obj]
  | _ => [0xFF, 0xFF]

/-- The items of the kind's rule in its order (R197; log 19). -/
def NoticeContent.bytes : NoticeContent → List Byte
  | .started cause part eff baud r ti source sup =>
      [cause.code, part.code, eff.code, baud.setWidth 8, byteOf r.nTargets, byteOf r.nImages, byteOf r.nProfiles,
       byteOf r.damagedCopies, byteOf r.absentByDamage.length] ++ (signed16 ti ++ [source.code, sup.code])
  | .target slot before after reason detail addr recovery loads losses faults =>
      [byteOf slot.val, before.code, after.code, reason.code] ++ (detail.bytes
        ++ ([addr, byteOf recovery] ++ (be16 loads ++ (be16 losses ++ be16 faults))))
  | .indexSpan ti low high position => signed16 ti ++ (signed16 low ++ (signed16 high ++ [position.code]))
  | .sensor reason remote status inUse effective =>
      reason.code :: (signed16 remote ++ [status.code, inUse.code, effective.code])
  | .supply reading floor margin cond => be16 reading ++ (be16 floor ++ (be16 margin ++ [cond.code]))
  | .busFault attempts cls slot addr answered =>
      BusCond.fault.code :: (be16 attempts ++ [cls.code, slotCode slot, addr, byteOf answered])
  | .busReady attempts seconds => BusCond.ready.code :: (be16 attempts ++ be32 seconds)
  | .storeDamaged obj a b => [0, objKind obj, objIdByte obj, a.code, b.code]
  | .storeCommit obj copy gen a b =>
      [1, objKind obj, objIdByte obj, copyCode copy] ++ (be16 gen.toNat ++ [a.code, b.code])
  | .editExpired obj isNew removal => [objKind obj, objIdByte obj, flagByte isNew, flagByte removal]
  | .limit id slot flag stages computed output lower upper ti isLoad =>
      [byteOf id.val, byteOf slot, flagByte flag, stages.code] ++ (be16 computed ++ (be16 output ++ (be16 lower
        ++ (be16 upper ++ (signed16 ti ++ [flagByte isLoad])))))
  | .linkOverrun tag code count => [tag, code] ++ be16 count

/-- The payload of a notice frame (R197). -/
def Entry.payload (e : Entry) : List Byte :=
  e.content.kind :: (e.content.subject ++ ([e.severity.code, byteOf e.changes, flagByte e.lost] ++ e.content.bytes))

/-- Two notices of the same kind and subject (R186). -/
def sameSubject (a b : NoticeContent) : Bool := a.kind == b.kind && a.subject == b.subject

/-! ### The queue -/

/-- An outstanding entry: transmitted and still in the queue (R186). -/
def Entry.outstanding (e : Entry) : Bool := e.transmitted

/-- An untransmitted entry. -/
def Entry.untransmitted (e : Entry) : Bool := !e.transmitted

/-- The number of outstanding entries. -/
def outstandingCount (queue : List Entry) : Nat := (queue.filter Entry.outstanding).length

/-- A new entry of R187 step 2. -/
def newEntry (n : Notice) (lost : Bool) : Entry := ⟨n.severity, n.content, 1, lost, false, none, 0, false⟩

/-- An entry that takes a later notice of its kind and subject (R187 step 1). -/
def mergeEntry (n : Notice) (e : Entry) : Entry :=
  { e with content := n.content, severity := e.severity.higher n.severity, changes := min 255 (e.changes + 1) }

/-- Whether a notice merges into an entry (R187 step 1). -/
def mergesInto (n : Notice) (e : Entry) : Bool := e.untransmitted && sameSubject e.content n.content

/-- The lowest severity among the untransmitted entries (R187 step 3). -/
def lowestSeverity : List Entry → Option Severity
  | [] => none
  | e :: es =>
    match e.transmitted, lowestSeverity es with
    | true, r => r
    | false, none => some e.severity
    | false, some r => some (if r.rank < e.severity.rank then r else e.severity)

/-- An append at the NU (R187): merge, room, displace or drop. -/
def appendTo (n : Notice) (nu : Nu) : Nu :=
  if nu.queue.any (mergesInto n) then
    { nu with queue := changeFirst (mergesInto n) (mergeEntry n) nu.queue }
  else if nu.queue.length < Config.noticePlaces then
    { nu with queue := nu.queue ++ [newEntry n nu.lostPending], lostPending := false }
  else
    match lowestSeverity nu.queue with
    | some low =>
      if low.rank < n.severity.rank then
        { nu with
          queue := dropFirst (fun e => e.untransmitted && e.severity == low) nu.queue ++ [newEntry n true]
          lostPending := false }
      else { nu with lostPending := true }
    | none => { nu with lostPending := true }

/-- Whether a notice is eligible for the transmitter (R188). -/
def noticeEligible (nu : Nu) : Bool :=
  !nu.stalled && (nu.queue.any (fun e => e.outstanding && e.due)
    || (nu.queue.any Entry.untransmitted && decide (outstandingCount nu.queue < Config.noticeWindow)))

/-- The retransmit timer is started with 200 ms when it is not running (R188). -/
def startRetransmit (now : Nat) (nu : Nu) : Nu :=
  match nu.timer with
  | some _ => nu
  | none => { nu with timer := some (now + 200) }

/-- The entry R188 hands over: the oldest due one, else the oldest untransmitted one. -/
def nextToSend (nu : Nu) : Option Entry :=
  match nu.queue.find? (fun e => e.outstanding && e.due) with
  | some e => some e
  | none => nu.queue.find? Entry.untransmitted

/-- The handing of R188: a due entry loses its due flag; an untransmitted one takes the next sequence
number and becomes transmitted; the timer is started. -/
def handNotice (now : Nat) (nu : Nu) : Nu :=
  startRetransmit now
    (if nu.queue.any (fun e => e.outstanding && e.due) then
      { nu with queue := changeFirst (fun e => e.outstanding && e.due) (fun e => { e with due := false }) nu.queue }
    else
      { nu with
        queue := changeFirst Entry.untransmitted (fun e => { e with seq := some nu.nextSeq, transmitted := true }) nu.queue
        nextSeq := nu.nextSeq + 1 })

/-- The sequence number the handed entry is sent with: its own, or the next one at its first sending
(R188). -/
def sentNumber (nu : Nu) (e : Entry) : Byte := e.seq.getD nu.nextSeq

/-! ### Acknowledgement and retransmission -/

/-- Whether an entry is outstanding under a number (R189). -/
def numbered (tag : Byte) (e : Entry) : Bool := e.outstanding && e.seq == some tag

/-- The queue after an ACK: the entry it names and every entry before it are gone (R189). -/
def afterAck (tag : Byte) : List Entry → List Entry
  | [] => []
  | e :: es => if numbered tag e then es else afterAck tag es

/-- An ACK at the NU (R189). -/
def acknowledge (now : Nat) (tag : Byte) (nu : Nu) : Nu :=
  if nu.queue.any (numbered tag) then
    { nu with
      queue := afterAck tag nu.queue
      timer := if (afterAck tag nu.queue).any Entry.outstanding then some (now + 200) else none }
  else nu

/-- The end of a stall at a valid frame (R191). -/
def endStall (nu : Nu) : Nu :=
  if nu.stalled then
    { nu with
      stalled := false
      queue := nu.queue.map (fun e => if e.outstanding then { e with due := true, retrans := 0 } else e) }
  else nu

/-- The delivery of a valid frame to the NU, with the TAG of an ACK: the ACK first, then the end of a
stall (R189, R191). -/
def validFrameAtNu (now : Nat) (ack : Option Byte) (nu : Nu) : Nu :=
  match ack with
  | some tag => endStall (acknowledge now tag nu)
  | none => endStall nu

/-- The expiry of the retransmit timer (R190). -/
def retransmitExpiry (nu : Nu) : Nu :=
  match nu.queue.find? Entry.outstanding with
  | none => { nu with timer := none }
  | some oldest =>
    if 8 ≤ oldest.retrans then { nu with timer := none, stalled := true }
    else
      { nu with
        timer := none
        queue := nu.queue.map (fun e => if e.outstanding then { e with due := true, retrans := e.retrans + 1 } else e) }

/-- The NU's state is replaced and ALERT_N set from its queue (R192). -/
def setNu (nu : Nu) (s : State) : State :=
  { s with nu := nu, pins := { s.pins with alertN := alertLevel nu.queue } }

end Sys2Proof.Machine
end

