-- ==== Sys2Proof/Machine/Link.lean ====
section
/-! DEFINITION. The Host Link (spec/10_host_link.md): the reply queue, the reply cache, the pending
table, the transmitter, the receive machine, the intake and the steps of dispatch before execution. -/

namespace Sys2Proof.Machine

/-! ### Replies and the transmitter -/

/-- A reply joins the tail of the reply queue (R180). -/
def pushReply (r : Reply) (s : State) : State := { s with hl := { s.hl with replies := s.hl.replies ++ [r] } }

/-- A reply appended for the first time is entered in the cache; with 4 entries the oldest goes (R181). -/
def cacheReply (e : CacheEntry) (s : State) : State :=
  let kept := if s.hl.cache.length < Config.cachePlaces then s.hl.cache else s.hl.cache.tail
  { s with hl := { s.hl with cache := kept ++ [e] } }

/-- The ended entry that waits longest, by the order in which the operations ended (R180). -/
def nextEnded (pend : List PendingEntry) : Option PendingEntry :=
  leastBy (fun e => (e.ended.map Prod.fst).getD 0) (pend.filter (fun e => e.ended.isSome))

/-- The waiting reply of one ended entry takes its place in the queue, and its entry ends (R179, R180). -/
def admitEnded (e : PendingEntry) (s : State) : State :=
  let payload := (e.ended.map Prod.snd).getD []
  let s1 : State := { s with hl := { s.hl with pend := s.hl.pend.filter (fun x => x.tag != e.tag) } }
  cacheReply ⟨e.tag, some e.code, e.digest, payload⟩ (pushReply ⟨e.tag, payload, false⟩ s1)

/-- Replies of ended operations are appended while the reply queue has room (R180 step 1). -/
def fillReplies : Nat → State → State
  | 0, s => s
  | n + 1, s =>
    if s.hl.replies.length < Config.replyPlaces then
      match nextEnded s.hl.pend with
      | none => s
      | some e => fillReplies n (admitEnded e s)
    else s

/-- The oldest reply leaves the queue and is sent; the fairness count rises to at most 4; the freed
room is filled (R180, R182). -/
def sendReply (r : Reply) (rest : List Reply) (s : State) : State :=
  fillReplies Config.pendingPlaces
    { s with hl := { s.hl with
        replies := rest
        tx := some ⟨frameBytes kindReply r.tag r.payload, r.restart⟩
        fairness := min 4 (s.hl.fairness + 1) } }

/-- The NU hands over a notice and it is sent; the fairness count returns to 0 (R182, R188). -/
def sendNotice (s : State) : State :=
  match nextToSend s.nu with
  | none => s
  | some e =>
    setNu (handNotice s.now s.nu)
      { s with hl := { s.hl with
          tx := some ⟨frameBytes kindNotice (sentNumber s.nu e) e.payload, false⟩
          fairness := 0 } }

/-- The choice of the idle transmitter (R182). -/
def txChoose (s : State) : State :=
  if s.hl.tx.isSome then s
  else match s.hl.replies with
    | r :: rest => if noticeEligible s.nu && decide (4 ≤ s.hl.fairness) then sendNotice s else sendReply r rest s
    | [] => if noticeEligible s.nu then sendNotice s else s

/-- A reply is appended to the reply queue, and an idle transmitter chooses (R180, R182). -/
def appendReply (r : Reply) (s : State) : State := txChoose (pushReply r s)

/-- A reply appended for the first time, entered in the cache at its appending (R181). -/
def answerNow (tag : Byte) (code : Option Byte) (digest : Word16) (payload : List Byte) (restart : Bool) (s : State) : State :=
  txChoose (cacheReply ⟨tag, code, digest, payload⟩ (pushReply ⟨tag, payload, restart⟩ s))

/-- An operation ends with its reply (R179): appended as part of the delivery when the queue has room,
else waiting in its entry. An operation that no entry names answers nothing. -/
def endPending (op : PendingOp) (payload : List Byte) (s : State) : State :=
  match s.hl.pend.find? (fun e => e.op == op && e.ended.isNone) with
  | none => s
  | some e =>
    if s.hl.replies.length < Config.replyPlaces then
      answerNow e.tag (some e.code) e.digest payload false
        { s with hl := { s.hl with pend := s.hl.pend.filter (fun x => x.tag != e.tag) } }
    else
      { s with hl := { s.hl with
          pend := s.hl.pend.map (fun x => if x.tag = e.tag then { x with ended := some (s.hl.endedCount, payload) } else x)
          endedCount := s.hl.endedCount + 1 } }

/-- A taken deferred request creates its pending entry (R179). -/
def addPending (f : Frame) (op : PendingOp) (s : State) : State :=
  { s with hl := { s.hl with
      pend := s.hl.pend ++ [⟨f.tag, f.code.getD 0, digestOf f.payload, op, none⟩] } }

/-! ### Dispatch -/

/-- An immediate reply, appended during the dispatch (R178 step 6). -/
def reply (f : Frame) (r : Result) (content : List Byte) (s : State) : State :=
  answerNow f.tag f.code (digestOf f.payload) (replyPayload f.code r content) false s

/-- Refusal for the part state (R165). -/
def refuseState (f : Frame) (s : State) : State := reply f .wrongState [s.oc.part.code] s

/-- The intake is replaced and HRDY set; HRDY is low while the part is held in reset (R161, R175). -/
def setIntake (frames : List Frame) (s : State) : State :=
  { s with hl := { s.hl with intake := frames }, pins := { s.pins with hrdy := !s.oc.held && hrdyLevel frames } }

/-- Whether dispatch may take a frame: room for a reply and no restart pending (R176). -/
def mayDispatch (s : State) : Bool :=
  decide (s.hl.replies.length < Config.replyPlaces) && s.oc.restart.isNone && !s.oc.held

/-- The entry of a TAG leaves the cache (R177 step 3). -/
def evictTag (tag : Byte) (s : State) : State :=
  { s with hl := { s.hl with cache := s.hl.cache.filter (fun e => e.tag != tag) } }

/-- Steps 1 to 3 of dispatch on a frame already taken from the intake (R177), then the request itself. -/
def judgeTag (f : Frame) (body : Frame → State → State) (s : State) : State :=
  if s.hl.pend.any (fun e => e.tag == f.tag) then
    appendReply ⟨f.tag, replyPayload f.code .tagInUse [], false⟩ s
  else match s.hl.cache.find? (fun e => e.tag == f.tag) with
    | some e =>
      if e.code = f.code ∧ e.digest = digestOf f.payload then appendReply ⟨f.tag, e.payload, false⟩ s
      else body f (evictTag f.tag s)
    | none => body f s

/-- The dispatch of the oldest intake frame when it is one the command names (R176 to R178; log 16);
otherwise the happening is not due. -/
def dispatch (names : Option Byte → Bool) (body : Frame → State → State) (s : State) : State :=
  match s.hl.intake with
  | [] => s
  | f :: rest => if mayDispatch s && names f.code then judgeTag f body (setIntake rest s) else s

/-! ### The receive machine -/

/-- What a character is to the receive machine (log 17). -/
inductive CharClass where
  | plain
  | request
  | ack
  | invalid
  deriving DecidableEq, Repr

/-- The CRC judgement of a whole frame (R174). -/
def crcMatches (len : Byte) (bytes : List Byte) (hi lo : Byte) : Bool :=
  crc16 (len :: bytes) == BitVec.ofNat 16 (nat16 hi lo)

/-- KIND of a frame body. -/
def bodyKind (bytes : List Byte) : Byte := bytes.headD 0

/-- TAG of a frame body. -/
def bodyTag (bytes : List Byte) : Byte := bytes.tail.headD 0

/-- Payload of a frame body. -/
def bodyPayload (bytes : List Byte) : List Byte := bytes.tail.tail

/-- Class of a character in the present state of the machine (R171, R173, R174). -/
def classify (rx : Rx) (c : Byte) (framingError : Bool) : CharClass :=
  match rx, framingError with
  | .hunt, _ => .plain
  | _, true => .invalid
  | .length, false => if 2 ≤ c.toNat ∧ c.toNat ≤ 250 then .plain else .invalid
  | .body _ _, false => .plain
  | .check _ _ none, false => .plain
  | .check len bytes (some hi), false =>
    if crcMatches len bytes hi c then
      if bodyKind bytes = kindRequest then .request else if bodyKind bytes = kindAck then .ack else .invalid
    else .invalid

/-- The receive machine after a character that does not end a frame (R173); a character of another
class leaves it in HUNT. -/
def nextRx (rx : Rx) (c : Byte) (framingError : Bool) : Rx :=
  match rx, framingError with
  | .hunt, true => .hunt
  | .hunt, false => if c = 0xA5 then .length else .hunt
  | _, true => .hunt
  | .length, false => if 2 ≤ c.toNat ∧ c.toNat ≤ 250 then .body c [] else .hunt
  | .body len bytes, false =>
    if (bytes ++ [c]).length < len.toNat then .body len (bytes ++ [c]) else .check len (bytes ++ [c]) none
  | .check len bytes none, false => .check len bytes (some c)
  | .check _ _ (some _), false => .hunt

/-- The gap timer after a character: running while a frame is in progress (R173). -/
def nextGap (now : Nat) : Rx → Option Nat
  | .hunt => none
  | _ => some (now + 5)

/-- The receive machine and the gap timer move on. -/
def moveRx (rx : Rx) (s : State) : State := { s with hl := { s.hl with rx := rx, gap := nextGap s.now rx } }

/-- A valid frame is delivered to the NU, and the transmitter chooses where a notice became eligible
(R174, R188, R191). -/
def deliverFrame (ack : Option Byte) (s : State) : State := txChoose (setNu (validFrameAtNu s.now ack s.nu) s)

/-- A valid REQUEST frame at the intake (R175). The overrun of a frame without a code carries 00h (log 19). -/
def intakeFrame (f : Frame) (s : State) : State :=
  if s.hl.intake.length < Config.intakePlaces then setIntake (s.hl.intake ++ [f]) s
  else
    let count := satInc s.hl.overruns
    let s1 : State := { s with hl := { s.hl with overruns := count } }
    if s.oc.part = .start then
      { s1 with hl := { s1.hl with startOverrun := some (f.tag, f.code.getD 0) } }
    else postNotice .warn (.linkOverrun f.tag (f.code.getD 0) count) s1

/-- The frame in progress with its body, when the machine is in CHECK. -/
def bodyInCheck : Rx → List Byte
  | .check _ bytes _ => bytes
  | _ => []

end Sys2Proof.Machine
end

