-- ==== Sys2Proof/Machine/Bus.lean ====
section
/-! DEFINITION. The Bus Master (spec/06_downstream_bus_and_transfer_queue.md): the transfer queue,
enqueue, replace, move, remove, purge and stale marking, the arbiter, and what a transaction or a
recovery sequence shows on the wire. -/

namespace Sys2Proof.Machine

/-! ### The queue -/

/-- The transfer on the bus (R104). -/
def onBusTransfer (s : State) : Option Transfer := s.bm.queue.find? (fun t => t.onBus)

/-- A transfer of the queue by its handle. -/
def transferById (s : State) (id : Nat) : Option Transfer := s.bm.queue.find? (fun t => t.id == id)

/-- How many transfers of a class the queue holds, WAITING and ON_BUS. -/
def countClass (c : Class) (q : List Transfer) : Nat := (q.filter (fun t => t.cls == c)).length

/-- Why the BM refuses an enqueue (R104). -/
inductive EnqueueRefusal where
  | full
  | classLimit
  | busFault
  deriving DecidableEq, Repr

/-- The judgement of an enqueue (R104). -/
def refuseEnqueue (c : Class) (s : State) : Option EnqueueRefusal :=
  if c = .manual ∧ s.bm.cond = .fault then some .busFault
  else if Config.queuePlaces ≤ s.bm.queue.length then some .full
  else if c = .compensate ∧ Config.compensatePlaces ≤ countClass .compensate s.bm.queue then some .classLimit
  else none

/-- What the enqueuing block fills in (R102); the BM gives handle and age. -/
structure Request where
  origin : Origin
  slot : Option Slot
  addr : Byte
  dir : Dir
  reg : Byte
  data : List Byte
  readLen : Nat
  delay : Nat
  deriving DecidableEq, Repr

/-- The record of a request: attempts 0, WAITING, not stale (R102). -/
def Request.record (r : Request) (id age : Nat) : Transfer :=
  ⟨id, age, r.origin, r.slot, r.addr, r.dir, r.reg, r.data, r.readLen, 0, r.delay, false, false⟩

/-- A taken enqueue adds the record at the present age (R103, R104). The new handle is `s.bm.nextId`. -/
def addTransfer (r : Request) (s : State) : State :=
  { s with bm := { s.bm with
      queue := s.bm.queue ++ [r.record s.bm.nextId s.bm.nextAge]
      nextId := s.bm.nextId + 1
      nextAge := s.bm.nextAge + 1 } }

/-- A transfer of the queue is changed. -/
def modTransfer (id : Nat) (f : Transfer → Transfer) (s : State) : State :=
  { s with bm := { s.bm with queue := s.bm.queue.map (fun t => if t.id = id then f t else t) } }

/-- Replace: the waiting write takes new data and keeps all else (R105). -/
def replaceData (id : Nat) (data : List Byte) (s : State) : State := modTransfer id (fun t => { t with data := data }) s

/-- Move: the waiting latch takes the present as its age (R46, R105). -/
def renewAge (id : Nat) (s : State) : State :=
  let s1 := modTransfer id (fun t => { t with age := s.bm.nextAge }) s
  { s1 with bm := { s1.bm with nextAge := s1.bm.nextAge + 1 } }

/-- The transfers that meet a test leave the queue, one departure announced for each (R106). -/
def departWhere (p : Transfer → Bool) (s : State) : State :=
  { s with
    bm := { s.bm with queue := s.bm.queue.filter (fun t => !p t) }
    msgs := { s.msgs with departures := s.msgs.departures + (s.bm.queue.filter p).length } }

/-- One transfer leaves the queue (R105 Remove, R106). -/
def depart (id : Nat) (s : State) : State := departWhere (fun t => t.id == id) s

/-! ### Manual transfers that end -/

/-- The request code a manual transfer came from. -/
def manualCode (t : Transfer) : Byte := match t.dir with
  | .read => 0x20
  | .write => 0x21

/-- The reply of a manual transfer: slot, bus address, register, then the result's content (R135, R196). -/
def manualReply (t : Transfer) (r : Result) (content : List Byte) : List Byte :=
  replyPayload (some (manualCode t)) r ([slotCode t.slot, t.addr, t.reg] ++ content)

/-- The HL ends the pending request of a manual transfer (R135). -/
def endManual (t : Transfer) (r : Result) (content : List Byte) (s : State) : State :=
  endPending (.transfer t.id) (manualReply t r content) s

/-- CANCELLED outcomes in the order of the queue (R122, R136; log 37). -/
def cancelAll (cause : CancelCause) : List Transfer → State → State
  | [], s => s
  | t :: ts, s => cancelAll cause ts (endManual t .cancelled [cause.code] s)

/-- BUS_FAULT outcomes in the order of the queue (R120, R137; log 37). -/
def faultAll : List Transfer → State → State
  | [], s => s
  | t :: ts, s => faultAll ts (endManual t .transferFailed [BusOutcome.busFault.code] s)

/-! ### Purge and stale -/

/-- A waiting automatic transfer of a slot (R122). -/
def waitingAutomaticOf (slot : Slot) (t : Transfer) : Bool := !t.onBus && t.automatic && t.slot == some slot

/-- A waiting slot-addressed MANUAL transfer of a slot (R122). -/
def waitingManualOf (slot : Slot) (t : Transfer) : Bool := !t.onBus && t.cls == .manual && t.slot == some slot

/-- A waiting raw MANUAL write to an address (R122). -/
def waitingRawWrite (addr : Byte) (t : Transfer) : Bool :=
  !t.onBus && t.cls == .manual && t.slot == none && t.dir == .write && t.addr == addr

/-- Purge of a slot's waiting automatic transfers, without outcomes (R122). -/
def purgeAutomatic (slot : Slot) (s : State) : State := departWhere (waitingAutomaticOf slot) s

/-- Purge of waiting MANUAL transfers, each answered CANCELLED (R122, R136). -/
def purgeManual (p : Transfer → Bool) (cause : CancelCause) (s : State) : State :=
  cancelAll cause (s.bm.queue.filter p) (departWhere p s)

/-- Whether a transfer is the slot's automatic transfer on the bus (R123). -/
def onBusAutomaticOf (slot : Slot) (t : Transfer) : Bool := t.onBus && t.automatic && t.slot == some slot

/-- Stale marking of a slot's on-bus automatic transfer (R123). -/
def markSlotStale (slot : Slot) (s : State) : State :=
  { s with bm := { s.bm with
      queue := s.bm.queue.map (fun t => if onBusAutomaticOf slot t then { t with stale := true } else t) } }

/-- The RESTORE or CHECK transfer the marking names to the TM (R69, R123). -/
def namedHold (slot : Slot) (s : State) : Option Nat :=
  (s.bm.queue.find? (fun t => onBusAutomaticOf slot t && (t.cls == .restore || t.cls == .check))).map Transfer.id

/-- Stale marking by reference (R54, R123). -/
def markStale (id : Nat) (s : State) : State :=
  modTransfer id (fun t => if t.onBus then { t with stale := true } else t) s

/-! ### References of the CE at a grant and a return -/

/-- Move a profile's waiting reference to on-bus when it names the granted transfer (R48). -/
def grantRef (id : ProfileId) (tid : Nat) (s : State) : State :=
  modShadow id (fun sh => match sh.waiting with
    | some w => if w.id = tid then { sh with waiting := none, onBus := some w } else sh
    | none => sh) s

/-- Move a slot's waiting latch reference to on-bus when it names the granted transfer (R48). -/
def grantLatch (slot : Slot) (tid : Nat) (s : State) : State :=
  let l := s.ce.latches[slot]
  if l.waiting = some tid then setLatch slot { l with waiting := none, onBus := some tid } s else s

/-- The CE's part of a grant (R48, R111). -/
def grantReference (t : Transfer) (s : State) : State :=
  match t.origin, t.slot with
  | .profile id, _ => grantRef id t.id s
  | .loadProfile id, _ => grantRef id t.id s
  | .latch, some slot => grantLatch slot t.id s
  | _, _ => s

/-! ### The arbiter -/

/-- Whether a transfer is eligible for a grant (R107). A raw write at the new address of a record that is committed
and not yet taken by the TM is eligible as R107 has it, whatever the state of the slot: DESIGN CHOICE, log 44. -/
def eligible (s : State) (t : Transfer) : Bool :=
  !t.onBus
    && (match t.slot with
        | none => true
        | some slot => match s.bm.quiet[slot] with
          | none => true
          | some q => decide (q ≤ s.now))
    && (t.cls == .manual || s.bm.supply == .normal)

/-- The oldest transfer of a list: the earliest age (R103). -/
def oldest (ts : List Transfer) : Option Transfer := leastBy Transfer.age ts

/-- The oldest transfer of a class. -/
def oldestOf (c : Class) (ts : List Transfer) : Option Transfer := oldest (ts.filter (fun t => t.cls == c))

/-- The choice by class and age (R109). -/
def byPriority (ts : List Transfer) : Option Transfer :=
  (((oldestOf .manual ts).or (oldestOf .check ts)).or (oldestOf .restore ts)).or (oldestOf .compensate ts)

/-- The choice of the arbiter with the starvation count (R110). -/
def arbiterChoice (starvation : Nat) (ts : List Transfer) : Option Transfer :=
  if 8 ≤ starvation then (oldestOf .compensate ts).or (byPriority ts) else byPriority ts

/-- The starvation count after a grant (R110). -/
def starvationAfter (starvation : Nat) (ts : List Transfer) (granted : Transfer) : Nat :=
  if granted.cls = .compensate then 0
  else if (oldestOf .compensate ts).isSome then min 8 (starvation + 1) else 0

/-- The bus is idle: no transfer on it and no recovery in progress. -/
def busIdle (s : State) : Bool := (onBusTransfer s).isNone && !s.bm.recovering

/-- The eligible transfers of the queue. -/
def eligibleTransfers (s : State) : List Transfer := s.bm.queue.filter (eligible s)

/-- A grant: ON_BUS, speed taken, an owed STOP dropped, the CE's reference moved (R111, R115). -/
def grant (t : Transfer) (s : State) : State :=
  let s1 : State := { s with bm := { s.bm with
      starvation := starvationAfter s.bm.starvation (eligibleTransfers s) t
      speed := (activeSettings s).speed
      owedStop := false } }
  grantReference t (modTransfer t.id (fun x => { x with onBus := true }) s1)

/-- A grant decision (R108 to R110). -/
def grantDecision (s : State) : State :=
  if busIdle s ∧ s.bm.cond = .ready then
    match arbiterChoice s.bm.starvation (eligibleTransfers s) with
    | none => s
    | some t => grant t s
  else s

/-- The grant decision at the end of a happening in which the BM took an enqueue (R108, log 28). -/
def decideIfEnqueued (before after : State) : State :=
  if before.bm.nextId < after.bm.nextId then grantDecision after else after

/-! ### The wire -/

/-- The address byte: 7-bit address and direction bit (06 TRANSACTIONS). -/
def addressByte (addr : Byte) (d : Dir) : Byte :=
  (addr <<< 1) ||| (match d with
    | .write => 0
    | .read => 1)

/-- The acknowledge of the n-th byte: a bit nobody drives reads as a refusal (log 21). -/
def ackAt (acks : List Bool) (n : Nat) : Bool := acks.getD n false

/-- Bytes sent in order with their acknowledges, up to and including the first refusal (R113). -/
def sentBytes (acks : List Bool) : Nat → List Byte → List WireItem
  | _, [] => []
  | n, b :: bs => if ackAt acks n then .sent b true :: sentBytes acks (n + 1) bs else [.sent b false]

/-- The first byte refused among `count` bytes. -/
def firstRefusal (acks : List Bool) (count : Nat) : Option Nat :=
  (List.range count).find? (fun n => !ackAt acks n)

/-- The bytes a read receives: what the target drives, and FFh from the released line after it
(R135; log 21). -/
def receivedBytes (data : List Byte) (n : Nat) : List Byte :=
  (List.range n).map (fun i => data.getD i 0xFF)

/-- Received bytes on the wire: each acknowledged but the last (R114). -/
def receivedItems : List Byte → List WireItem
  | [] => []
  | [b] => [.received b false]
  | b :: bs => .received b true :: receivedItems bs

/-- The outcome of a WRITE of some data bytes (R113). -/
def writeOutcome (acks : List Bool) (count : Nat) : BusOutcome :=
  match firstRefusal acks (count + 2) with
  | none => .done
  | some 0 => .nackAddress
  | some _ => .nackData

/-- The outcome of a READ (R114): the second address byte is the third acknowledge. -/
def readOutcome (acks : List Bool) : BusOutcome :=
  match firstRefusal acks 3 with
  | none => .done
  | some 1 => .nackData
  | some _ => .nackAddress

/-- The outcome of a transaction (R113 to R115). A clock held for more than 25 ms is TIMEOUT also where a byte was
refused before it and the STOP has not been sent: DESIGN CHOICE, log 43. -/
def transactionOutcome (t : Transfer) : BusResponse → BusOutcome
  | .lineStuck _ => .busStuck
  | .clockHeld _ _ _ => .timeout
  | .complete acks _ => match t.dir with
    | .write => writeOutcome acks t.data.length
    | .read => readOutcome acks

/-- What a complete transaction shows on SCL and SDA (R113, R114). -/
def completeWire (t : Transfer) (acks : List Bool) (data : List Byte) : List WireItem :=
  match t.dir with
  | .write => .startCond :: (sentBytes acks 0 (addressByte t.addr .write :: t.reg :: t.data) ++ [.stopCond])
  | .read =>
    let head := sentBytes acks 0 [addressByte t.addr .write, t.reg]
    if ackAt acks 0 && ackAt acks 1 then
      .startCond :: (head ++ .startCond :: (if ackAt acks 2 then
        .sent (addressByte t.addr .read) true :: (receivedItems (receivedBytes data t.readLen) ++ [.stopCond])
      else [.sent (addressByte t.addr .read) false, .stopCond]))
    else .startCond :: (head ++ [.stopCond])

/-- What stands on the lines when SDA is low before a START: nothing before the first one; before the
repeated START of a READ its START, address and register, both acknowledged, since a refusal would have
ended it (R114, R115). -/
def stuckWire (t : Transfer) (repeated : Bool) : List WireItem :=
  match t.dir, repeated with
  | .read, true => [.startCond, .sent (addressByte t.addr .write) true, .sent t.reg true]
  | _, _ => []

/-- What a transaction shows on SCL and SDA; a held clock ends it without STOP, a stuck line before the
START that met it (R115). -/
def transactionWire (t : Transfer) : BusResponse → List WireItem
  | .complete acks data => completeWire t acks data
  | .clockHeld n acks data => (completeWire t acks data).dropLast.take n
  | .lineStuck repeated => stuckWire t repeated

/-- Whether a recovery sequence releases the line (R119). -/
def lineReleased : RecoveryRun → Bool
  | .sdaHighAfter _ => true
  | _ => false

/-- What a recovery sequence shows on SCL and SDA: its pulses, and STOP when SDA is high (R119). -/
def recoveryWire : RecoveryRun → List WireItem
  | .sdaHighAfter n => List.replicate (n.val + 1) .pulse ++ [.stopCond]
  | .clockHeldAt n => List.replicate (n.val + 1) .pulse
  | .stillLow => List.replicate 9 .pulse

/-- The wire record of the latest activity is replaced. -/
def setWire (w : List WireItem) (s : State) : State := { s with bm := { s.bm with wire := w } }

end Sys2Proof.Machine
end

