-- ==== Sys2Proof/Machine/Compensation.lean ====
section
/-! DEFINITION. The Compensation Engine (spec/03): evaluation into the shadow, invalidation, outcomes
of compensation and profile-step writes, and the pass with its latches. -/

namespace Sys2Proof.Machine

/-- Ti as an evaluation reads it; ABSENT is not met (R9; log 12). -/
def evalIndex (s : State) : Int := s.mu.ti.getD Config.absentIndex

/-! ### Invalidation -/

/-- A shadow that is invalidated with its slot: UNKNOWN, no references, DEFERRED clear; computed value
and clamped flag kept (R53). -/
def clearShadow (sh : Shadow) : Shadow :=
  { sh with written := none, waiting := none, onBus := none, deferred := false }

/-- Whether a profile's active content names a slot, enabled or not (R53). -/
def profileNames (s : State) (slot : Slot) (id : ProfileId) : Bool :=
  match activeProfile s id with
  | some p => p.header.slot == slot.val
  | none => false

/-- The CE invalidates a slot as one happening (R53). -/
def invalidateSlot (slot : Slot) (s : State) : State :=
  { s with
    ce := { s.ce with
      shadows := mapTable (fun id sh => if profileNames s slot id then clearShadow sh else sh) s.ce.shadows
      latches := s.ce.latches.set slot LatchState.reset }
    msgs := { s.msgs with ceInvalidate := s.msgs.ceInvalidate.set slot false } }

/-- An invalidation asked for and not yet taken is taken before the CE works on the slot again (R53;
log 6); a profile activation not yet taken is not (log 34). -/
def settleInvalidation (slot : Slot) (s : State) : State :=
  if s.msgs.ceInvalidate[slot] then invalidateSlot slot s else s

/-- Outstanding invalidations of several slots, in order. -/
def settleInvalidations : List Slot → State → State
  | [], s => s
  | i :: is, s => settleInvalidations is (settleInvalidation i s)

/-! ### Evaluation into the shadow -/

/-- The content of a LIMIT notice (R35). -/
def limitNotice (id : ProfileId) (p : Profile) (e : Evaluation) (ti : Int) (isLoad : Bool) : NoticeContent :=
  .limit id p.header.slot e.stages.flag e.stages e.computed e.output p.header.lower p.header.upper ti isLoad

/-- The evaluation of a profile at the present inputs (R20). -/
def evaluateNow (s : State) (id : ProfileId) (p : Profile) : Evaluation :=
  evaluate p (evalIndex s) s.ce.trims[id] (effectiveDerate s) s.ce.shadows[id].reference

/-- The shadow takes computed value and clamped flag; a changed flag appends a LIMIT notice (R34, R43). -/
def recordEvaluation (id : ProfileId) (p : Profile) (e : Evaluation) (isLoad : Bool) (s : State) : State :=
  let s1 := modShadow id (fun sh => { sh with computed := some e.computed, clamped := e.stages.flag }) s
  if s.ce.shadows[id].clamped = e.stages.flag then s1
  else postNotice .info (limitNotice id p e (evalIndex s) isLoad) s1

/-- The data of a profile's write (R19). -/
def profileData (p : Profile) (v : Nat) : List Byte := parameterBytes p.header.width p.header.order v

/-! ### Outcomes -/

/-- A DONE named by the on-bus reference of a profile (R49). -/
def doneShadow (tid : Nat) (sh : Shadow) : Shadow :=
  match sh.onBus with
  | some b => if b.id = tid then { sh with written := some b.value, onBus := none } else sh
  | none => sh

/-- Whether an on-bus reference names a transfer. -/
def namedBy (tid : Nat) (r : Option Ref) : Bool := r.any (fun b => b.id == tid)

/-- A failure named by the on-bus reference of a profile: UNKNOWN, references none, DEFERRED clear; the
waiting write is removed (R50). -/
def failShadow (id : ProfileId) (s : State) : State :=
  let sh := s.ce.shadows[id]
  let s1 := setShadow id { sh with written := none, onBus := none, waiting := none, deferred := false } s
  match sh.waiting with
  | some w => depart w.id s1
  | none => s1

/-- A profile write's final outcome at the CE; true when a failure was applied (R49, R50, R52). -/
def profileOutcome (id : ProfileId) (tid : Nat) (stale : Bool) (out : BusOutcome) (s : State) : State × Bool :=
  if stale || !namedBy tid s.ce.shadows[id].onBus then (s, false)
  else if out = .done then (modShadow id (doneShadow tid) s, false)
  else (failShadow id s, true)

/-- A latch's final outcome at the CE; true when a failure was applied (R49, R50). -/
def latchOutcome (slot : Slot) (tid : Nat) (stale : Bool) (out : BusOutcome) (s : State) : State × Bool :=
  let l := s.ce.latches[slot]
  if stale || l.onBus != some tid then (s, false)
  else if out = .done then (setLatch slot { l with onBus := none } s, false)
  else
    let s1 := setLatch slot { l with onBus := none, waiting := none } s
    match l.waiting with
    | some w => (depart w s1, true)
    | none => (s1, true)

/-- The CE reports a failure to the TM (R50). -/
def reportFailure (slot : Slot) (o : Origin) (out : BusOutcome) (s : State) : State :=
  { s with msgs := { s.msgs with tmReports := s.msgs.tmReports ++ [⟨slot, o, out⟩] } }

/-- The final outcome of a COMPENSATE transfer at the CE (R49, R50). -/
def compensateOutcome (t : Transfer) (out : BusOutcome) (s : State) : State :=
  match t.slot, t.origin with
  | some slot, .profile id =>
    match profileOutcome id t.id t.stale out s with
    | (s1, true) => reportFailure slot t.origin out s1
    | (s1, false) => s1
  | some slot, .latch =>
    match latchOutcome slot t.id t.stale out s with
    | (s1, true) => reportFailure slot t.origin out s1
    | (s1, false) => s1
  | _, _ => s

/-! ### Return to WAITING -/

/-- The transfer is WAITING again with its age and attempts kept (R117, R119). -/
def backToWaiting (id : Nat) (s : State) : State := modTransfer id (fun t => { t with onBus := false }) s

/-- A profile's on-bus reference moves back, or the returning COMPENSATE write is removed because the
profile already has a waiting write (R51, R52). -/
def returnProfile (id : ProfileId) (tid : Nat) (s : State) : State :=
  let sh := s.ce.shadows[id]
  match sh.onBus with
  | none => backToWaiting tid s
  | some b =>
    if b.id ≠ tid then backToWaiting tid s
    else match sh.waiting with
      | some _ => depart tid (setShadow id { sh with onBus := none } s)
      | none => backToWaiting tid (setShadow id { sh with onBus := none, waiting := some b } s)

/-- A slot's on-bus latch reference moves back, or the returning latch is removed (R51). -/
def returnLatch (slot : Slot) (tid : Nat) (s : State) : State :=
  let l := s.ce.latches[slot]
  if l.onBus ≠ some tid then backToWaiting tid s
  else match l.waiting with
    | some _ => depart tid (setLatch slot { l with onBus := none } s)
    | none => backToWaiting tid (setLatch slot { l with onBus := none, waiting := some tid } s)

/-- A load step's on-bus reference moves back; a RESTORE write is never removed under R51 (R52). -/
def returnLoadStep (id : ProfileId) (tid : Nat) (s : State) : State :=
  backToWaiting tid (modShadow id (fun sh => match sh.onBus with
    | some b => if b.id = tid then { sh with onBus := none, waiting := some b } else sh
    | none => sh) s)

/-- A transfer returns to WAITING for a retry or after a released stuck bus (R51, R52, R117, R119). -/
def returnTransfer (t : Transfer) (s : State) : State :=
  match t.origin, t.slot with
  | .profile id, _ => returnProfile id t.id s
  | .loadProfile id, _ => returnLoadStep id t.id s
  | .latch, some slot => returnLatch slot t.id s
  | _, _ => backToWaiting t.id s

/-! ### The pass -/

/-- The account of a pass, as PASS_NOW reports it (R41), with the slots it issued writes for. -/
structure PassAccount where
  evaluated : Nat
  enqueued : Nat
  replaced : Nat
  deferred : Nat
  latchesEnqueued : Nat
  latchesMoved : Nat
  latchesDeferred : Nat
  touched : List Slot
  deriving DecidableEq, Repr

/-- An empty account. -/
def PassAccount.none : PassAccount := ⟨0, 0, 0, 0, 0, 0, 0, []⟩

/-- The request of a profile's COMPENSATE write (R45). -/
def compensateRequest (id : ProfileId) (slot : Slot) (addr : Byte) (p : Profile) (v : Nat) : Request :=
  ⟨.profile id, some slot, addr, .write, p.header.param, profileData p v, 0, 0⟩

/-- A profile that needs a write and has none waiting: enqueued when room allows, else DEFERRED (R45). -/
def enqueueProfile (id : ProfileId) (slot : Slot) (r : TargetRecord) (p : Profile) (v : Nat)
    (x : State × PassAccount) : State × PassAccount :=
  let (s, acc) := x
  match refuseEnqueue .compensate s with
  | some _ => (modShadow id (fun sh => { sh with deferred := true }) s, { acc with deferred := acc.deferred + 1 })
  | none =>
    (addTransfer (compensateRequest id slot r.addr p v)
      (modShadow id (fun sh => { sh with waiting := some ⟨s.bm.nextId, v⟩, deferred := false }) s),
     { acc with enqueued := acc.enqueued + 1, touched := slot :: acc.touched })

/-- A profile that needs a write and has one waiting: replaced in place; R44 names no change of DEFERRED
(log 31), and it does not count as left DEFERRED (log 35). -/
def replaceProfile (id : ProfileId) (slot : Slot) (p : Profile) (w : Ref) (v : Nat)
    (x : State × PassAccount) : State × PassAccount :=
  let (s, acc) := x
  (replaceData w.id (profileData p v)
    (modShadow id (fun sh => { sh with waiting := some ⟨w.id, v⟩ }) s),
   { acc with replaced := acc.replaced + 1, touched := slot :: acc.touched })

/-- The comparison of the output with the reference, and what follows (R43 to R45). -/
def issueOutput (id : ProfileId) (slot : Slot) (r : TargetRecord) (p : Profile) (e : Evaluation)
    (x : State × PassAccount) : State × PassAccount :=
  let sh := x.1.ce.shadows[id]
  if sh.reference = some e.output then (modShadow id (fun sh => { sh with deferred := false }) x.1, x.2)
  else match sh.waiting with
    | some w => replaceProfile id slot p w e.output x
    | none => enqueueProfile id slot r p e.output x

/-- The pass visits one profile of a served slot (R43). -/
def visitProfile (slot : Slot) (r : TargetRecord) (id : ProfileId) (x : State × PassAccount) : State × PassAccount :=
  match activeProfile x.1 id with
  | none => x
  | some p =>
    let e := evaluateNow x.1 id p
    issueOutput id slot r p e
      (recordEvaluation id p e false x.1, { x.2 with evaluated := x.2.evaluated + 1 })

/-- The profiles of one served slot in (rank, id) order (R18, R42). -/
def visitProfiles (slot : Slot) (r : TargetRecord) : List ProfileId → State × PassAccount → State × PassAccount
  | [], x => x
  | id :: ids, x => visitProfiles slot r ids (visitProfile slot r id x)

/-- The served slots in ascending order (R42). -/
def visitSlots : List Slot → State × PassAccount → State × PassAccount
  | [], x => x
  | slot :: rest, x =>
    match recordInUse x.1 slot with
    | none => visitSlots rest x
    | some r => visitSlots rest (visitProfiles slot r (slotProfiles x.1 slot) x)

/-- The request of a slot's COMPENSATE latch (R46). -/
def latchRequest (slot : Slot) (addr : Byte) (l : RegValue) : Request :=
  ⟨.latch, some slot, addr, .write, l.reg, [l.value], 0, 0⟩

/-- A slot due a latch: moved, enqueued, or deferred (R46). A move leaves a set flag and does not count as
left deferred (log 35). -/
def issueLatch (slot : Slot) (addr : Byte) (entry : RegValue) (x : State × PassAccount) : State × PassAccount :=
  let (s, acc) := x
  let l := s.ce.latches[slot]
  match l.waiting with
  | some w => (renewAge w s, { acc with latchesMoved := acc.latchesMoved + 1 })
  | none =>
    match refuseEnqueue .compensate s with
    | some _ =>
      (setLatch slot { l with deferred := true } s, { acc with latchesDeferred := acc.latchesDeferred + 1 })
    | none =>
      (addTransfer (latchRequest slot addr entry)
        (setLatch slot { l with deferred := false, waiting := some s.bm.nextId } s),
       { acc with latchesEnqueued := acc.latchesEnqueued + 1 })

/-- The latch of one served slot, when it is due one (R46). -/
def settleLatch (slot : Slot) (x : State × PassAccount) : State × PassAccount :=
  match recordInUse x.1 slot with
  | none => x
  | some r =>
    match r.latch with
    | none => x
    | some entry =>
      if x.2.touched.contains slot || x.1.ce.latches[slot].deferred then issueLatch slot r.addr entry x else x

/-- The latches of the served slots in ascending order (R46). -/
def settleLatches : List Slot → State × PassAccount → State × PassAccount
  | [], x => x
  | slot :: rest, x => settleLatches rest (settleLatch slot x)

/-- The slots a pass serves: those IN_SERVICE at its start (R42). -/
def servedSlots (s : State) : List Slot := (List.finRange 8).filter (fun i => s.ctxs[i].state == .inService)

/-- A pass, taken whole, with its account and the grant decision behind its enqueues (R42, R108). A profile
committed and not yet taken by the CE is evaluated with its new content against the shadow as it stands (log 34). -/
def runPass (s : State) : State × PassAccount :=
  let s1 : State := settleInvalidations (List.finRange 8) { s with ce := { s.ce with passCount := s.ce.passCount + 1 } }
  let x := settleLatches (servedSlots s) (visitSlots (servedSlots s) (s1, PassAccount.none))
  (decideIfEnqueued s x.1, x.2)

end Sys2Proof.Machine
end

