-- ==== Sys2Proof/Machine/Targets.lean ====
section
/-! DEFINITION. The Target Manager (spec/04_targets.md, spec/05_loading_checking_and_recovery.md):
entries into states with their actions and notices, sequence steps, the load, the checks, the recovery. -/

namespace Sys2Proof.Machine

/-! ### Entries -/

/-- The TARGET notice of an entry (R70). Without an active record the bus address is a free byte (log 11). -/
def postTarget (slot : Slot) (before : TargetState) (s : State) : State :=
  let c := s.ctxs[slot]
  let content (addr : Byte) : NoticeContent :=
    .target slot before c.state c.reason c.detail addr c.recovery c.loads c.losses c.faults
  match activeRecord s slot with
  | some r => postNotice (targetSeverity c.state c.reason) (content r.addr) s
  | none => drawFree (postNotice (targetSeverity c.state c.reason) (content (Config.freeByte s.freeDraws 0)) s)

/-- No probe has placed a read and no load has counted its steps (log 27). -/
def forgetCounts (c : Ctx) : Ctx :=
  { c with probe := none, profileList := [], imageCount := 0, latchStep := false, markerStep := false }

/-- The TM's own part of the entry actions: check timer, check step, cursor, room mark, awaited transfer
and fault-hold timer cleared; a named transfer becomes the stale hold (R66, R69). -/
def cleanCtx (hold : Option Nat) (c : Ctx) : Ctx :=
  { forgetCounts c with
    checkTimer := none
    checkStep := .idle
    cursor := .identity
    roomMark := false
    awaited := none
    faultTimer := none
    staleHold := hold.or c.staleHold }

/-- The entry actions of R66: purge, stale marking, the CE told, the context cleaned. -/
def entryActions (slot : Slot) (s : State) : State :=
  modCtx slot (cleanCtx (namedHold slot s)) (askInvalidation slot (markSlotStale slot (purgeAutomatic slot s)))

/-- The purge of a slot's waiting slot-addressed manual transfers (R67, R136). -/
def purgeSlotManual (slot : Slot) (cause : CancelCause) (s : State) : State :=
  purgeManual (waitingManualOf slot) cause s

/-- The purge of waiting raw writes to the slot's bus address (R68, R136). -/
def purgeRawWrites (slot : Slot) (s : State) : State :=
  match activeRecord s slot with
  | some r => purgeManual (waitingRawWrite r.addr) .addressClaimed s
  | none => s

/-- Entries that clear the recovery count by themselves (R62). -/
def clearsRecovery : TargetState → Bool
  | .inService => true
  | .disabled => true
  | .suspended => true
  | .unconfigured => true
  | _ => false

/-- The context takes state, reason and detail (R64, R65). -/
def nameEntry (st : TargetState) (r : Reason) (d : Detail) (c : Ctx) : Ctx :=
  { c with state := st, reason := r, detail := d, recovery := if clearsRecovery st then 0 else c.recovery }

/-- State, reason, detail and entry actions of an entry (R64, R66 to R68), before its sequence start
and its notice. -/
def beginEntry (slot : Slot) (st : TargetState) (r : Reason) (d : Detail) (s : State) : State :=
  let s1 := modCtx slot (nameEntry st r d) s
  let s2 := if cleanEntry st then entryActions slot s1 else s1
  let s3 := if st = .disabled ∨ st = .unconfigured then purgeSlotManual slot .slotState s2 else s2
  if automaticUse st then purgeRawWrites slot s3 else s3

/-- An entry into a state without a sequence start: DISABLED, SUSPENDED, UNCONFIGURED, MISMATCH,
OUT_OF_SERVICE. -/
def enterPlain (slot : Slot) (st : TargetState) (r : Reason) (d : Detail) (s : State) : State :=
  postTarget slot s.ctxs[slot].state (beginEntry slot st r d s)

/-- Entry into FAULT_HOLD: faults entered incremented, the hold timer started (R99). -/
def enterFaultHold (slot : Slot) (r : Reason) (d : Detail) (s : State) : State :=
  let s1 := beginEntry slot .faultHold r d s
  let s2 := modCtx slot (fun c =>
    { c with faults := satInc c.faults, faultTimer := some (s.now + (activeSettings s).holdTime * 1000) }) s1
  postTarget slot s.ctxs[slot].state s2

/-- When the check timer runs out, when it is to run at all (R93). -/
def checkExpiry (s : State) (slot : Slot) : Option Nat :=
  match recordInUse s slot with
  | none => none
  | some r =>
    if r.checkPeriod ≠ 0 ∧ (r.marker.isSome ∨ r.status.isSome) then some (s.now + r.checkPeriod * 100) else none

/-- Entry into IN_SERVICE at the end of a load (R92). -/
def enterInService (slot : Slot) (s : State) : State :=
  let s1 := beginEntry slot .inService .loaded .absent s
  let s2 := modCtx slot (fun c =>
    { forgetCounts c with
      loads := satInc c.loads
      cursor := .identity
      roomMark := false
      checkTimer := checkExpiry s slot }) s1
  postTarget slot s.ctxs[slot].state s2

/-! ### Steps -/

/-- The request of a read of one byte (R82). -/
def readRequest (o : Origin) (slot : Slot) (addr reg : Byte) : Request :=
  ⟨o, some slot, addr, .read, reg, [], 1, 0⟩

/-- The request of a load step's write (R82, R89, R91). -/
def writeRequest (o : Origin) (slot : Slot) (addr reg : Byte) (data : List Byte) (delay : Nat) : Request :=
  ⟨o, some slot, addr, .write, reg, data, 0, delay⟩

/-- Whether the queue has no room for a step (R82). -/
def queueFull (s : State) : Bool := decide (Config.queuePlaces ≤ s.bm.queue.length)

/-- A step enqueued: the awaited transfer names it and its room mark is cleared (R82, R83). -/
def enqueueStep (slot : Slot) (r : Request) (s : State) : State :=
  modCtx slot (fun c => { c with awaited := some s.bm.nextId, roomMark := false }) (addTransfer r s)

/-- A step placed, or waiting for the stale hold or for room; `marks` is set for probe and load steps,
whose wait for room sets the room mark (R69, R82, R83). -/
def placeStep (slot : Slot) (marks : Bool) (r : Request) (s : State) : State :=
  if s.ctxs[slot].staleHold.isSome then s
  else if queueFull s then modCtx slot (fun c => { c with roomMark := marks }) s
  else enqueueStep slot r s

/-- The identity read of a probe; the context keeps the identity check it is placed for, which its DONE is
judged by (R86, R87). A waiting read whose check is gone meanwhile places nothing (log 36). -/
def placeIdentity (slot : Slot) (s : State) : State :=
  match recordInUse s slot with
  | none => s
  | some r => match r.identity with
    | none => s
    | some c =>
      placeStep slot true (readRequest .identity slot r.addr c.reg) (modCtx slot (fun x => { x with probe := some c }) s)

/-- The read of the check step the context names (R94, R95). -/
def placeCheck (slot : Slot) (s : State) : State :=
  match recordInUse s slot with
  | none => s
  | some r =>
    match s.ctxs[slot].checkStep with
    | .idle => s
    | .marker => match r.marker with
      | none => s
      | some m => placeStep slot false (readRequest .checkMarker slot r.addr m.reg) s
    | .status => match r.status with
      | none => s
      | some c => placeStep slot false (readRequest .checkStatus slot r.addr c.reg) s

/-- A PROFILE step: the CE evaluates at the moment of the enqueue and its waiting reference names the
RESTORE write (R52, R90). -/
def placeProfile (slot : Slot) (r : TargetRecord) (id : ProfileId) (p : Profile) (s : State) : State :=
  if s.ctxs[slot].staleHold.isSome then s
  else if queueFull s then modCtx slot (fun c => { c with roomMark := true }) s
  else
    let s1 := settleInvalidation slot s
    let e := evaluateNow s1 id p
    let s2 := recordEvaluation id p e true s1
    let s3 := modShadow id (fun sh => { sh with waiting := some ⟨s.bm.nextId, e.output⟩ }) s2
    enqueueStep slot (writeRequest (.loadProfile id) slot r.addr p.header.param (profileData p e.output) 0) s3

/-! ### The load cursor -/

/-- The steps of a load counted at the entry into LOADING: image entries, profile list, latch and marker;
only R90 changes what the load does with them (R88). -/
def countSteps (s : State) (slot : Slot) (r : TargetRecord) (c : Ctx) : Ctx :=
  { c with
    imageCount := (imageEntries s slot).length
    profileList := slotProfiles s slot
    latchStep := r.latch.isSome
    markerStep := r.marker.isSome }

/-- The first counted step from MARKER on (R88). -/
def fromMarker (c : Ctx) : LoadStep := if c.markerStep then .marker else .finish

/-- The first counted step from LATCH on (R88). -/
def fromLatch (c : Ctx) : LoadStep := if c.latchStep then .latch else fromMarker c

/-- The first PROFILE step at or after an index whose profile is still active, enabled and names the
slot; the others are skipped (R90). -/
def firstServing (s : State) (slot : Slot) : Nat → List ProfileId → Option Nat
  | _, [] => none
  | i, id :: ids => if profileServes s slot id then some i else firstServing s slot (i + 1) ids

/-- The first counted step from PROFILE index i on (R88, R90). -/
def fromProfile (s : State) (slot : Slot) (i : Nat) : LoadStep :=
  match firstServing s slot i (s.ctxs[slot].profileList.drop i) with
  | some j => .profile j
  | none => fromLatch s.ctxs[slot]

/-- The first counted step from IMAGE index i on (R88). -/
def fromImage (s : State) (slot : Slot) (i : Nat) : LoadStep :=
  if i < s.ctxs[slot].imageCount then .image i else fromProfile s slot 0

/-- The present step after a step, by the count of the entry into LOADING (R88, R92). -/
def afterStep (s : State) (slot : Slot) : LoadStep → LoadStep
  | .identity => fromImage s slot 0
  | .image i => fromImage s slot (i + 1)
  | .profile i => fromProfile s slot (i + 1)
  | .latch => fromMarker s.ctxs[slot]
  | .marker => .finish
  | .finish => .finish

/-- The step at the cursor as it stands now: a PROFILE step no longer in use is skipped (R90). -/
def presentStep (s : State) (slot : Slot) : LoadStep → LoadStep
  | .profile i => fromProfile s slot i
  | step => step

/-- The step a cursor stands at is placed (R82, R89 to R91). Between a commit's end and its activation at
the TM a counted step whose entry is gone places nothing (log 36). -/
def placeLoadStep (slot : Slot) (r : TargetRecord) (step : LoadStep) (s : State) : State :=
  match step with
  | .identity => s
  | .image i =>
    match (imageEntries s slot)[i]? with
    | none => s
    | some e => placeStep slot true (writeRequest (.image i) slot r.addr e.reg (imageData e) e.delay) s
  | .profile i =>
    match s.ctxs[slot].profileList[i]? with
    | none => s
    | some id => match activeProfile s id with
      | none => s
      | some p => placeProfile slot r id p s
  | .latch =>
    match r.latch with
    | none => s
    | some l => placeStep slot true (writeRequest .loadLatch slot r.addr l.reg [l.value] 0) s
  | .marker =>
    match r.marker with
    | none => s
    | some m => placeStep slot true (writeRequest .loadMarker slot r.addr m.reg [m.value] 0) s
  | .finish => s

/-- The cursor moves to a step; END completes the load, any other step is placed (R92). -/
def goToStep (slot : Slot) (r : TargetRecord) (step : LoadStep) (s : State) : State :=
  let s1 := modCtx slot (fun c => { c with cursor := step, roomMark := false }) s
  if step = .finish then enterInService slot s1 else placeLoadStep slot r step s1

/-- Entry into LOADING: the steps are counted, the cursor set, the first step placed; without a step
the slot goes on to IN_SERVICE in the same happening (R88, R92). The notice of this entry stands before
the one of a further entry (log 24). -/
def enterLoading (slot : Slot) (s : State) : State :=
  match recordInUse s slot with
  | none => s
  | some r =>
    let s1 := beginEntry slot .loading .probed .absent s
    let s2 := modCtx slot (countSteps s1 slot r) s1
    let step := fromImage s2 slot 0
    if step = .finish then goToStep slot r step (postTarget slot s.ctxs[slot].state s2)
    else postTarget slot s.ctxs[slot].state (goToStep slot r step s2)

/-- Entry into PROBING: the identity read is placed, or the slot goes on to LOADING in the same
happening (R86). -/
def enterProbing (slot : Slot) (reason : Reason) (d : Detail) (s : State) : State :=
  let s1 := beginEntry slot .probing reason d s
  match recordInUse s1 slot with
  | none => postTarget slot s.ctxs[slot].state s1
  | some r =>
    if r.identity.isSome then postTarget slot s.ctxs[slot].state (placeIdentity slot s1)
    else enterLoading slot (postTarget slot s.ctxs[slot].state s1)

/-- The load goes on from the cursor: the step there, or the next in use, is placed again. -/
def resumeLoad (slot : Slot) (s : State) : State :=
  match recordInUse s slot with
  | none => s
  | some r => goToStep slot r (presentStep s slot s.ctxs[slot].cursor) s

/-- The load cursor moves to the step after the present one (R85, R92). -/
def advanceLoad (slot : Slot) (s : State) : State :=
  match recordInUse s slot with
  | none => s
  | some r => goToStep slot r (afterStep s slot s.ctxs[slot].cursor) s

/-- The step that waited, if the slot is still in a state that has one (R69, R83). -/
def resumeStep (slot : Slot) (s : State) : State :=
  if s.ctxs[slot].awaited.isSome then s
  else match s.ctxs[slot].state with
    | .probing => placeIdentity slot s
    | .loading => resumeLoad slot s
    | .inService => placeCheck slot s
    | _ => s

/-! ### Outcomes of probe, load and check steps -/

/-- The first byte read, of a read of length 1. -/
def byteRead (bytes : List Byte) : Byte := bytes.headD 0xFF

/-- A check that completes clean: the check step ends and the timer starts again (R96). -/
def cleanCheck (slot : Slot) (s : State) : State :=
  modCtx slot (fun c => { c with checkStep := .idle, checkTimer := checkExpiry s slot }) s

/-- The identity byte compared under the mask of the check its read was placed for (R86, R87). -/
def identityRead (slot : Slot) (b : Byte) (s : State) : State :=
  match s.ctxs[slot].probe with
  | none => s
  | some c =>
    if b &&& c.mask = c.expected &&& c.mask then enterLoading slot s
    else enterPlain slot .mismatch .identityMismatch (.byteRead b) s

/-- The marker byte compared with the marker of the active record (R95). A record committed meanwhile and not
yet taken by the TM that has no marker leaves the check step as it is (log 36). -/
def markerRead (slot : Slot) (b : Byte) (s : State) : State :=
  match recordInUse s slot with
  | none => s
  | some r =>
    match r.marker with
    | none => s
    | some m =>
      if b = m.value then
        (if r.status.isSome then placeCheck slot (modCtx slot (fun c => { c with checkStep := .status }) s)
         else cleanCheck slot s)
      else enterProbing slot .stateLost (.byteRead b) (modCtx slot (fun c => { c with losses := satInc c.losses }) s)

/-- The status byte masked with the fault mask of the active record (R96; log 36 as for the marker). -/
def statusRead (slot : Slot) (b : Byte) (s : State) : State :=
  match (recordInUse s slot).bind TargetRecord.status with
  | none => s
  | some c =>
    if b &&& c.mask ≠ 0 then enterFaultHold slot .targetFault (.byteRead b) s else cleanCheck slot s

/-- A step's DONE (R87, R92, R95, R96). -/
def stepDone (slot : Slot) (o : Origin) (bytes : List Byte) (s : State) : State :=
  match o with
  | .identity => identityRead slot (byteRead bytes) s
  | .checkMarker => markerRead slot (byteRead bytes) s
  | .checkStatus => statusRead slot (byteRead bytes) s
  | _ => advanceLoad slot s

/-- The outcome of a PROFILE step is first passed to the CE (R52, R84). -/
def passToCe (t : Transfer) (out : BusOutcome) (s : State) : State :=
  match t.origin with
  | .loadProfile id => (profileOutcome id t.id t.stale out s).1
  | _ => s

/-- A RESTORE or CHECK outcome at the TM: it releases the stale hold, is ignored, or moves the sequence
(R60, R69, R84). -/
def stepOutcome (t : Transfer) (slot : Slot) (out : BusOutcome) (bytes : List Byte) (s : State) : State :=
  let c := s.ctxs[slot]
  if c.staleHold = some t.id then resumeStep slot (setCtx slot { c with staleHold := none } s)
  else if t.stale || c.awaited != some t.id then s
  else
    let s1 := passToCe t out (setCtx slot { c with awaited := none } s)
    if out = .done then stepDone slot t.origin bytes s1
    else enterFaultHold slot .unreachable (.failed t.origin out) s1

/-- The withdrawal of a PROFILE step at a profile activation (R85): a WAITING step has left the queue; an
ON_BUS step becomes the stale hold. -/
def stepWithdrawn (t : Transfer) (s : State) : State :=
  match t.origin, t.slot with
  | .loadProfile _, some slot =>
    if s.ctxs[slot].awaited = some t.id then
      advanceLoad slot (modCtx slot (fun c =>
        { c with awaited := none, staleHold := if t.onBus then some t.id else c.staleHold }) s)
    else s
  | _, _ => s

/-! ### Checks and departures -/

/-- A check sequence starts (R94, R98). -/
def startCheck (slot : Slot) (s : State) : State :=
  match recordInUse s slot with
  | none => s
  | some r =>
    placeCheck slot (modCtx slot (fun c =>
      { c with
        checkTimer := none
        checkStep := if r.marker.isSome then .marker else if r.status.isSome then .status else .idle }) s)

/-- Whether a slot is checked at supply recovery (R98). -/
def recoveryCheckDue (s : State) (slot : Slot) : Bool :=
  s.ctxs[slot].state == .inService && s.ctxs[slot].checkStep == .idle
    && (match recordInUse s slot with
        | none => false
        | some r => r.marker.isSome || r.status.isSome)

/-- The checks at supply recovery in ascending slot order (R98). -/
def recoveryChecks : List Slot → State → State
  | [], s => s
  | slot :: rest, s => recoveryChecks rest (if recoveryCheckDue s slot then startCheck slot s else s)

/-- Whether a slot's step waits for room (R83). -/
def waitsForRoom (s : State) (slot : Slot) : Bool :=
  let c := s.ctxs[slot]
  c.awaited.isNone && c.staleHold.isNone &&
    (match c.state with
     | .probing => c.roomMark
     | .loading => c.roomMark
     | .inService => c.checkStep != .idle
     | _ => false)

/-- The steps waiting for room are retried in ascending slot order until one finds the queue full again
(R83). -/
def retrySteps : List Slot → State → State
  | [], s => s
  | slot :: rest, s =>
    if waitsForRoom s slot then
      let s1 := resumeStep slot s
      if waitsForRoom s1 slot && queueFull s1 then s1 else retrySteps rest s1
    else retrySteps rest s

/-! ### Host administration -/

/-- ENABLE, RESUME and RELOAD put the slot into PROBING (R72, R74). -/
def hostProbe (slot : Slot) (r : Reason) (s : State) : State := enterProbing slot r .absent s

/-- RESUME also purges the slot's waiting slot-addressed manual transfers (R67, R72). The purge stands
between the entry actions and the raw-write purge, whose transfers it does not share. -/
def hostResume (slot : Slot) (s : State) : State :=
  hostProbe slot .hostResume (purgeSlotManual slot .slotState s)

/-- RELOAD clears the recovery count (R62, R74). -/
def hostReload (slot : Slot) (s : State) : State :=
  hostProbe slot .hostReload (modCtx slot (fun c => { c with recovery := 0 }) s)

/-- An activation of a record or image for a slot in automatic use (R62, R76). -/
def activationProbe (slot : Slot) (s : State) : State :=
  enterProbing slot .activation .absent (modCtx slot (fun c => { c with recovery := 0 }) s)

/-! ### Slot set-up -/

/-- Each slot with an active record enters DISABLED, then auto-starts in RUN or HOLD (R79). -/
def setUpSlot (part : PartState) (slot : Slot) (s : State) : State :=
  match activeRecord s slot with
  | none => s
  | some r =>
    let s1 := enterPlain slot .disabled .started .absent s
    if r.autoStart ∧ (part = .run ∨ part = .hold) then enterProbing slot .autoStart .absent s1 else s1

/-- The slots set up in ascending order (R79). -/
def setUpSlots (part : PartState) : List Slot → State → State
  | [], s => s
  | slot :: rest, s => setUpSlots part rest (setUpSlot part slot s)

end Sys2Proof.Machine
end

