-- ==== Sys2Proof/Machine/Settle.lean ====
section
/-! DEFINITION. How the Bus Master settles a transaction or a recovery sequence (spec/06, R116 to R121):
retries, final outcomes and their delivery, the return to WAITING, the entry into FAULT and its end. -/

namespace Sys2Proof.Machine

/-! ### Delivery (R118) -/

/-- The final outcome of a MANUAL transfer at the HL (R135). -/
def manualOutcome (t : Transfer) (out : BusOutcome) (bytes : List Byte) (s : State) : State :=
  if out = .done then
    endManual t .ok (match t.dir with
      | .read => byteOf t.readLen :: bytes
      | .write => [byteOf t.data.length]) s
  else endManual t .transferFailed [out.code] s

/-- The delivery of a final outcome to the owner of the transfer (R118). -/
def deliver (t : Transfer) (out : BusOutcome) (bytes : List Byte) (s : State) : State :=
  match t.cls, t.slot with
  | .compensate, _ => compensateOutcome t out s
  | .manual, _ => manualOutcome t out bytes s
  | .restore, some slot => stepOutcome t slot out bytes s
  | .check, some slot => stepOutcome t slot out bytes s
  | .restore, none => s
  | .check, none => s

/-- A transfer with a final outcome leaves the queue and is delivered (R116 stage 4). -/
def finish (t : Transfer) (out : BusOutcome) (bytes : List Byte) (s : State) : State :=
  deliver t out bytes (depart t.id s)

/-! ### The end of a transaction (R116, R117) -/

/-- The retry limit of a transfer's slot at this moment (R117). -/
def retryLimitOf (s : State) (t : Transfer) : Nat :=
  match t.slot with
  | none => 0
  | some slot => match recordInUse s slot with
    | none => 0
    | some r => r.retryLimit

/-- Whether a failed attempt is retried (R117); the record already counts the attempt. -/
def retried (s : State) (t : Transfer) : Bool :=
  t.automatic && !t.stale && decide (t.attempts ≤ retryLimitOf s t)

/-- The quiet time a DONE starts (R112). -/
def startQuiet (t : Transfer) (s : State) : State :=
  match t.slot with
  | none => s
  | some slot => if t.delay ≠ 0 ∧ t.stale = false then setQuiet slot (some (s.now + t.delay)) s else s

/-- The bytes a transaction delivers: those of a DONE of a read (R118). -/
def deliveredBytes (t : Transfer) : BusResponse → List Byte
  | .complete _ data => match t.dir with
    | .read => receivedBytes data t.readLen
    | .write => []
  | _ => []

/-- A recovery sequence begins at the speed of the active settings; an owed STOP is dropped (R115, R119,
R125). -/
def beginRecovery (s : State) : State :=
  { s with bm := { s.bm with recovering := true, speed := (activeSettings s).speed, owedStop := false } }

/-- The attempt is counted in the record (R116 stage 1). -/
def counted (t : Transfer) : Transfer := { t with attempts := t.attempts + 1 }

/-- Stages 3 and 4 of R116 for an outcome of DONE, NACK_ADDRESS, NACK_DATA or TIMEOUT. -/
def settle (t : Transfer) (out : BusOutcome) (bytes : List Byte) (s : State) : State :=
  if out = .done then finish t out bytes (startQuiet t s)
  else if retried s t then returnTransfer t s
  else finish t out bytes s

/-- A STOP is owed after a TIMEOUT (R115). -/
def oweStop (out : BusOutcome) (s : State) : State :=
  if out = .timeout then { s with bm := { s.bm with owedStop := true } } else s

/-- The end of the transaction of the transfer on the bus (R116). -/
def endTransaction (t : Transfer) (r : BusResponse) (s : State) : State :=
  let out := transactionOutcome t r
  let s1 := setWire (transactionWire t r) s
  if out = .busStuck then beginRecovery s1
  else
    let s2 := oweStop out (modTransfer t.id counted s1)
    grantDecision (settle (counted t) out (deliveredBytes t r) s2)

/-! ### The end of a recovery sequence (R119, R120) -/

/-- The transfer that met BUS_STUCK once the line is released (R116, R119). A manual write returns as R134
says also where its slot, or for a raw write the slot that owns its address, entered PROBING meanwhile (DEDUCED,
log 38). -/
def settleReleased (s : State) : State :=
  match onBusTransfer s with
  | none => s
  | some t => if t.stale then finish t .busStuck [] s else returnTransfer t s

/-- The transfer that met BUS_STUCK at the entry into FAULT (R120 step 2). DEDUCED (log 41): a COMPENSATE transfer
returns here as R51 has it, so that it is removed where its profile or slot already has a waiting write or latch; R51
itself names a retry and a released stuck bus alone. -/
def settleStuck (t : Transfer) (s : State) : State :=
  if t.stale then finish t .busStuck [] s
  else if t.cls = .manual then finish t .busFault [] s
  else returnTransfer t s

/-- A waiting MANUAL transfer. -/
def waitingManual (t : Transfer) : Bool := !t.onBus && t.cls == .manual

/-- Every waiting MANUAL transfer leaves with BUS_FAULT (R120 step 3), in the order of the queue (log 37). -/
def faultManuals (s : State) : State := faultAll (s.bm.queue.filter waitingManual) (departWhere waitingManual s)

/-- How many MANUAL transfers the entry into FAULT answers BUS_FAULT (R121): those that wait in the state after the
settling of the transfer `t` that met BUS_STUCK, and `t` itself. A raw write that this settling purged was answered
CANCELLED and does not count. -/
def answeredManuals (t : Transfer) (s : State) : Nat :=
  (s.bm.queue.filter waitingManual).length + (if t.cls = .manual ∧ t.stale = false then 1 else 0)

/-- The bus condition becomes FAULT (R120 step 1). -/
def faultCondition (s : State) : State :=
  { s with bm := { s.bm with
      cond := .fault
      attempts := 1
      recoveryTimer := some (s.now + 1000)
      faultSince := some s.now } }

/-- The bus enters FAULT (R120). -/
def enterBusFault (s : State) : State :=
  match onBusTransfer s with
  | none => faultCondition s
  | some t =>
    let s1 := settleStuck t (faultCondition s)
    postNotice .fault (.busFault 1 t.cls t.slot t.addr (answeredManuals t s1)) (faultManuals s1)

/-- Whole seconds spent in FAULT (R121; log 23). -/
def secondsInFault (s : State) : Nat := (s.now - s.bm.faultSince.getD s.now) / 1000

/-- The bus returns to READY (R120). -/
def leaveBusFault (s : State) : State :=
  postNotice .info (.busReady s.bm.attempts (secondsInFault s))
    { s with bm := { s.bm with cond := .ready, recoveryTimer := none, faultSince := none } }

/-- The end of a recovery sequence (R119, R120). -/
def endRecovery (run : RecoveryRun) (s : State) : State :=
  let s1 : State := { s with bm := { s.bm with recovering := false, wire := recoveryWire run } }
  match s.bm.cond, lineReleased run with
  | .ready, true => grantDecision (settleReleased s1)
  | .ready, false => enterBusFault s1
  | .fault, true => grantDecision (leaveBusFault s1)
  | .fault, false => { s1 with bm := { s1.bm with recoveryTimer := some (s1.now + 1000) } }

end Sys2Proof.Machine
end

