-- ==== Sys2Proof/Machine/ExecBus.lean ====
section
/-! DEFINITION. The meanings of the Bus Master's commands (spec/06). -/

namespace Sys2Proof.Machine

/-- SUPPLY_CHANGE_AT_BM (R124): a change to NORMAL brings a grant decision. -/
def execSupplyChangeAtBm (s : State) : Answer :=
  .next (match s.msgs.bmSupply with
    | c :: rest =>
      let s1 : State := { s with bm := { s.bm with supply := c }, msgs := { s.msgs with bmSupply := rest } }
      match c with
      | .normal => grantDecision s1
      | .low => s1
    | [] => s)

/-- TRANSACTION_END (R116): due while a transaction is in progress. -/
def execTransactionEnd (response : BusResponse) (derate : Bool) (s : State) : Answer :=
  .next (match onBusTransfer s with
    | some t => if s.bm.recovering then s else endTransaction t response (sampleDerate derate s)
    | none => s)

/-- RECOVERY_SEQUENCE_END (R119, R120): due while a recovery is in progress. -/
def execRecoverySequenceEnd (run : RecoveryRun) (derate : Bool) (s : State) : Answer :=
  .next (if s.bm.recovering then endRecovery run (sampleDerate derate s) else s)

/-- The recovery timer runs out: a recovery sequence begins and is counted (R120). -/
def recoveryDue (s : State) : State :=
  let s1 := beginRecovery s
  { s1 with bm := { s1.bm with recoveryTimer := none, attempts := satInc s1.bm.attempts } }

/-- RECOVERY_TIMER_EXPIRY (R120). -/
def execRecoveryTimerExpiry (s : State) : Answer :=
  .next (match s.bm.recoveryTimer with
    | some t => if s.bm.cond = .fault ∧ s.bm.recovering = false then recoveryDue (advanceTo t s) else s
    | none => s)

/-- QUIET_TIME_END (R112). -/
def execQuietTimeEnd (slot : Slot) (s : State) : Answer :=
  .next (match s.bm.quiet[slot] with
    | some t => grantDecision (setQuiet slot none (advanceTo t s))
    | none => s)

/-- OWED_STOP (R115): SCL rises and the STOP a TIMEOUT owes is issued. -/
def execOwedStop (s : State) : Answer :=
  .next (if s.bm.owedStop then
      { s with bm := { s.bm with owedStop := false, wire := s.bm.wire ++ [.stopCond] } }
    else s)

end Sys2Proof.Machine
end

