-- ==== Sys2Proof/Machine/Store.lean ====
section
/-! DEFINITION. The Configuration Store's copies (spec/08): the directory, the choice of the active copy,
the start-up scan and its announcements, the programming of a copy and the two ends of a commit. -/

namespace Sys2Proof.Machine

/-! ### The directory (R140, R141, R143) -/

/-- The directory entry of an object. -/
def Directory.entry (d : Directory) : ObjId → DirEntry
  | .settings => d.settings
  | .target i => d.targets[i]
  | .image i => d.images[i]
  | .profile i => d.profiles[i]

/-- The directory with one entry replaced. -/
def Directory.setEntry (d : Directory) (obj : ObjId) (e : DirEntry) : Directory :=
  match obj with
  | .settings => { d with settings := e }
  | .target i => { d with targets := d.targets.set i e }
  | .image i => { d with images := d.images.set i e }
  | .profile i => { d with profiles := d.profiles.set i e }

/-- The copy state the CS reads from a copy (R140). -/
def Copy.info {α : Type} : Copy α → CopyInfo
  | .empty => .empty
  | .valid g _ => .valid g
  | .removed g => .removed g
  | .damaged => .damaged

/-- The generation of a valid copy, VALID or REMOVED (R140). -/
def CopyInfo.gen : CopyInfo → Option Word16
  | .valid g => some g
  | .removed g => some g
  | _ => none

/-- A REMOVED copy of SETTINGS is taken as DAMAGED (R142). -/
def settingsInfo : CopyInfo → CopyInfo
  | .removed _ => .damaged
  | i => i

/-- The choice of the active copy (R141). -/
def chooseActive (a b : CopyInfo) : Option CopyName :=
  match a.gen, b.gen with
  | some ga, some gb => if newer gb ga then some .b else some .a
  | some _, none => some .a
  | none, some _ => some .b
  | none, none => none

/-- The entry the scan makes of two copy states (R143). -/
def scanEntry (a b : CopyInfo) : DirEntry := ⟨a, b, chooseActive a b⟩

/-- The directory the scan reads from the copies (R143). -/
def readDirectory (st : Store) : Directory where
  settings := scanEntry (settingsInfo st.settings.a.info) (settingsInfo st.settings.b.info)
  targets := st.targets.map (fun c => scanEntry c.a.info c.b.info)
  images := st.images.map (fun c => scanEntry c.a.info c.b.info)
  profiles := st.profiles.map (fun c => scanEntry c.a.info c.b.info)

/-- The state of the active copy. -/
def DirEntry.activeInfo (e : DirEntry) : Option CopyInfo := e.active.map (fun n => match n with
  | .a => e.a
  | .b => e.b)

/-- An object is present when its active copy is VALID (R139). -/
def DirEntry.present (e : DirEntry) : Bool := match e.activeInfo with
  | some (.valid _) => true
  | _ => false

/-- How many copies of an entry are DAMAGED. -/
def DirEntry.damagedCopies (e : DirEntry) : Nat :=
  (if e.a = .damaged then 1 else 0) + (if e.b = .damaged then 1 else 0)

/-- An object absent by damage: no copy valid, at least one DAMAGED (R143). -/
def DirEntry.absentByDamage (e : DirEntry) : Bool := e.active.isNone && decide (0 < e.damagedCopies)

/-- The settings in effect the scan settles (R142, R144). -/
def settleInEffect (e : DirEntry) : InEffect :=
  if e.present then .stored else if e.absentByDamage then .factoryDamaged else .factory

/-- The scan record (R144, R145): the list stands in ascending object order. -/
def scanRecord (d : Directory) : ScanRecord where
  nTargets := (d.targets.toList.filter DirEntry.present).length
  nImages := (d.images.toList.filter DirEntry.present).length
  nProfiles := (d.profiles.toList.filter DirEntry.present).length
  damagedCopies := (allObjects.map (fun o => (d.entry o).damagedCopies)).sum
  absentByDamage := allObjects.filter (fun o => (d.entry o).absentByDamage)

/-- Copies disturbed outside the part's control are DAMAGED (R140; log 14). -/
def disturb : List (ObjId × CopyName) → Store → Store
  | [], st => st
  | (obj, n) :: rest, st => disturb rest (spoilCopy obj n false st)

/-! ### The end of the scan (R144, R2, R162) -/

/-- The CS at the end of the scan. -/
def scanCs (disturbed : List (ObjId × CopyName)) (cs : Cs) : Cs :=
  let st := disturb disturbed cs.store
  let d := readDirectory st
  { cs with
    store := st
    dir := d
    scanning := false
    inEffect := settleInEffect d.settings
    scan := scanRecord d }

/-- The MU takes the announced settings and starts its first cycle (R2). -/
def startMu (x : Settings) (now : Nat) (mu : Mu) : Mu :=
  { mu with
    inUse := ⟨x.k, x.h, x.low, x.high, x.floor, x.margin⟩
    sourceInUse := x.source
    effSource := x.source
    cycle := some ⟨now, x.period⟩
    nextStart := some (now + x.period) }

/-- The scan result at the Operating Control (R162). -/
def scanResultOf (cs : Cs) (x : Settings) : ScanResult :=
  ⟨cs.inEffect, x.startMode, cs.scan⟩

/-- The end of the start-up scan with its announcements (R144). -/
def endScan (disturbed : List (ObjId × CopyName)) (s : State) : State :=
  let s1 : State := { s with cs := scanCs disturbed s.cs }
  let x := activeSettings s1
  { s1 with
    mu := startMu x s.now s.mu
    bm := { s.bm with speed := x.speed }
    oc := { s.oc with scanResult := some (scanResultOf s1.cs x) } }

/-! ### Notices of the store (R145, R157) -/

/-- One STORE notice for each object absent by damage (R145). -/
def damagedNotices (d : Directory) (objs : List ObjId) : List Notice :=
  objs.map (fun o => ⟨.fault, .storeDamaged o (d.entry o).a (d.entry o).b⟩)

/-! ### Programming (R155) -/

/-- Blocks a commit programs: those of the kind, or 1 for a tombstone (R139, R155). -/
def commitBlocks (obj : ObjId) (removal : Bool) : Nat :=
  if removal then 1 else match obj with
    | .settings => 1
    | .target _ => 1
    | .profile _ => 2
    | .image _ => 3

/-- The programming time in ms (R155). -/
def commitTime (obj : ObjId) (removal : Bool) : Nat := 4 + 5 * commitBlocks obj removal

/-- The copy a commit programs (R155). -/
def commitCopy (e : DirEntry) : CopyName := match e.active with
  | some .a => .b
  | some .b => .a
  | none => .a

/-- The generation a commit writes (R155). -/
def commitGen (e : DirEntry) : Word16 := match e.activeInfo.bind CopyInfo.gen with
  | some g => g + 1
  | none => 1

/-- A copy's state in a directory entry. -/
def DirEntry.info (e : DirEntry) : CopyName → CopyInfo
  | .a => e.a
  | .b => e.b

/-- A directory entry with one copy's state replaced. -/
def DirEntry.setInfo (e : DirEntry) (n : CopyName) (i : CopyInfo) : DirEntry :=
  match n with
  | .a => { e with a := i }
  | .b => { e with b := i }

/-- One directory entry changed. -/
def modEntry (obj : ObjId) (f : DirEntry → DirEntry) (s : State) : State :=
  { s with cs := { s.cs with dir := s.cs.dir.setEntry obj (f (s.cs.dir.entry obj)) } }

/-- The programming of a commit begins: the copy is PROGRAMMING, the session COMMITTING, the edit timer
stopped (R153 step 5, R155). -/
def beginCommit (b : EditBuffer) (s : State) : State :=
  let e := s.cs.dir.entry b.obj
  let n := commitCopy e
  let s1 := modEntry b.obj (fun e => e.setInfo n .programming) s
  { s1 with cs := { s1.cs with
      session := .committing
      editTimer := none
      commit := some ⟨b.obj, n, commitGen e, s.now, s.now + commitTime b.obj b.removal, e.info n == .empty⟩ } }

/-- The entries or points below the count. -/
def BufferContent.stored : BufferContent → Content
  | .settings x => .settings x
  | .target r => .target r
  | .image count ps => .image (ps.take count)
  | .profile h count ps => .profile ⟨h, ps.take count⟩

/-- One copy of an object is written (R155, R156). A content of another kind than the object's is not
met: the buffer's content is of the buffer's kind. -/
def writeCopy (obj : ObjId) (n : CopyName) (gen : Word16) (removal : Bool) (c : Content) (st : Store) : Store :=
  match obj, c with
  | .settings, .settings x => { st with settings := setCopyOf n (if removal then .removed gen else .valid gen x) st.settings }
  | .target i, .target r =>
    { st with targets := st.targets.set i (setCopyOf n (if removal then .removed gen else .valid gen r) st.targets[i]) }
  | .image i, .image es =>
    { st with images := st.images.set i (setCopyOf n (if removal then .removed gen else .valid gen es) st.images[i]) }
  | .profile i, .profile p =>
    { st with profiles := st.profiles.set i (setCopyOf n (if removal then .removed gen else .valid gen p) st.profiles[i]) }
  | _, _ => st

/-! ### The ends of a commit (R156, R157) -/

/-- The announcement of an activation (R159): to the CE for a profile, to the TM for a record or an
image; the blocks read the active settings where they next use them (log 40). -/
def announce (obj : ObjId) (before after : State) : State :=
  match obj with
  | .settings => after
  | .target i =>
    { after with msgs := { after.msgs with
        tmStore := after.msgs.tmStore ++ [.record i (activeRecord before i) (activeRecord after i)] } }
  | .image i => { after with msgs := { after.msgs with tmStore := after.msgs.tmStore ++ [.image i (activeRecord after i).isSome] } }
  | .profile i =>
    { after with msgs := { after.msgs with
        ceProfile := after.msgs.ceProfile ++ [⟨i, activeProfile before i, activeProfile after i⟩] } }

/-- Kind, id, copy and generation, as a commit's replies carry them. -/
def commitItems (c : Commit) : List Byte := [objKind c.obj, objIdByte c.obj, copyCode c.copy] ++ be16 c.gen.toNat

/-- The request code of EDIT_COMMIT. -/
def codeCommit : Byte := 0x37

/-- The programmed copy becomes valid and active (R156 steps 1 to 3); the settings in effect change here
and at no earlier moment of the commit (log 40). -/
def activateCopy (c : Commit) (b : EditBuffer) (s : State) : State :=
  let s1 : State := { s with cs := { s.cs with store := writeCopy c.obj c.copy c.gen b.removal b.content.stored s.cs.store } }
  let s2 := modEntry c.obj (fun e =>
    { e.setInfo c.copy (if b.removal then .removed c.gen else .valid c.gen) with active := some c.copy }) s1
  if c.obj = .settings then { s2 with cs := { s2.cs with inEffect := .stored } } else s2

/-- The session closes and the buffer is emptied (R152, R156). -/
def closeSession (s : State) : State :=
  { s with cs := { s.cs with session := .closed, buffer := none, editTimer := none } }

/-- The edit timer starts with 30 s (R147, R148, R152). -/
def startEditTimer (s : State) : State := { s with cs := { s.cs with editTimer := some (s.now + 30000) } }

/-- A commit's end with the verify succeeding (R156). -/
def commitVerified (c : Commit) (b : EditBuffer) (s : State) : State :=
  let s1 := announce c.obj s (activateCopy c b s)
  endPending .commit (replyPayload (some codeCommit) .ok (commitItems c ++ [flagByte b.removal]))
    (closeSession { s1 with cs := { s1.cs with commit := none } })

/-- The settings in effect settled again after a copy of SETTINGS became DAMAGED (R142). -/
def resettle (obj : ObjId) (s : State) : State :=
  if obj = .settings then { s with cs := { s.cs with inEffect := settleInEffect s.cs.dir.settings } } else s

/-- A commit's end with the verify failing (R157). -/
def commitFailed (c : Commit) (s : State) : State :=
  let s1 := resettle c.obj (modEntry c.obj (fun e => e.setInfo c.copy .damaged)
    { s with cs := { s.cs with store := spoilCopy c.obj c.copy false s.cs.store } })
  let e := s1.cs.dir.entry c.obj
  let s2 := endPending .commit (replyPayload (some codeCommit) .storeFault (commitItems c)) s1
  let s3 := postNotice .fault (.storeCommit c.obj c.copy c.gen e.a e.b) s2
  startEditTimer { s3 with cs := { s3.cs with session := .opened, commit := none } }

end Sys2Proof.Machine
end

