-- ==== Sys2Proof/Machine/Edit.lean ====
section
/-! DEFINITION. The edit buffer (spec/08, R146 to R154, and the record tables of spec/12): what EDIT_OPEN
loads, the fields and lists the editing requests change, and the validation of a commit. -/

namespace Sys2Proof.Machine

/-! ### Opening (R147) -/

/-- A position at or above the count of a present object: the spec gives it no content (log 10). -/
def freePoint (draw i : Nat) : Point :=
  ⟨int16 (Config.freeByte draw (5 * i)) (Config.freeByte draw (5 * i + 1)),
   nat16 (Config.freeByte draw (5 * i + 2)) (Config.freeByte draw (5 * i + 3))⟩

/-- A free entry position (log 10). -/
def freeEntry (draw i : Nat) : ImageEntry :=
  ⟨Config.freeByte draw (5 * i),
   if (Config.freeByte draw (5 * i + 1)).toNat % 2 = 0 then .byte else .word,
   nat16 (Config.freeByte draw (5 * i + 2)) (Config.freeByte draw (5 * i + 3)),
   (Config.freeByte draw (5 * i + 4)).toNat⟩

/-- A list's items in its positions, the rest filled by a function of the position. -/
def fillPositions {α : Type} (capacity : Nat) (filler : Nat → α) (items : List α) : List α :=
  (items ++ ((List.range capacity).drop items.length).map filler).take capacity

/-- The buffer content of a present object (R147). -/
def presentContent (s : State) : ObjId → Option BufferContent
  | .settings => (activeContent s.cs.dir.settings s.cs.store.settings).map .settings
  | .target i => (activeRecord s i).map .target
  | .image i => (activeImage s i).map (fun es =>
      .image es.length (fillPositions Config.entryPositions (freeEntry s.freeDraws) es))
  | .profile i => (activeProfile s i).map (fun p =>
      .profile p.header p.points.length (fillPositions Config.pointPositions (freePoint s.freeDraws) p.points))

/-- The buffer EDIT_OPEN loads (R147). -/
def openBuffer (s : State) (obj : ObjId) : EditBuffer :=
  match presentContent s obj with
  | some c => ⟨obj, false, false, c⟩
  | none => ⟨obj, true, false, defaultContent obj⟩

/-- EDIT_OPEN taken: buffer, session and timer (R147). -/
def openSession (obj : ObjId) (s : State) : State :=
  startEditTimer (drawFree { s with cs := { s.cs with session := .opened, buffer := some (openBuffer s obj) } })

/-- The object of a kind code and an id byte, when the id is in the kind's range (R147). -/
def objOf (kind id : Byte) : Option ObjId :=
  if kind = 0 then (if id = 0 then some .settings else none)
  else if kind = 1 then (if h : id.toNat < 8 then some (.target ⟨id.toNat, h⟩) else none)
  else if kind = 2 then (if h : id.toNat < 8 then some (.image ⟨id.toNat, h⟩) else none)
  else if kind = 3 then (if h : id.toNat < 64 then some (.profile ⟨id.toNat, h⟩) else none)
  else none

/-! ### Codes of fields -/

/-- A yes or no byte (R194). -/
def yesNo (b : Byte) : Option Bool := if b = 0 then some false else if b = 1 then some true else none

/-- A width code. -/
def widthOf (b : Byte) : Option Width := if b = 0 then some .byte else if b = 1 then some .word else none

/-- A word order code. -/
def orderOf (b : Byte) : Option WordOrder := if b = 0 then some .highFirst else if b = 1 then some .lowFirst else none

/-- An interpolation code. -/
def interpOf (b : Byte) : Option Interpolation := if b = 0 then some .step else if b = 1 then some .linear else none

/-- A derate mode code. -/
def derateModeOf (b : Byte) : Option DerateMode := if b = 0 then some .plain else if b = 1 then some .shift else none

/-- An index source code. -/
def sourceOf (b : Byte) : Option IndexSource := if b = 0 then some .die else if b = 1 then some .remote else none

/-- A bus speed code. -/
def speedOf (b : Byte) : Option BusSpeed := if b = 0 then some .khz100 else if b = 1 then some .khz400 else none

/-- A start mode code. -/
def startModeOf (b : Byte) : Option StartMode := if b = 1 then some .run else if b = 2 then some .hold else none

/-! ### The field tables (spec/12 RECORD ENCODINGS) -/

/-- What the encoding judgement knows of a field: its bytes without presence byte, whether it is
optional, and whether its byte is yes or no or a width code (R195). -/
structure FieldForm where
  bytes : Nat
  optional : Bool
  yesNo : Bool
  width : Bool
  deriving DecidableEq, Repr

/-- A plain field of some bytes. -/
def FieldForm.plain (n : Nat) : FieldForm := ⟨n, false, false, false⟩

/-- An optional field of some bytes. -/
def FieldForm.opt (n : Nat) : FieldForm := ⟨n, true, false, false⟩

/-- A yes or no field. -/
def FieldForm.flag : FieldForm := ⟨1, false, true, false⟩

/-- The profile fields by number. -/
def profileForm : Nat → Option FieldForm
  | 0x01 => some .flag
  | 0x02 => some (.plain 1)
  | 0x03 => some (.plain 1)
  | 0x04 => some ⟨1, false, false, true⟩
  | 0x05 => some (.plain 1)
  | 0x06 => some (.plain 1)
  | 0x07 => some (.plain 1)
  | 0x08 => some (.plain 2)
  | 0x09 => some (.plain 2)
  | 0x0A => some (.plain 2)
  | 0x0B => some (.opt 2)
  | 0x0C => some (.plain 1)
  | _ => none

/-- The target record fields by number. -/
def targetForm : Nat → Option FieldForm
  | 0x01 => some (.plain 1)
  | 0x02 => some .flag
  | 0x03 => some (.opt 3)
  | 0x04 => some (.opt 2)
  | 0x05 => some (.opt 2)
  | 0x06 => some (.opt 2)
  | 0x07 => some (.plain 2)
  | 0x08 => some (.plain 1)
  | _ => none

/-- The settings fields by number. -/
def settingsForm : Nat → Option FieldForm
  | 0x01 => some (.plain 2)
  | 0x02 => some (.plain 1)
  | 0x03 => some (.plain 1)
  | 0x04 => some (.plain 1)
  | 0x05 => some (.plain 2)
  | 0x06 => some (.plain 2)
  | 0x07 => some (.plain 2)
  | 0x08 => some (.plain 2)
  | 0x09 => some (.plain 1)
  | 0x0A => some (.plain 1)
  | 0x0B => some (.plain 1)
  | 0x0C => some (.plain 1)
  | 0x0D => some (.plain 1)
  | _ => none

/-- The field a buffer lists under a number; an IMAGE buffer lists none (R149). -/
def fieldForm (c : BufferContent) (num : Nat) : Option FieldForm :=
  match c with
  | .profile .. => profileForm num
  | .target _ => targetForm num
  | .settings _ => settingsForm num
  | .image .. => none

/-! ### Setting and clearing a field (R149) -/

/-- A profile header field takes a value; `none` when the value is not one of the named ones (R148). -/
def setProfileField (h : ProfileHeader) (num : Nat) (bs : List Byte) : Option ProfileHeader :=
  match num, bs with
  | 0x01, [b] => (yesNo b).map (fun v => { h with enabled := v })
  | 0x02, [b] => some { h with slot := b.toNat }
  | 0x03, [b] => some { h with param := b }
  | 0x04, [b] => (widthOf b).map (fun v => { h with width := v })
  | 0x05, [b] => (orderOf b).map (fun v => { h with order := v })
  | 0x06, [b] => some { h with rank := b.toNat }
  | 0x07, [b] => (interpOf b).map (fun v => { h with interp := v })
  | 0x08, [x, y] => some { h with lower := nat16 x y }
  | 0x09, [x, y] => some { h with upper := nat16 x y }
  | 0x0A, [x, y] => some { h with stepLimit := nat16 x y }
  | 0x0B, [x, y] => some { h with start := some (nat16 x y) }
  | 0x0C, [b] => (derateModeOf b).map (fun v => { h with derate := v })
  | _, _ => none

/-- A target record field takes a value. -/
def setTargetField (r : TargetRecord) (num : Nat) (bs : List Byte) : Option TargetRecord :=
  match num, bs with
  | 0x01, [b] => some { r with addr := b }
  | 0x02, [b] => (yesNo b).map (fun v => { r with autoStart := v })
  | 0x03, [x, y, z] => some { r with identity := some ⟨x, y, z⟩ }
  | 0x04, [x, y] => some { r with marker := some ⟨x, y⟩ }
  | 0x05, [x, y] => some { r with status := some ⟨x, y⟩ }
  | 0x06, [x, y] => some { r with latch := some ⟨x, y⟩ }
  | 0x07, [x, y] => some { r with checkPeriod := nat16 x y }
  | 0x08, [b] => some { r with retryLimit := b.toNat }
  | _, _ => none

/-- A settings field takes a value. -/
def setSettingsField (x : Settings) (num : Nat) (bs : List Byte) : Option Settings :=
  match num, bs with
  | 0x01, [a, b] => some { x with period := nat16 a b }
  | 0x02, [b] => (sourceOf b).map (fun v => { x with source := v })
  | 0x03, [b] => some { x with k := b.toNat }
  | 0x04, [b] => some { x with h := b.toNat }
  | 0x05, [a, b] => some { x with low := int16 a b }
  | 0x06, [a, b] => some { x with high := int16 a b }
  | 0x07, [a, b] => some { x with floor := nat16 a b }
  | 0x08, [a, b] => some { x with margin := nat16 a b }
  | 0x09, [b] => (speedOf b).map (fun v => { x with speed := v })
  | 0x0A, [b] => some { x with holdTime := b.toNat }
  | 0x0B, [b] => some { x with recoveryLimit := b.toNat }
  | 0x0C, [b] => some { x with deratePin := b.toNat }
  | 0x0D, [b] => (startModeOf b).map (fun v => { x with startMode := v })
  | _, _ => none

/-- A field of the buffer takes a value (R149). -/
def setField (c : BufferContent) (num : Nat) (bs : List Byte) : Option BufferContent :=
  match c with
  | .profile h n ps => (setProfileField h num bs).map (fun h => .profile h n ps)
  | .target r => (setTargetField r num bs).map .target
  | .settings x => (setSettingsField x num bs).map .settings
  | .image .. => none

/-- An optional field of the buffer is cleared; any other is not (R149). -/
def clearField (c : BufferContent) (num : Nat) : Option BufferContent :=
  match c, num with
  | .profile h n ps, 0x0B => some (.profile { h with start := none } n ps)
  | .target r, 0x03 => some (.target { r with identity := none })
  | .target r, 0x04 => some (.target { r with marker := none })
  | .target r, 0x05 => some (.target { r with status := none })
  | .target r, 0x06 => some (.target { r with latch := none })
  | _, _ => none

/-- The bytes of a profile field as the record tables give them. -/
def profileFieldBytes (h : ProfileHeader) : Nat → List Byte
  | 0x01 => [flagByte h.enabled]
  | 0x02 => [byteOf h.slot]
  | 0x03 => [h.param]
  | 0x04 => [widthCode h.width]
  | 0x05 => [orderCode h.order]
  | 0x06 => [byteOf h.rank]
  | 0x07 => [interpCode h.interp]
  | 0x08 => be16 h.lower
  | 0x09 => be16 h.upper
  | 0x0A => be16 h.stepLimit
  | 0x0B => optional 2 (h.start.map be16)
  | 0x0C => [derateModeCode h.derate]
  | _ => []

/-- The bytes of a target record field. -/
def targetFieldBytes (r : TargetRecord) : Nat → List Byte
  | 0x01 => [r.addr]
  | 0x02 => [flagByte r.autoStart]
  | 0x03 => optional 3 (r.identity.map identityBytes)
  | 0x04 => optional 2 (r.marker.map regValueBytes)
  | 0x05 => optional 2 (r.status.map statusBytes)
  | 0x06 => optional 2 (r.latch.map regValueBytes)
  | 0x07 => be16 r.checkPeriod
  | 0x08 => [byteOf r.retryLimit]
  | _ => []

/-- The bytes of a settings field. -/
def settingsFieldBytes (x : Settings) : Nat → List Byte
  | 0x01 => be16 x.period
  | 0x02 => [x.source.code]
  | 0x03 => [byteOf x.k]
  | 0x04 => [byteOf x.h]
  | 0x05 => signed16 x.low
  | 0x06 => signed16 x.high
  | 0x07 => be16 x.floor
  | 0x08 => be16 x.margin
  | 0x09 => [speedCode x.speed]
  | 0x0A => [byteOf x.holdTime]
  | 0x0B => [byteOf x.recoveryLimit]
  | 0x0C => [byteOf x.deratePin]
  | 0x0D => [startModeCode x.startMode]
  | _ => []

/-- A field's value as it stands in the buffer (R149). -/
def fieldBytes (c : BufferContent) (num : Nat) : List Byte :=
  match c with
  | .profile h _ _ => profileFieldBytes h num
  | .target r => targetFieldBytes r num
  | .settings x => settingsFieldBytes x num
  | .image .. => []

/-! ### Lists (R150) -/

/-- Items written into positions from a start index on. -/
def writeItems {α : Type} (start : Nat) (items old : List α) : List α :=
  old.take start ++ (items ++ old.drop (start + items.length))

/-- Points of 4 bytes each. -/
def pointsOf : List Byte → List Point
  | a :: b :: c :: d :: rest => ⟨int16 a b, nat16 c d⟩ :: pointsOf rest
  | _ => []

/-- Entries of 5 bytes each; the width codes are judged before (R195). -/
def entriesOf : List Byte → List ImageEntry
  | r :: w :: a :: b :: d :: rest => ⟨r, if w = 0 then .byte else .word, nat16 a b, d.toNat⟩ :: entriesOf rest
  | _ => []

/-- Every entry's width code is BYTE or WORD (R195). -/
def entryWidthsFit : List Byte → Bool
  | _ :: w :: _ :: _ :: _ :: rest => (widthOf w).isSome && entryWidthsFit rest
  | _ => true

/-- The count of a buffer's list; 0 for a kind without one. -/
def BufferContent.count : BufferContent → Nat
  | .image n _ => n
  | .profile _ n _ => n
  | _ => 0

/-- The count is replaced (R150). -/
def setCount (n : Nat) : BufferContent → Option BufferContent
  | .image _ ps => some (.image n ps)
  | .profile h _ ps => some (.profile h n ps)
  | _ => none

/-- Points written into a PROFILE buffer (R150). -/
def putPoints (start : Nat) (items : List Point) : BufferContent → Option BufferContent
  | .profile h n ps =>
    if start + items.length ≤ Config.pointPositions then some (.profile h n (writeItems start items ps)) else none
  | _ => none

/-- Entries written into an IMAGE buffer (R150). -/
def putEntries (start : Nat) (items : List ImageEntry) : BufferContent → Option BufferContent
  | .image n ps =>
    if start + items.length ≤ Config.entryPositions then some (.image n (writeItems start items ps)) else none
  | _ => none

/-! ### EDIT_SHOW (R151) -/

/-- Every field, the count, and the items below the smaller of count and capacity (R151). -/
def BufferContent.shown : BufferContent → List Byte
  | .settings x => settingsBytes x ++ [0]
  | .target r => recordBytes r ++ [0]
  | .image n ps => byteOf n :: (ps.take n).flatMap entryBytes
  | .profile h n ps => headerBytes h ++ (byteOf n :: (ps.take n).flatMap pointBytes)

/-! ### Validation (R154) -/

/-- A failed check: its code and the detail (R154, R196). -/
structure CheckFailure where
  code : Byte
  detail : Nat
  deriving DecidableEq, Repr

/-- The first of several judgements that fails. -/
def firstFailure : List (Option CheckFailure) → Option CheckFailure
  | [] => none
  | some f :: _ => some f
  | none :: rest => firstFailure rest

/-- A check fails with a code and a detail. -/
def failsWith (c : Bool) (code : Byte) (detail : Nat) : Option CheckFailure := if c then some ⟨code, detail⟩ else none

/-- The index of the first point whose temperature is not greater than the one before. -/
def orderBreak : Nat → List Point → Option Nat
  | i, p :: q :: rest => if p.temp < q.temp then orderBreak (i + 1) (q :: rest) else some (i + 1)
  | _, _ => none

/-- The index of the first element that meets a test. -/
def firstIndex {α : Type} (p : α → Bool) : Nat → List α → Option Nat
  | _, [] => none
  | i, x :: xs => if p x then some i else firstIndex p (i + 1) xs

/-- The other present enabled profile that names the same slot and parameter address (R154);
of several the one with the lowest id (log 39). -/
def parameterRival (s : State) (id : ProfileId) (h : ProfileHeader) : Option ProfileId :=
  (List.finRange 64).find? (fun j => j != id && (match activeProfile s j with
    | some p => p.header.enabled && p.header.slot == h.slot && p.header.param == h.param
    | none => false))

/-- The other slot whose present record has the same bus address (R154); of several the lowest (log 39). -/
def addressRival (s : State) (slot : Slot) (addr : Byte) : Option Slot :=
  (List.finRange 8).find? (fun j => j != slot && (match activeRecord s j with
    | some r => r.addr == addr
    | none => false))

/-- The checks of a PROFILE buffer in their order (R154; order inside a check, log 20). -/
def validateProfile (s : State) (id : ProfileId) (h : ProfileHeader) (count : Nat) (positions : List Point) :
    Option CheckFailure :=
  let ps := positions.take count
  let m := widthMax h.width
  firstFailure
    [failsWith (decide (7 < h.slot)) 0x01 0x02,
     failsWith (decide (15 < h.rank)) 0x01 0x06,
     failsWith (decide (count < 2 ∨ 24 < count)) 0x02 count,
     (orderBreak 0 ps).map (fun i => ⟨0x03, i⟩),
     (firstIndex (fun p => decide (m < p.value)) 0 ps).map (fun i => ⟨0x04, i⟩),
     failsWith (decide (m < h.lower)) 0x04 0x08,
     failsWith (decide (m < h.upper)) 0x04 0x09,
     failsWith (h.start.any (fun v => decide (m < v))) 0x04 0x0B,
     failsWith (decide (m < h.stepLimit)) 0x04 0x0A,
     failsWith (decide (h.upper < h.lower)) 0x05 0,
     if h.enabled then (parameterRival s id h).map (fun j => ⟨0x06, j.val⟩) else none]

/-- The checks of a TARGET buffer (R154). -/
def validateTarget (s : State) (slot : Slot) (r : TargetRecord) : Option CheckFailure :=
  firstFailure
    [failsWith (decide (r.addr.toNat < 0x08 ∨ 0x77 < r.addr.toNat)) 0x07 r.addr.toNat,
     failsWith (decide (600 < r.checkPeriod)) 0x01 0x07,
     failsWith (decide (7 < r.retryLimit)) 0x01 0x08,
     (addressRival s slot r.addr).map (fun j => ⟨0x08, j.val⟩)]

/-- The checks of an IMAGE buffer (R154). -/
def validateImage (count : Nat) (positions : List ImageEntry) : Option CheckFailure :=
  firstFailure
    [failsWith (decide (32 < count)) 0x09 count,
     (firstIndex (fun e => e.width == .byte && decide (255 < e.value)) 0 (positions.take count)).map (fun i => ⟨0x04, i⟩)]

/-- The checks of a SETTINGS buffer (R154). -/
def validateSettings (x : Settings) : Option CheckFailure :=
  firstFailure
    [failsWith (decide (x.period < 20 ∨ 1000 < x.period ∨ x.period % 10 ≠ 0)) 0x01 0x01,
     failsWith (decide (4 < x.k)) 0x01 0x03,
     failsWith (decide (64 < x.h)) 0x01 0x04,
     failsWith (decide (x.holdTime < 1 ∨ 60 < x.holdTime)) 0x01 0x0A,
     failsWith (decide (15 < x.recoveryLimit)) 0x01 0x0B,
     failsWith (decide (2 < x.deratePin)) 0x01 0x0C,
     failsWith (decide (x.high ≤ x.low)) 0x0A 0,
     failsWith (decide (x.floor < 2500 ∨ 5500 < x.floor)) 0x0B 0x07,
     failsWith (decide (500 < x.margin)) 0x0B 0x08]

/-- The validation of the buffer at EDIT_COMMIT (R154). A content of another kind than the object's is
not met. -/
def validate (s : State) (b : EditBuffer) : Option CheckFailure :=
  match b.obj, b.content with
  | .profile id, .profile h n ps => validateProfile s id h n ps
  | .target slot, .target r => validateTarget s slot r
  | .image _, .image n ps => validateImage n ps
  | .settings, .settings x => validateSettings x
  | _, _ => none

end Sys2Proof.Machine
end

