-- ==== Sys2Proof/Machine/Operands.lean ====
section
/-! DEFINITION. The operand forms of the requests (spec/12 REQUESTS and R195): each reads the argument
bytes of one request, or answers `none` where they do not fit their encoding. -/

namespace Sys2Proof.Machine

/-- A request without arguments. -/
def noArgs : List Byte → Option Unit
  | [] => some ()
  | _ => none

/-- A slot argument, 00h to 07h (R195). -/
def slotOf (b : Byte) : Option Slot := if h : b.toNat < 8 then some ⟨b.toNat, h⟩ else none

/-- A profile id, 0 to 63; above that a request's own rule refuses it. -/
def profileIdOf (b : Byte) : Option ProfileId := if h : b.toNat < 64 then some ⟨b.toNat, h⟩ else none

/-- GET_TARGET: a slot. -/
def slotArg : List Byte → Option Slot
  | [b] => slotOf b
  | _ => none

/-- One byte that the encoding does not judge further: a profile id, a level, a count. -/
def byteArg : List Byte → Option Byte
  | [b] => some b
  | _ => none

/-- GET_IMAGE: slot, start index, count. -/
def imageArgs : List Byte → Option (Slot × Byte × Byte)
  | [b, start, n] => (slotOf b).map (fun i => (i, start, n))
  | _ => none

/-- A part state code of the table (R195). -/
def partStateOf (b : Byte) : Option PartState :=
  if b = 0 then some .start else if b = 1 then some .run else if b = 2 then some .hold
  else if b = 3 then some .safe else none

/-- SET_MODE: a part state. -/
def modeArg : List Byte → Option PartState
  | [b] => partStateOf b
  | _ => none

/-- SET_TRIM: profile id and trim. -/
def trimArgs : List Byte → Option (Byte × Int)
  | [b, hi, lo] => some (b, int16 hi lo)
  | _ => none

/-- The actions of TARGET_ADMIN (R71). -/
inductive Action where
  | enable
  | disable
  | suspend
  | resume
  | reload
  deriving DecidableEq, Repr

/-- An action code (12 CODES). -/
def actionOf (b : Byte) : Option Action :=
  if b = 1 then some .enable else if b = 2 then some .disable else if b = 3 then some .suspend
  else if b = 4 then some .resume else if b = 5 then some .reload else none

/-- The code of an action. -/
def Action.code : Action → Byte
  | .enable => 1
  | .disable => 2
  | .suspend => 3
  | .resume => 4
  | .reload => 5

/-- TARGET_ADMIN: slot and action. -/
def adminArgs : List Byte → Option (Slot × Action)
  | [b, a] => match slotOf b, actionOf a with
    | some i, some x => some (i, x)
    | _, _ => none
  | _ => none

/-- The arguments of a manual request (R128): `count` is the read length or the data count. -/
structure ManualArgs where
  slot : Option Slot
  addr : Byte
  reg : Byte
  count : Nat
  data : List Byte
  deriving DecidableEq, Repr

/-- A slot argument of manual access: FFh is NONE (R195). -/
def slotOrNone (b : Byte) : Option (Option Slot) := if b = 0xFF then some none else (slotOf b).map some

/-- MANUAL_READ: slot, bus address, register, read length. -/
def manualReadArgs : List Byte → Option ManualArgs
  | [b, addr, reg, n] => (slotOrNone b).map (fun i => ⟨i, addr, reg, n.toNat, []⟩)
  | _ => none

/-- MANUAL_WRITE: slot, bus address, register, n, n data bytes. -/
def manualWriteArgs : List Byte → Option ManualArgs
  | b :: addr :: reg :: n :: data =>
    if data.length = n.toNat then (slotOrNone b).map (fun i => ⟨i, addr, reg, n.toNat, data⟩) else none
  | _ => none

/-- EDIT_OPEN: object kind and id. -/
def openArgs : List Byte → Option (Byte × Byte)
  | [kind, id] => if kind.toNat ≤ 3 then some (kind, id) else none
  | _ => none

/-- EDIT_FIELD: SET with the field's bytes, CLEAR, or a request that ends before its operation, which
names no change (R195). -/
inductive FieldArgs where
  | short
  | set (num : Byte) (bytes : List Byte)
  | clear (num : Byte)
  deriving DecidableEq, Repr

/-- The field bytes that R195 judges: a yes or no byte, a width code. -/
def fieldByteFits (form : FieldForm) : List Byte → Bool
  | [b] => (!form.yesNo || (yesNo b).isSome) && (!form.width || (widthOf b).isSome)
  | _ => true

/-- Whether a field's SET or CLEAR has the length and bytes its form asks for (R195); without an open
buffer, or a field the buffer lists, this is not judged here. -/
def fieldLengthFits (buffer : Option BufferContent) (num : Byte) (set : Bool) (bytes : List Byte) : Bool :=
  match buffer.bind (fun c => fieldForm c num.toNat) with
  | none => true
  | some form => if set then bytes.length == form.bytes && fieldByteFits form bytes else bytes.isEmpty

/-- Whether the length of an EDIT_FIELD that ends before its operation is judged: a buffer is open and, where
the number has come, its kind lists that field (R195). -/
def shortJudged (buffer : Option BufferContent) (num : Option Byte) : Bool :=
  match buffer, num with
  | none, _ => false
  | some _, none => true
  | some c, some n => (fieldForm c n.toNat).isSome

/-- EDIT_FIELD: field number, operation, the field's bytes for SET (R195). -/
def fieldArgs (buffer : Option BufferContent) : List Byte → Option FieldArgs
  | num :: op :: bytes =>
    if op = 1 then (if fieldLengthFits buffer num true bytes then some (.set num bytes) else none)
    else if op = 0 then (if fieldLengthFits buffer num false bytes then some (.clear num) else none)
    else none
  | args => if shortJudged buffer args.head? then none else some .short

/-- EDIT_POINTS: start index, n, n points; n is 1 to 24 (R195). -/
def pointsArgs : List Byte → Option (Nat × List Point)
  | start :: n :: bytes =>
    if 1 ≤ n.toNat ∧ n.toNat ≤ 24 ∧ bytes.length = 4 * n.toNat then some (start.toNat, pointsOf bytes) else none
  | _ => none

/-- EDIT_ENTRIES: start index, n, n entries; n is 1 to 32 (R195). -/
def entriesArgs : List Byte → Option (Nat × List ImageEntry)
  | start :: n :: bytes =>
    if 1 ≤ n.toNat ∧ n.toNat ≤ 32 ∧ bytes.length = 5 * n.toNat ∧ entryWidthsFit bytes = true
    then some (start.toNat, entriesOf bytes) else none
  | _ => none

end Sys2Proof.Machine
end

