-- ==== Sys2Proof/Machine/Reports.lean ====
section
/-! DEFINITION. The contents of the replies that report state (spec/12 R196 with R15, R16, R56, R81, R160,
R184, R185): the items of each rule in its order; the layouts R196 leaves open are those of log 18. -/

namespace Sys2Proof.Machine

/-! ### IDENTIFY and GET_STATUS -/

/-- The IDENTIFY content: vendor 3A17h, part 4208h, revision 01h and six capacities (R184, 12 CODES). -/
def identifyContent : List Byte := [0x3A, 0x17, 0x42, 0x08, 0x01, 0x08, 0x40, 0x18, 0x20, 0x20, 0x10]

/-- The occupancy of a list of transfers by class: MANUAL, CHECK, RESTORE, COMPENSATE (R127, R196). -/
def occupancy (q : List Transfer) : List Byte :=
  [byteOf (countClass .manual q), byteOf (countClass .check q), byteOf (countClass .restore q),
   byteOf (countClass .compensate q)]

/-- The GET_STATUS content (R185). It counts a transfer on the bus with the waiting ones of its class, and carries no
item that tells it from them (DEDUCED, log 45). -/
def statusContent (s : State) : List Byte :=
  [s.oc.part.code, s.oc.cause.code] ++ (optional 2 (s.mu.ti.map signed16) ++ ([s.mu.effSource.code, s.mu.supply.code,
    s.bm.cond.code] ++ (occupancy s.bm.queue ++ ([byteOf s.bm.queue.length, byteOf s.nu.queue.length,
    byteOf (outstandingCount s.nu.queue), flagByte s.nu.stalled, s.cs.session.code, byteOf s.hl.pend.length,
    byteOf s.ce.hostDerate, flagByte s.pins.derate, byteOf (effectiveDerate s)]
    ++ s.ctxs.toList.map (fun c => c.state.code)))))

/-! ### GET_MEASUREMENTS (R15) -/

/-- The judgement of the latest REMOTE reading and its reason, 00h with VALID. -/
def judgementBytes : Option SensorReason → List Byte
  | none => [0, 0]
  | some r => [1, r.code]

/-- The three readings, as R15 lists them. -/
def readingBytes (r : Readings) : List Byte :=
  signed16 r.die ++ (signed16 r.remote ++ (r.remoteStatus.code :: (judgementBytes (judgeRemote r.remoteStatus r.remote)
    ++ be16 r.supply)))

/-- The readings before any completion, which a taken request does not meet (R15). -/
def noReadings : Readings := ⟨0, .ok, 0, 0⟩

/-- The GET_MEASUREMENTS content (R15). -/
def measurementsContent (mu : Mu) : List Byte :=
  be16 mu.cycleCount.toNat ++ (readingBytes (mu.reading.getD noReadings) ++ (signed16 mu.tf ++ (signed16 (mu.ti.getD 0)
    ++ ([mu.sourceInUse.code, mu.effSource.code, mu.remoteCond.code, byteOf mu.runCount, mu.span.code, mu.supply.code]
    ++ (be16 mu.lastPeriod ++ ([byteOf mu.inUse.k, byteOf mu.inUse.h] ++ (signed16 mu.inUse.low ++ (signed16 mu.inUse.high
    ++ (be16 mu.inUse.floor ++ be16 mu.inUse.margin)))))))))

/-! ### GET_TARGET (R81) -/

/-- The record fields, 00h throughout when no record is active (R196). -/
def recordItems : Option TargetRecord → List Byte
  | none => 0 :: List.replicate 18 0
  | some r => 1 :: recordBytes r

/-- Whether an image is active, and its entry count. -/
def imageItems : Option (List ImageEntry) → List Byte
  | none => [0, 0]
  | some es => [1, byteOf es.length]

/-- A transfer's state code: WAITING 00h, ON_BUS 01h. -/
def transferStateCode (t : Transfer) : Byte := if t.onBus then 1 else 0

/-- The awaited transfer: presence, class and state. -/
def awaitedItems (s : State) (awaited : Option Nat) : List Byte :=
  match awaited.bind (transferById s) with
  | none => [0, 0, 0]
  | some t => [1, t.cls.code, transferStateCode t]

/-- A timer: stopped, or the ms to its expiry. -/
def timerItems (now : Nat) (t : Option Nat) : List Byte := optional 4 (t.map (fun x => be32 (x - now)))

/-- The transfers of a slot in the queue. -/
def slotTransfers (s : State) (slot : Slot) : List Transfer := s.bm.queue.filter (fun t => t.slot == some slot)

/-- The GET_TARGET content (R81). -/
def targetContent (s : State) (slot : Slot) : List Byte :=
  let c := s.ctxs[slot]
  recordItems (activeRecord s slot) ++ (imageItems (activeImage s slot) ++ ([c.state.code, c.reason.code]
    ++ (c.detail.bytes ++ (c.cursor.bytes ++ ([flagByte c.roomMark, c.checkStep.code]
    ++ (awaitedItems s c.awaited ++ (flagByte c.staleHold.isSome :: (timerItems s.now c.checkTimer
    ++ (timerItems s.now c.faultTimer ++ ([byteOf c.recovery, byteOf (activeSettings s).recoveryLimit]
    ++ (be16 c.loads ++ (be16 c.losses ++ (be16 c.faults ++ occupancy (slotTransfers s slot))))))))))))))

/-! ### GET_SHADOW (R56) -/

/-- Whether a profile is active and, when it is, its enabled field, slot and parameter address. -/
def activeItems : Option Profile → List Byte
  | none => [0, 0, 0, 0]
  | some p => [1, flagByte p.header.enabled, byteOf p.header.slot, p.header.param]

/-- The waiting reference: presence, value, class, attempts made. -/
def waitingItems (s : State) : Option Ref → List Byte
  | none => [0, 0, 0, 0, 0]
  | some w => match transferById s w.id with
    | none => 1 :: (be16 w.value ++ [0, 0])
    | some t => 1 :: (be16 w.value ++ [t.cls.code, byteOf t.attempts])

/-- The on-bus reference: presence, value, class. -/
def onBusItems (s : State) : Option Ref → List Byte
  | none => [0, 0, 0, 0]
  | some b => match transferById s b.id with
    | none => 1 :: (be16 b.value ++ [0])
    | some t => 1 :: (be16 b.value ++ [t.cls.code])

/-- The latch state of the slot of an active profile; 00h without one. -/
def latchItems (s : State) : Option Profile → List Byte
  | none => [0, 0, 0]
  | some p => if h : p.header.slot < 8 then
      let l := s.ce.latches[p.header.slot]
      [flagByte l.deferred, flagByte l.waiting.isSome, flagByte l.onBus.isSome]
    else [0, 0, 0]

/-- The GET_SHADOW content (R56). -/
def shadowContent (s : State) (id : ProfileId) : List Byte :=
  let sh := s.ce.shadows[id]
  byteOf id.val :: (activeItems (activeProfile s id) ++ (optional 2 (sh.computed.map be16) ++ (optional 2 (sh.written.map be16)
    ++ (waitingItems s sh.waiting ++ (onBusItems s sh.onBus ++ (optional 2 (sh.reference.map be16)
    ++ ([flagByte sh.deferred, flagByte sh.clamped] ++ (signed16 s.ce.trims[id]
    ++ (latchItems s (activeProfile s id) ++ be16 s.ce.passCount.toNat)))))))))

/-! ### The store read replies (R160) -/

/-- Why an object is absent: NEVER, REMOVED or DAMAGED; 00h for a present one. -/
def absenceCause (e : DirEntry) : Byte :=
  if e.present then 0 else if e.active.isSome then 1 else if 0 < e.damagedCopies then 2 else 0

/-- The generation of a copy, 0000h when it is not valid (R196). -/
def genBytes (i : CopyInfo) : List Byte := be16 ((i.gen.map BitVec.toNat).getD 0)

/-- The items every store read reply carries (R160). -/
def copyItems (e : DirEntry) : List Byte :=
  [e.a.code, e.b.code] ++ (genBytes e.a ++ (genBytes e.b ++ [activeCode e.active, flagByte e.present, absenceCause e]))

/-- The fields and points of a present profile; 00h for an absent one. -/
def profileItems : Option Profile → List Byte
  | none => List.replicate 18 0
  | some p => headerBytes p.header ++ (byteOf p.points.length :: p.points.flatMap pointBytes)

/-- The GET_PROFILE content (R160). -/
def profileContent (s : State) (id : ProfileId) : List Byte :=
  copyItems (s.cs.dir.entry (.profile id)) ++ profileItems (activeProfile s id)

/-- The GET_IMAGE content: the entry count and the entries asked for that lie below it (R160). -/
def imageContent (s : State) (slot : Slot) (start count : Nat) : List Byte :=
  copyItems (s.cs.dir.entry (.image slot)) ++ (byteOf (imageEntries s slot).length
    :: (((imageEntries s slot).drop start).take count).flatMap entryBytes)

/-- The GET_SETTINGS content (R160). -/
def settingsContent (s : State) : List Byte :=
  copyItems (s.cs.dir.entry .settings) ++ (s.cs.inEffect.code :: settingsBytes (activeSettings s))

/-! ### The edit session (R147, R151) -/

/-- The EDIT_OPEN content: kind, id, new mark, generation of the active copy or none (R147). -/
def openContent (s : State) (b : EditBuffer) : List Byte :=
  [objKind b.obj, objIdByte b.obj, flagByte b.isNew]
    ++ optional 2 (((s.cs.dir.entry b.obj).activeInfo.bind CopyInfo.gen).map (fun g => be16 g.toNat))

/-- What EDIT_SHOW adds by session state: in OPEN the ms left, in COMMITTING copy and generation; 00h
where the condition does not hold (R151, R196). -/
def showTail (s : State) : List Byte :=
  match s.cs.session with
  | .opened => be32 (s.cs.editTimer.getD s.now - s.now) ++ [0, 0, 0]
  | .committing => match s.cs.commit with
    | some c => [0, 0, 0, 0, copyCode c.copy] ++ be16 c.gen.toNat
    | none => [0, 0, 0, 0, 0, 0, 0]
  | .closed => [0, 0, 0, 0, 0, 0, 0]

/-- The EDIT_SHOW content (R151). -/
def showContent (s : State) (b : EditBuffer) : List Byte :=
  [s.cs.session.code, objKind b.obj, objIdByte b.obj, flagByte b.isNew, flagByte b.removal] ++ (b.content.shown ++ showTail s)

end Sys2Proof.Machine
end

