-- ==== Sys2Proof/Machine/Requests.lean ====
section
/-! DEFINITION. The steps common to the execution of requests (spec/09 R165, spec/10 R178): encoding, part
state, then the request's own rule; and the manner of the editing requests (spec/08 R148). -/

namespace Sys2Proof.Machine

/-- The name of a request code, for a command that dispatches it. -/
def named (code : Byte) (c : Option Byte) : Bool := c == some code

/-- A code that names no request, or no code (R178 step 4). -/
def unknownCode : Option Byte → Bool
  | none => true
  | some c => !requestCodes.contains c

/-- Encoding, then part state against an admission, then the body (R165). -/
def judged {α : Type} (parsed : Option α) (admitted : State → Bool) (body : α → Frame → State → State) (f : Frame)
    (s : State) : State :=
  match parsed with
  | none => reply f .badArgument [] s
  | some a => if admitted s then body a f s else refuseState f s

/-- Taken in every part state (R165). -/
def always (_ : State) : Bool := true

/-- Taken in RUN, HOLD and SAFE (R165). -/
def afterStart (s : State) : Bool := s.oc.part != .start

/-- A request whose whole effect is its OK reply. -/
def report (content : State → List Byte) (_ : Unit) (f : Frame) (s : State) : State := reply f .ok (content s) s

/-! ### Editing requests (R148) -/

/-- A refusal of an editing request judged in OPEN restarts the edit timer (R148, R195). -/
def restartIfOpen (s : State) : State := if s.cs.session = .opened then startEditTimer s else s

/-- The body of an editing request in each session state (R148): NO_EDIT in CLOSED, BUSY in COMMITTING,
in OPEN the timer is restarted and the request carried out. -/
def editing {α : Type} (parsed : Option α) (body : α → EditBuffer → Frame → State → State) (f : Frame) (s : State) : State :=
  match parsed with
  | none => reply f .badArgument [] (restartIfOpen s)
  | some a =>
    if s.oc.part = .start then refuseState f s
    else match s.cs.session, s.cs.buffer with
      | .opened, some b => body a b f (startEditTimer s)
      | .committing, _ => reply f .busy [] s
      | _, _ => reply f .noEdit [] s

/-- The buffer takes a new content, or the form is refused (R148); a taken change clears the removal mark
(R149, R150). -/
def changeBuffer (b : EditBuffer) (new : Option BufferContent) (content : BufferContent → List Byte) (f : Frame)
    (s : State) : State :=
  match new with
  | none => reply f .badArgument [] s
  | some c =>
    reply f .ok (content c) { s with cs := { s.cs with buffer := some { b with content := c, removal := false } } }

end Sys2Proof.Machine
end

