-- ==== Sys2Proof/Machine/ExecControl.lean ====
section
/-! DEFINITION. The meanings of the runtime requests: SET_MODE, SET_TRIM, SET_DERATE, PASS_NOW,
TARGET_ADMIN and RESTART (spec/02, spec/03, spec/04, spec/09). -/

namespace Sys2Proof.Machine

/-! ### SET_MODE (R167) -/

/-- The part state before and after, which every SET_MODE reply carries (R167, R196). -/
def modeItems (before after : PartState) : List Byte := [before.code, after.code]

/-- SET_MODE after the encoding judgement: part state, then argument, then the move (R165, R167). -/
def setPartState (asked : PartState) (f : Frame) (s : State) : State :=
  if s.oc.part = .start ∨ s.oc.part = .safe then reply f .wrongState (modeItems s.oc.part s.oc.part) s
  else if asked = .run ∨ asked = .hold then
    reply f .ok (modeItems s.oc.part asked) { s with oc := { s.oc with part := asked } }
  else reply f .badArgument (modeItems s.oc.part s.oc.part) s

/-- SET_MODE (R167). -/
def execSetMode (s : State) : Answer :=
  .next (dispatch (named 0x10)
    (fun f s => match modeArg f.args with
      | none => reply f .badArgument (modeItems s.oc.part s.oc.part) s
      | some asked => setPartState asked f s) s)

/-! ### SET_TRIM (R26) and SET_DERATE (R28) -/

/-- The trim of an id takes the new value (R26). -/
def takeTrim (id : ProfileId) (trim : Int) (f : Frame) (s : State) : State :=
  reply f .ok (byteOf id.val :: (signed16 s.ce.trims[id] ++ signed16 trim)) (setTrimOf id trim s)

/-- SET_TRIM (R26). -/
def execSetTrim (s : State) : Answer :=
  .next (dispatch (named 0x11)
    (fun f s => judged (trimArgs f.args) afterStart
      (fun a f s => match profileIdOf a.1 with
        | some id => takeTrim id a.2 f s
        | none => reply f .badArgument [] s) f s) s)

/-- The host derate level takes the new value (R28). -/
def takeDerate (level : Nat) (f : Frame) (s : State) : State :=
  let s1 : State := { s with ce := { s.ce with hostDerate := level } }
  reply f .ok [byteOf s.ce.hostDerate, byteOf level, byteOf (effectiveDerate s1)] s1

/-- SET_DERATE (R28). -/
def execSetDerate (derate : Bool) (s : State) : Answer :=
  .next (dispatch (named 0x12)
    (fun f s => judged (byteArg f.args) afterStart
      (fun b f s => if b.toNat ≤ 2 then takeDerate b.toNat f s else reply f .badArgument [] s) f
      (sampleDerate derate s)) s)

/-! ### PASS_NOW (R41) -/

/-- The account of a pass, with the pass count, Ti and the derate level it used (R41). -/
def passContent (s : State) (x : State × PassAccount) : List Byte :=
  be16 x.1.ce.passCount.toNat ++ (signed16 (evalIndex s) ++ [byteOf (effectiveDerate s), byteOf x.2.evaluated,
    byteOf x.2.enqueued, byteOf x.2.replaced, byteOf x.2.deferred, byteOf x.2.latchesEnqueued, byteOf x.2.latchesMoved,
    byteOf x.2.latchesDeferred])

/-- PASS_NOW is taken in RUN with the announced supply NORMAL (R41). -/
def passAdmitted (s : State) : Bool := s.oc.part == .run && s.ce.supply == .normal

/-- The pass and its reply (R41). -/
def passReply (_ : Unit) (f : Frame) (s : State) : State := reply f .ok (passContent s (runPass s)) (runPass s).1

/-- PASS_NOW (R41). -/
def execPassNow (derate : Bool) (s : State) : Answer :=
  .next (dispatch (named 0x13)
    (fun f s => judged (noArgs f.args) passAdmitted passReply f (sampleDerate derate s)) s)

/-! ### TARGET_ADMIN (R71 to R74) -/

/-- What an action does in a target state: `none` is TARGET_STATE, `some false` taken without change,
`some true` taken with change (R71). -/
def admitAction (a : Action) (st : TargetState) : Option Bool :=
  match a with
  | .enable => if st = .disabled then some true else none
  | .disable => if st = .unconfigured then none else some (st != .disabled)
  | .suspend => if st = .unconfigured then none else some (st != .suspended)
  | .resume => if st = .suspended then some true else none
  | .reload => if automaticUse st then some true else none

/-- The entry an action makes (R72 to R74). -/
def actOn (a : Action) (slot : Slot) (s : State) : State :=
  match a with
  | .enable => hostProbe slot .hostEnable s
  | .disable => enterPlain slot .disabled .hostDisable .absent s
  | .suspend => enterPlain slot .suspended .hostSuspend .absent s
  | .resume => hostResume slot s
  | .reload => hostReload slot s

/-- Slot, action, state before and after, and the reason of a change, 00h without one (R71, R196; log 18). -/
def adminItems (slotByte actionByte before after reason : Byte) : List Byte :=
  [slotByte, actionByte, before, after, reason]

/-- The reply items of a request that changes nothing. -/
def adminUnchanged (slot : Slot) (a : Action) (s : State) : List Byte :=
  adminItems (byteOf slot.val) a.code s.ctxs[slot].state.code s.ctxs[slot].state.code 0

/-- Whether the part state refuses an action (R71 steps 2 and 3). -/
def adminRefused (a : Action) : PartState → Bool
  | .start => true
  | .safe => a != .disable && a != .suspend
  | _ => false

/-- A taken action with change. The reply, which the dispatch had room for, stands ahead of the CANCELLED
replies of the entry's purges (R176, R179). The state after and the reason are those at the end of the happening: where the record has no identity
check, ENABLE, RESUME and RELOAD go on to LOADING, or IN_SERVICE, with PROBED or LOADED, and R71's table and R72 name
PROBING alone (DEDUCED, log 42). -/
def adminTaken (slot : Slot) (a : Action) (f : Frame) (s : State) : State :=
  let after := (actOn a slot s).ctxs[slot]
  decideIfEnqueued s (actOn a slot
    (reply f .ok (adminItems (byteOf slot.val) a.code s.ctxs[slot].state.code after.state.code after.reason.code) s))

/-- TARGET_ADMIN after the encoding judgement (R71). -/
def admin (slot : Slot) (a : Action) (f : Frame) (s : State) : State :=
  if adminRefused a s.oc.part then reply f .wrongState (adminUnchanged slot a s) s
  else match admitAction a s.ctxs[slot].state with
    | none => reply f .targetState (adminUnchanged slot a s) s
    | some false => reply f .ok (adminUnchanged slot a s) s
    | some true => adminTaken slot a f s

/-- The reply items of a malformed TARGET_ADMIN: the request's bytes, FFh where it did not carry one, and
both states FFh (R196). -/
def adminMalformed (args : List Byte) : List Byte :=
  adminItems (args.getD 0 0xFF) (args.getD 1 0xFF) 0xFF 0xFF 0

/-- TARGET_ADMIN (R71). -/
def execTargetAdmin (derate : Bool) (s : State) : Answer :=
  .next (dispatch (named 0x14)
    (fun f s => match adminArgs f.args with
      | none => reply f .badArgument (adminMalformed f.args) s
      | some (slot, a) => admin slot a f (sampleDerate derate s)) s)

/-! ### RESTART (R169) -/

/-- RESTART taken: the reply is marked and recorded as the restart pending (R169). -/
def takeRestart (f : Frame) (s : State) : State :=
  answerNow f.tag f.code (digestOf f.payload) (replyPayload f.code .ok []) true
    { s with oc := { s.oc with restart := some f.tag } }

/-- RESTART (R169, R170). -/
def execRestart (s : State) : Answer :=
  .next (dispatch (named 0x15)
    (fun f s => judged (noArgs f.args) afterStart
      (fun _ f s => if s.hl.pend.isEmpty then takeRestart f s else reply f .busy [byteOf s.hl.pend.length] s) f s) s)

end Sys2Proof.Machine
end

