-- ==== Sys2Proof/Machine/ExecEdit.lean ====
section
/-! DEFINITION. The meanings of the requests of the edit session (spec/08, R146 to R155). -/

namespace Sys2Proof.Machine

/-- EDIT_OPEN after encoding and part state (R147): the kind and id first, then the session. -/
def openEdit (a : Byte × Byte) (f : Frame) (s : State) : State :=
  match objOf a.1 a.2 with
  | none => reply f .badArgument [] s
  | some obj =>
    if s.cs.session = .closed then reply f .ok (openContent s (openBuffer s obj)) (openSession obj s)
    else reply f .busy [] s

/-- EDIT_OPEN (R147). -/
def execEditOpen (s : State) : Answer :=
  .next (dispatch (named 0x30) (fun f s => judged (openArgs f.args) afterStart openEdit f s) s)

/-- EDIT_FIELD on an open buffer (R149); a request too short to name a change is refused (R148, R195). -/
def editFieldBody (a : FieldArgs) (b : EditBuffer) (f : Frame) (s : State) : State :=
  match a with
  | .short => changeBuffer b none (fun _ => []) f s
  | .set num bytes => changeBuffer b (setField b.content num.toNat bytes) (fun c => num :: fieldBytes c num.toNat) f s
  | .clear num => changeBuffer b (clearField b.content num.toNat) (fun c => num :: fieldBytes c num.toNat) f s

/-- EDIT_FIELD (R149, R195). -/
def execEditField (s : State) : Answer :=
  .next (dispatch (named 0x31)
    (fun f s => editing (fieldArgs (s.cs.buffer.map EditBuffer.content) f.args) editFieldBody f s) s)

/-- What a list request answers: the count and the index range written (R150; log 18). -/
def listReply (start n : Nat) (c : BufferContent) : List Byte := [byteOf c.count, byteOf start, byteOf n]

/-- EDIT_POINTS on an open buffer (R150). -/
def editPointsBody (a : Nat × List Point) (b : EditBuffer) (f : Frame) (s : State) : State :=
  changeBuffer b (putPoints a.1 a.2 b.content) (listReply a.1 a.2.length) f s

/-- EDIT_POINTS (R150). -/
def execEditPoints (s : State) : Answer :=
  .next (dispatch (named 0x32) (fun f s => editing (pointsArgs f.args) editPointsBody f s) s)

/-- EDIT_ENTRIES on an open buffer (R150). -/
def editEntriesBody (a : Nat × List ImageEntry) (b : EditBuffer) (f : Frame) (s : State) : State :=
  changeBuffer b (putEntries a.1 a.2 b.content) (listReply a.1 a.2.length) f s

/-- EDIT_ENTRIES (R150). -/
def execEditEntries (s : State) : Answer :=
  .next (dispatch (named 0x33) (fun f s => editing (entriesArgs f.args) editEntriesBody f s) s)

/-- EDIT_COUNT on an open buffer (R150). -/
def editCountBody (n : Byte) (b : EditBuffer) (f : Frame) (s : State) : State :=
  changeBuffer b (setCount n.toNat b.content) (listReply 0 0) f s

/-- EDIT_COUNT (R150). -/
def execEditCount (s : State) : Answer :=
  .next (dispatch (named 0x34) (fun f s => editing (byteArg f.args) editCountBody f s) s)

/-- EDIT_REMOVE on an open buffer (R151). -/
def editRemoveBody (_ : Unit) (b : EditBuffer) (f : Frame) (s : State) : State :=
  if b.obj = .settings then reply f .badArgument [] s
  else reply f .ok [] { s with cs := { s.cs with buffer := some { b with removal := true } } }

/-- EDIT_REMOVE (R151). -/
def execEditRemove (s : State) : Answer :=
  .next (dispatch (named 0x35) (fun f s => editing (noArgs f.args) editRemoveBody f s) s)

/-- EDIT_SHOW in each session state: also taken in COMMITTING (R148, R151). -/
def showEdit (f : Frame) (s : State) : State :=
  match s.cs.session, s.cs.buffer with
  | .opened, some b => reply f .ok (showContent (startEditTimer s) b) (startEditTimer s)
  | .committing, some b => reply f .ok (showContent s b) s
  | _, _ => reply f .noEdit [] s

/-- EDIT_SHOW (R151). -/
def execEditShow (s : State) : Answer :=
  .next (dispatch (named 0x36)
    (fun f s => match noArgs f.args with
      | none => reply f .badArgument [] (restartIfOpen s)
      | some _ => if s.oc.part = .start then refuseState f s else showEdit f s) s)

/-- EDIT_COMMIT with room judged in the pending table: BUSY, or the programming begins (R153 steps 4, 5). -/
def startCommit (b : EditBuffer) (f : Frame) (s : State) : State :=
  if Config.pendingPlaces ≤ s.hl.pend.length then reply f .busy [] (startEditTimer s)
  else beginCommit b (addPending f .commit s)

/-- EDIT_COMMIT in OPEN (R153 steps 2 to 5). -/
def commitOpen (b : EditBuffer) (f : Frame) (s : State) : State :=
  if b.removal then
    if (s.cs.dir.entry b.obj).present then startCommit b f s
    else reply f .ok (optional 2 none) (closeSession s)
  else match validate s b with
    | some e => reply f .invalid (e.code :: be16 e.detail) (startEditTimer s)
    | none => startCommit b f s

/-- EDIT_COMMIT in each session state (R153). -/
def commitEdit (_ : Unit) (f : Frame) (s : State) : State :=
  match s.cs.session, s.cs.buffer with
  | .opened, some b => commitOpen b f s
  | .committing, _ => reply f .busy [] s
  | _, _ => reply f .noEdit [] s

/-- EDIT_COMMIT (R153 to R155). -/
def execEditCommit (s : State) : Answer :=
  .next (dispatch (named 0x37) (fun f s => judged (noArgs f.args) afterStart commitEdit f s) s)

/-- EDIT_ABANDON in each session state (R152). -/
def abandonEdit (_ : Unit) (f : Frame) (s : State) : State :=
  match s.cs.session with
  | .opened => reply f .ok [] (closeSession s)
  | .committing => reply f .busy [] s
  | .closed => reply f .noEdit [] s

/-- EDIT_ABANDON (R152). -/
def execEditAbandon (s : State) : Answer :=
  .next (dispatch (named 0x38) (fun f s => judged (noArgs f.args) afterStart abandonEdit f s) s)

end Sys2Proof.Machine
end

