-- ==== Sys2Proof/Machine/Measure.lean ====
section
/-! DEFINITION. The Measurement Unit's work at a cycle completion (spec/01, R3 to R14): the seven stages,
the notices and the announcements. -/

namespace Sys2Proof.Machine

/-- Stage 5 for a completion that is no restart: Tf moves by the quotient truncated toward zero (R8). -/
def filtered (tf raw : Int) (k : Nat) : Int := tf + Int.tdiv (raw - tf) (2 ^ k)

/-- Ti takes Tf when the two differ by at least H (R9). -/
def held (ti tf : Int) (h : Nat) : Int := if (h : Int) ≤ |tf - ti| then tf else ti

/-- Tf and Ti after stage 5: the raw reading at a restart, else filter and hysteresis (R7 to R9). -/
def index (restart : Bool) (oldTf : Int) (oldTi : Option Int) (raw : Int) (k h : Nat) : Int × Int :=
  match restart, oldTi with
  | false, some ti => (filtered oldTf raw k, held ti (filtered oldTf raw k) h)
  | _, _ => (raw, raw)

/-- A SUPPLY conversion: a voltage above 7000 mV reads as 7000 mV (R4). -/
def supplyReading (vmon : Nat) : Nat := min 7000 vmon

/-- The readings of a completion (R4). -/
def readingsOf (die : Word16) (remote : RemoteConversion) (vmon : Nat) : Readings :=
  ⟨die.toInt, (remoteReading remote).1, (remoteReading remote).2, supplyReading vmon⟩

/-- The MU's settings in use as a completion takes them up (R14). -/
def takenUp (x : Settings) : MuSettings := ⟨x.k, x.h, x.low, x.high, x.floor, x.margin⟩

/-- The raw reading of the effective source (R4). -/
def rawReading (source : IndexSource) (r : Readings) : Int := match source with
  | .die => r.die
  | .remote => r.remote

/-- Whether a completion is an index restart (R3, R7, R14). -/
def restarts (mu : Mu) (x : Settings) (eff : IndexSource) : Bool :=
  mu.ti.isNone || eff != mu.effSource || x.source != mu.sourceInUse

/-- The MU after stages 1 to 7 (R12). -/
def completeMu (x : Settings) (r : Readings) (mu : Mu) : Mu :=
  let moved := moveRemote mu.remoteCond mu.runCount (judgeRemote r.remoteStatus r.remote)
  let eff := effectiveSource x.source moved.1
  let ix := index (restarts mu x eff) mu.tf mu.ti (rawReading eff r) x.k x.h
  { mu with
    reading := some r
    cycleCount := mu.cycleCount + 1
    remoteCond := moved.1
    runCount := moved.2.1
    sourceInUse := x.source
    effSource := eff
    tf := ix.1
    ti := some ix.2
    span := spanOf (spanPosition ix.2 x.low x.high)
    supply := moveSupply mu.supply r.supply x.floor x.margin
    inUse := takenUp x
    lastPeriod := (mu.cycle.map Cycle.period).getD mu.lastPeriod
    cycle := none }

/-- The SENSOR notice of stage 3 (R6). -/
def sensorNotice (old new : Mu) (r : Readings) : List Notice :=
  let j := judgeRemote r.remoteStatus r.remote
  if (moveRemote old.remoteCond old.runCount j).2.2 then
    match j with
    | some reason => [⟨.warn, .sensor reason r.remote r.remoteStatus new.sourceInUse new.effSource⟩]
    | none => [⟨.info, .sensor .recovered r.remote r.remoteStatus new.sourceInUse new.effSource⟩]
  else []

/-- The INDEX_SPAN notice of stage 6 (R10). -/
def spanNotice (old new : Mu) : List Notice :=
  let ti := new.ti.getD 0
  if old.span = new.span then []
  else [⟨if new.span = .outside then .warn else .info,
         .indexSpan ti new.inUse.low new.inUse.high (spanPosition ti new.inUse.low new.inUse.high)⟩]

/-- The SUPPLY notice of stage 7 (R11). -/
def supplyNotice (old new : Mu) (r : Readings) : List Notice :=
  if old.supply = new.supply then []
  else [⟨if new.supply = .low then .fault else .info, .supply r.supply new.inUse.floor new.inUse.margin new.supply⟩]

/-- The notices of a completion in their order: SENSOR, INDEX_SPAN, SUPPLY (R12). -/
def completionNotices (old new : Mu) (r : Readings) : List Notice :=
  sensorNotice old new r ++ (spanNotice old new ++ supplyNotice old new r)

/-- The notices are appended, or withheld in START (R3). -/
def giveNotices (ns : List Notice) (s : State) : State :=
  if s.oc.part = .start then { s with mu := { s.mu with withheld := s.mu.withheld ++ ns } } else postNotices ns s

/-- A supply change is announced to the CE, the TM and the BM (R12). -/
def announceSupply (c : SupplyCond) (s : State) : State :=
  { s with msgs := { s.msgs with
      ceMu := s.msgs.ceMu ++ [.supplyChange c]
      tmSupply := s.msgs.tmSupply ++ [c]
      bmSupply := s.msgs.bmSupply ++ [c] } }

/-- Cycle complete is announced to the CE (R12). -/
def announceCycle (r : Readings) (first : Bool) (s : State) : State :=
  { s with msgs := { s.msgs with
      ceMu := s.msgs.ceMu ++ [.cycleComplete r (s.mu.ti.getD 0) s.mu.effSource s.mu.supply first] } }

/-- The first completion is announced to the Operating Control (R12, R162). -/
def announceFirst (first : Bool) (s : State) : State :=
  if first then { s with oc := { s.oc with firstCompletion := true } } else s

/-- A cycle completion, taken whole (R12). -/
def completeCycle (r : Readings) (s : State) : State :=
  let old := s.mu
  let new := completeMu (activeSettings s) r old
  let s1 := giveNotices (completionNotices old new r) { s with mu := new }
  let s2 := if old.supply = new.supply then s1 else announceSupply new.supply s1
  announceFirst old.ti.isNone (announceCycle r old.ti.isNone s2)

/-- A scheduled cycle starts at its time, takes the period of the active settings and schedules the next
start (R1, R13). -/
def beginCycle (t : Nat) (s : State) : State :=
  { s with mu := { s.mu with
      cycle := some ⟨t, (activeSettings s).period⟩
      nextStart := some (t + (activeSettings s).period) } }

end Sys2Proof.Machine
end

