-- ==== Sys2Proof/Machine/ExecEngine.lean ====
section
/-! DEFINITION. The meanings of the commands of the Compensation Engine and the Target Manager
(spec/02 to spec/05). -/

namespace Sys2Proof.Machine

/-! ### The Compensation Engine -/

/-- The CE takes the oldest announcement of the MU. -/
def takeCeMu (s : State) : State := { s with msgs := { s.msgs with ceMu := s.msgs.ceMu.tail } }

/-- Whether a cycle complete announcement runs a pass (R40). -/
def passDue (s : State) (first : Bool) : Bool := !first && s.oc.part == .run && s.ce.supply == .normal

/-- CYCLE_COMPLETE_AT_CE (R40, R42). -/
def execCycleCompleteAtCe (derate : Bool) (s : State) : Answer :=
  .next (match s.msgs.ceMu with
    | .cycleComplete _ _ _ _ first :: _ =>
      if passDue s first then (runPass (sampleDerate derate (takeCeMu s))).1 else sampleDerate derate (takeCeMu s)
    | _ => s)

/-- SUPPLY_CHANGE_AT_CE (R40). -/
def execSupplyChangeAtCe (s : State) : Answer :=
  .next (match s.msgs.ceMu with
    | .supplyChange c :: _ => { takeCeMu s with ce := { s.ce with supply := c } }
    | _ => s)

/-- SLOT_INVALIDATION (R53). -/
def execSlotInvalidation (slot : Slot) (s : State) : Answer := .next (settleInvalidation slot s)

/-- Whether an activation invalidates the profile's shadow: slot, parameter address, width or word order
differ, or no content was active before, or the profile is removed (R54, R55). -/
def invalidates (before after : Option Profile) : Bool :=
  match before, after with
  | some b, some a =>
    b.header.slot != a.header.slot || b.header.param != a.header.param || b.header.width != a.header.width
      || b.header.order != a.header.order
  | _, _ => true

/-- A write of the profile is withdrawn: a waiting one leaves the queue, one on the bus is marked stale;
a PROFILE step moves its load on (R54, R85). -/
def withdraw (r : Option Ref) (s : State) : State :=
  match r with
  | none => s
  | some w => match transferById s w.id with
    | none => s
    | some t => stepWithdrawn t (if t.onBus then markStale w.id s else depart w.id s)

/-- An activation that invalidates a profile's shadow (R54). -/
def invalidateProfile (id : ProfileId) (s : State) : State :=
  let sh := s.ce.shadows[id]
  withdraw sh.onBus (withdraw sh.waiting (setShadow id Shadow.reset s))

/-- An activation that keeps a profile's shadow; a disabled profile's DEFERRED is cleared (R55). -/
def keepProfile (id : ProfileId) (after : Option Profile) (s : State) : State :=
  match after with
  | some p => if p.header.enabled then s else modShadow id (fun sh => { sh with deferred := false }) s
  | none => s

/-- The effect of one profile announcement (R54, R55, R25). -/
def takeProfileChange (c : ProfileChange) (s : State) : State :=
  let s1 := if c.after.isNone then setTrimOf c.id 0 s else s
  if invalidates c.before c.after then invalidateProfile c.id s1 else keepProfile c.id c.after s1

/-- PROFILE_ACTIVATION (R54, R55, R85). -/
def execProfileActivation (derate : Bool) (s : State) : Answer :=
  .next (match s.msgs.ceProfile with
    | c :: rest =>
      decideIfEnqueued s
        (takeProfileChange c (sampleDerate derate { s with msgs := { s.msgs with ceProfile := rest } }))
    | [] => s)

/-! ### The Target Manager -/

/-- SUPPLY_RECOVERY_CHECKS (R98): the TM takes a supply change; a change to LOW changes nothing. -/
def execSupplyRecoveryChecks (s : State) : Answer :=
  .next (match s.msgs.tmSupply with
    | c :: rest =>
      let s1 : State := { s with msgs := { s.msgs with tmSupply := rest } }
      match c with
      | .normal => decideIfEnqueued s (recoveryChecks (List.finRange 8) s1)
      | .low => s1
    | [] => s)

/-- The purge of slot-addressed manual transfers at a changed bus address (R68). -/
def addressChange (slot : Slot) (before : Option TargetRecord) (after : TargetRecord) (s : State) : State :=
  match before with
  | some b => if b.addr = after.addr then s else purgeSlotManual slot .addressChanged s
  | none => s

/-- A record added for an UNCONFIGURED slot (R78); auto-start is that of the announced record (R159; log 36). -/
def recordAdded (slot : Slot) (r : TargetRecord) (s : State) : State :=
  let s1 := enterPlain slot .disabled .recordAdded .absent s
  if r.autoStart = true ∧ (s.oc.part = .run ∨ s.oc.part = .hold) then enterProbing slot .autoStart .absent s1 else s1

/-- The activation of a record at the TM, by the slot's state (R76, R78). The purge for a changed address
stands ahead of the entry's raw-write purge (log 37). A raw write at the new address waits unpurged until this
happening (R68, R159; log 44). -/
def takeRecord (slot : Slot) (before : Option TargetRecord) (after : TargetRecord) (s : State) : State :=
  if s.ctxs[slot].state = .unconfigured then recordAdded slot after s
  else
    let s1 := addressChange slot before after s
    if automaticUse s.ctxs[slot].state then activationProbe slot s1 else s1

/-- The TM takes the oldest announcement of the CS. -/
def takeTmStore (s : State) : State := { s with msgs := { s.msgs with tmStore := s.msgs.tmStore.tail } }

/-- RECORD_ACTIVATION (R76, R78). -/
def execRecordActivation (derate : Bool) (s : State) : Answer :=
  .next (match s.msgs.tmStore with
    | .record slot before (some after) :: _ =>
      decideIfEnqueued s (takeRecord slot before after (sampleDerate derate (takeTmStore s)))
    | _ => s)

/-- The three counters of a slot cleared (R61). -/
def clearCounters (c : Ctx) : Ctx := { c with loads := 0, losses := 0, faults := 0 }

/-- The removal of a record at the TM (R77). -/
def takeRemoval (slot : Slot) (s : State) : State :=
  if s.ctxs[slot].state = .unconfigured then s
  else enterPlain slot .unconfigured .recordRemoved .absent (modCtx slot clearCounters s)

/-- RECORD_REMOVAL (R77). -/
def execRecordRemoval (s : State) : Answer :=
  .next (match s.msgs.tmStore with
    | .record slot _ none :: _ => takeRemoval slot (takeTmStore s)
    | _ => s)

/-- IMAGE_ACTIVATION (R76, R59): without the slot's record it changes nothing. -/
def execImageActivation (derate : Bool) (s : State) : Answer :=
  .next (match s.msgs.tmStore with
    | .image slot present :: _ =>
      let s1 := sampleDerate derate (takeTmStore s)
      if present = true ∧ automaticUse s.ctxs[slot].state = true then decideIfEnqueued s (activationProbe slot s1) else s1
    | _ => s)

/-- COMPENSATION_FAILURE_REPORT (R97): taken in IN_SERVICE, ignored otherwise (R75). -/
def execCompensationFailureReport (s : State) : Answer :=
  .next (match s.msgs.tmReports with
    | r :: rest =>
      let s1 : State := { s with msgs := { s.msgs with tmReports := rest } }
      if s.ctxs[r.slot].state = .inService then enterFaultHold r.slot .unreachable (.failed r.origin r.outcome) s1
      else s1
    | [] => s)

/-- QUEUE_DEPARTURE (R83). -/
def execQueueDeparture (derate : Bool) (s : State) : Answer :=
  .next (if s.msgs.departures = 0 then s
    else decideIfEnqueued s (retrySteps (List.finRange 8)
      (sampleDerate derate { s with msgs := { s.msgs with departures := s.msgs.departures - 1 } })))

/-- CHECK_TIMER_EXPIRY (R94). -/
def execCheckTimerExpiry (slot : Slot) (s : State) : Answer :=
  .next (match s.ctxs[slot].checkTimer with
    | some t => decideIfEnqueued s (startCheck slot (advanceTo t s))
    | none => s)

/-- The expiry of a fault hold (R100). -/
def holdExpired (slot : Slot) (s : State) : State :=
  let limit := (activeSettings s).recoveryLimit
  if limit ≠ 0 ∧ limit ≤ s.ctxs[slot].recovery then enterPlain slot .outOfService .recoveryExhausted .absent s
  else enterProbing slot .holdExpired .absent (modCtx slot (fun c => { c with recovery := min 15 (c.recovery + 1) }) s)

/-- FAULT_HOLD_TIMER_EXPIRY (R100). -/
def execFaultHoldTimerExpiry (slot : Slot) (derate : Bool) (s : State) : Answer :=
  .next (match s.ctxs[slot].faultTimer with
    | some t => decideIfEnqueued s (holdExpired slot (sampleDerate derate (advanceTo t s)))
    | none => s)

end Sys2Proof.Machine
end

