-- ==== Sys2Proof/Machine/ExecInfo.lean ====
section
/-! DEFINITION. The meanings of the requests that report, and of UNKNOWN_REQUEST: each dispatches the
oldest intake frame when its code names the request (R176 to R178). -/

namespace Sys2Proof.Machine

/-- UNKNOWN_REQUEST (R178 step 4). -/
def execUnknownRequest (s : State) : Answer :=
  .next (dispatch unknownCode (fun f s => reply f .unknownRequest [] s) s)

/-- IDENTIFY (R184). -/
def execIdentify (s : State) : Answer :=
  .next (dispatch (named 0x01) (fun f s => judged (noArgs f.args) always (report (fun _ => identifyContent)) f s) s)

/-- GET_STATUS (R185, R127, R16, R27): the DERATE input is sampled at the reply. -/
def execGetStatus (derate : Bool) (s : State) : Answer :=
  .next (dispatch (named 0x02)
    (fun f s => judged (noArgs f.args) always (report statusContent) f (sampleDerate derate s)) s)

/-- GET_MEASUREMENTS (R15). -/
def execGetMeasurements (s : State) : Answer :=
  .next (dispatch (named 0x03)
    (fun f s => judged (noArgs f.args) afterStart (report (fun s => measurementsContent s.mu)) f s) s)

/-- GET_TARGET (R81). -/
def execGetTarget (s : State) : Answer :=
  .next (dispatch (named 0x04)
    (fun f s => judged (slotArg f.args) afterStart (fun slot f s => reply f .ok (targetContent s slot) s) f s) s)

/-- GET_PROFILE (R160). -/
def execGetProfile (s : State) : Answer :=
  .next (dispatch (named 0x05)
    (fun f s => judged (byteArg f.args) afterStart
      (fun b f s => match profileIdOf b with
        | some id => reply f .ok (profileContent s id) s
        | none => reply f .badArgument [] s) f s) s)

/-- The shadow is read as it stands between happenings: an invalidation asked for by the slot's entry is
taken before it (R53, R56; log 6). -/
def settleForReport (id : ProfileId) (s : State) : State :=
  settleInvalidations ((List.finRange 8).filter (fun slot => profileNames s slot id)) s

/-- GET_SHADOW (R56). -/
def execGetShadow (s : State) : Answer :=
  .next (dispatch (named 0x06)
    (fun f s => judged (byteArg f.args) afterStart
      (fun b f s => match profileIdOf b with
        | some id => reply f .ok (shadowContent (settleForReport id s) id) (settleForReport id s)
        | none => reply f .badArgument [] s) f s) s)

/-- Start index and count of GET_IMAGE in their ranges (R160). -/
def imageRangeFits (start n : Byte) : Bool := decide (start.toNat ≤ 31) && decide (1 ≤ n.toNat) && decide (n.toNat ≤ 32)

/-- GET_IMAGE (R160). -/
def execGetImage (s : State) : Answer :=
  .next (dispatch (named 0x07)
    (fun f s => judged (imageArgs f.args) afterStart
      (fun a f s =>
        if imageRangeFits a.2.1 a.2.2 then reply f .ok (imageContent s a.1 a.2.1.toNat a.2.2.toNat) s
        else reply f .badArgument [] s) f s) s)

/-- GET_SETTINGS (R160). -/
def execGetSettings (s : State) : Answer :=
  .next (dispatch (named 0x08)
    (fun f s => judged (noArgs f.args) afterStart (report settingsContent) f s) s)

end Sys2Proof.Machine
end

