-- ==== Sys2Proof/Machine/ExecLink.lean ====
section
/-! DEFINITION. The meanings of the commands of the Host Link's line and of the Notice Unit (spec/10,
spec/11). -/

namespace Sys2Proof.Machine

/-! ### Characters and frames -/

/-- The request frame a completed body holds. -/
def receivedFrame (rx : Rx) : Frame := ⟨bodyTag (bodyInCheck rx), bodyPayload (bodyInCheck rx)⟩

/-- REQUEST_FRAME_RECEIVED (R174, R175): `c` is the last CRC byte of a valid REQUEST frame. -/
def execRequestFrameReceived (c : Byte) (s : State) : Answer :=
  .next (if classify s.hl.rx c false = .request then
      intakeFrame (receivedFrame s.hl.rx) (deliverFrame none (moveRx .hunt s))
    else s)

/-- ACK_RECEIVED (R174, R189): `c` is the last CRC byte of a valid ACK frame. -/
def execAckReceived (c : Byte) (s : State) : Answer :=
  .next (if classify s.hl.rx c false = .ack then
      deliverFrame (some (receivedFrame s.hl.rx).tag) (moveRx .hunt s)
    else s)

/-- Whether a discarded frame is valid, of a KIND the host may not send (R174). -/
def validForeign (rx : Rx) (c : Byte) (framingError : Bool) : Bool :=
  match rx, framingError with
  | .check len bytes (some hi), false => crcMatches len bytes hi c
  | _, _ => false

/-- INVALID_FRAME (R171, R173, R174): bad LEN, framing error, wrong CRC, or a KIND the host may not send;
the last is still a valid frame for the NU. -/
def execInvalidFrame (c : Byte) (framingError : Bool) (s : State) : Answer :=
  .next (if classify s.hl.rx c framingError = .invalid then
      if validForeign s.hl.rx c framingError then deliverFrame none (moveRx .hunt s) else moveRx .hunt s
    else s)

/-- CHARACTER_RECEIVED (R173): a character that ends no frame. -/
def execCharacterReceived (c : Byte) (framingError : Bool) (s : State) : Answer :=
  .next (if s.oc.held = false ∧ classify s.hl.rx c framingError = .plain then
      (if s.hl.rx = .hunt ∧ nextRx s.hl.rx c framingError = .hunt then s else moveRx (nextRx s.hl.rx c framingError) s)
    else s)

/-- GAP_TIMER_EXPIRY (R173). -/
def execGapTimerExpiry (s : State) : Answer :=
  .next (match s.hl.gap with
    | some t => moveRx .hunt (advanceTo t s)
    | none => s)

/-- FRAME_SENT (R182): the last byte of a frame leaves HTX; after the RESTART reply the part resets with
cause REQUEST and the straps are sampled (R170, R161). -/
def execFrameSent (straps : BitVec 2) (s : State) : Answer :=
  .next (match s.hl.tx with
    | some f =>
      if f.restart then resetEnded .request straps s else txChoose { s with hl := { s.hl with tx := none } }
    | none => s)

/-! ### Notices -/

/-- NOTICE_APPEND (R187): the NU takes the oldest notice handed to it. -/
def execNoticeAppend (s : State) : Answer :=
  .next (match s.msgs.notices with
    | n :: rest => txChoose (setNu (appendTo n s.nu) { s with msgs := { s.msgs with notices := rest } })
    | [] => s)

/-- RETRANSMIT_TIMER_EXPIRY (R190). -/
def execRetransmitTimerExpiry (s : State) : Answer :=
  .next (match s.nu.timer with
    | some t => txChoose (setNu (retransmitExpiry s.nu) (advanceTo t s))
    | none => s)

end Sys2Proof.Machine
end

