-- ==== Sys2Proof/Machine/ExecManual.lean ====
section
/-! DEFINITION. The meanings of MANUAL_READ and MANUAL_WRITE (spec/07_manual_access.md). -/

namespace Sys2Proof.Machine

/-- The three items every manual reply inserts; at a refusal the bytes of the request, FFh where it did
not carry one (R196). -/
def insertedItems (args : List Byte) : List Byte := [args.getD 0 0xFF, args.getD 1 0xFF, args.getD 2 0xFF]

/-- A refusal at dispatch (R129, R196). -/
def refuseManual (f : Frame) (r : Result) (content : List Byte) (s : State) : State :=
  reply f r (insertedItems f.args ++ content) s

/-- A request malformed in another way than its encoding (R128): a raw address outside 08h to 77h, a
length or count outside 1 to 16. -/
def malformed (a : ManualArgs) : Bool :=
  (a.slot.isNone && (decide (a.addr.toNat < 0x08) || decide (0x77 < a.addr.toNat)))
    || decide (a.count < 1) || decide (16 < a.count)

/-- Admission of a slot-addressed request by the target state (R130). -/
def admitsManual (d : Dir) (st : TargetState) : Bool :=
  match d, st with
  | _, .suspended => true
  | .read, .disabled => true
  | .read, .inService => true
  | .read, .faultHold => true
  | .read, .mismatch => true
  | .read, .outOfService => true
  | _, _ => false

/-- The slot that owns an address against raw writes: one in a configured state other than SUSPENDED and DISABLED
whose active record has the address (R131). A slot that is still UNCONFIGURED owns none, whatever record is active: a
raw write dispatched ahead of SLOT_SET_UP or RECORD_ACTIVATION is taken, and the entry into PROBING purges it (R132;
DEDUCED, log 32). -/
def owningSlot (s : State) (addr : Byte) : Option Slot :=
  (List.finRange 8).find? (fun i => automaticUse s.ctxs[i].state && (match activeRecord s i with
    | some r => r.addr == addr
    | none => false))

/-- The request of a manual transfer (R133). -/
def manualRequest (d : Dir) (a : ManualArgs) (addr tag : Byte) : Request :=
  ⟨.request tag, a.slot, addr, d, a.reg, a.data, (match d with
    | .read => a.count
    | .write => 0), 0⟩

/-- Checks 4 to 6 of R129 and the taking of the request (R133). -/
def enqueueManual (d : Dir) (a : ManualArgs) (addr : Byte) (f : Frame) (s : State) : State :=
  if Config.pendingPlaces ≤ s.hl.pend.length then refuseManual f .busy [] s
  else match refuseEnqueue .manual s with
    | some .busFault => refuseManual f .transferFailed [BusOutcome.busFault.code] s
    | some _ => refuseManual f .queueFull [] s
    | none =>
      grantDecision (addTransfer (manualRequest d a addr f.tag) (addPending f (.transfer s.bm.nextId) s))

/-- A raw write to an owned address is refused; a raw read passes (R131). -/
def rawOwner (d : Dir) (addr : Byte) (s : State) : Option Slot :=
  match d with
  | .read => none
  | .write => owningSlot s addr

/-- Check 3 of R129 for each form of address; the HL reads the active record (R159). A slot whose removal
the TM has not taken yet has none, and is refused as an UNCONFIGURED one is (log 36). -/
def admitManual (d : Dir) (a : ManualArgs) (f : Frame) (s : State) : State :=
  match a.slot with
  | some slot =>
    match admitsManual d s.ctxs[slot].state, activeRecord s slot with
    | true, some r => enqueueManual d a r.addr f s
    | _, _ => refuseManual f .targetState [byteOf slot.val, s.ctxs[slot].state.code] s
  | none =>
    match rawOwner d a.addr s with
    | some slot => refuseManual f .addressOwned [byteOf slot.val, s.ctxs[slot].state.code] s
    | none => enqueueManual d a a.addr f s

/-- A manual request at its dispatch (R129). -/
def manual (d : Dir) (parsed : Option ManualArgs) (f : Frame) (s : State) : State :=
  match parsed with
  | none => refuseManual f .badArgument [] s
  | some a =>
    if s.oc.part = .start then refuseManual f .wrongState [s.oc.part.code] s
    else if malformed a then refuseManual f .badArgument [] s
    else admitManual d a f s

/-- MANUAL_READ (R128 to R133). -/
def execManualRead (s : State) : Answer :=
  .next (dispatch (named 0x20) (fun f s => manual .read (manualReadArgs f.args) f s) s)

/-- MANUAL_WRITE (R128 to R133). -/
def execManualWrite (s : State) : Answer :=
  .next (dispatch (named 0x21) (fun f s => manual .write (manualWriteArgs f.args) f s) s)

end Sys2Proof.Machine
end

