-- ==== Sys2Proof/Machine/ExecStart.lean ====
section
/-! DEFINITION. The meanings of the reset, start-up and measurement commands (spec/01, spec/09). -/

namespace Sys2Proof.Machine

/-- POWER_ON_RESET (R161): held in reset with cause POWER. -/
def execPowerOnReset (s : State) : Answer := .next (holdInReset .power s)

/-- PIN_RESET (R161): held in reset with cause PIN; a reset that began at power-up keeps POWER (log 25). -/
def execPinReset (s : State) : Answer :=
  .next (holdInReset (if s.oc.held = true ∧ s.oc.cause = .power then .power else .pin) s)

/-- RESET_RELEASE (R161): the reset ends, the straps are sampled, START begins. -/
def execResetRelease (straps : BitVec 2) (s : State) : Answer :=
  .next (if s.oc.held then resetEnded s.oc.cause straps s else s)

/-- START_UP_SCAN_END (R143, R144). -/
def execStartUpScanEnd (disturbed : List (ObjId × CopyName)) (s : State) : Answer :=
  .next (if s.cs.scanning then endScan disturbed s else s)

/-- CYCLE_START (R1, R13): due when a start is scheduled and the cycle before has completed. -/
def execCycleStart (s : State) : Answer :=
  .next (match s.mu.nextStart, s.mu.cycle with
    | some t, none => beginCycle t (advanceTo t s)
    | _, _ => s)

/-- CYCLE_COMPLETION (R12): 12 ms after the cycle's start (R1). -/
def execCycleCompletion (die : Word16) (remote : RemoteConversion) (vmon : Nat) (s : State) : Answer :=
  .next (match s.mu.cycle with
    | some c => completeCycle (readingsOf die remote vmon) (advanceTo (c.start + 12) s)
    | none => s)

/-- The part state START ends in (R163 stage 1). -/
def chosenState (r : ScanResult) : PartState :=
  if r.inEffect = .factoryDamaged then .safe else match r.startMode with
    | .run => .run
    | .hold => .hold

/-- The STARTED notice (R164). -/
def startedNotice (part : PartState) (r : ScanResult) (s : State) : NoticeContent :=
  .started s.oc.cause part r.inEffect s.oc.baud r.record (evalIndex s) s.mu.effSource s.mu.supply

/-- The end of START (R163). -/
def endStart (r : ScanResult) (s : State) : State :=
  let part := chosenState r
  let s1 := postNotice .info (startedNotice part r s) { s with oc := { s.oc with part := part } }
  { s1 with msgs := { s1.msgs with endMu := true, endCs := true, endTm := some part, endHl := true } }

/-- END_OF_START (R162, R163): due when the scan result and the first completion are both taken. -/
def execEndOfStart (s : State) : Answer :=
  .next (match s.oc.scanResult with
    | some r => if s.oc.part = .start ∧ s.oc.firstCompletion = true then endStart r s else s
    | none => s)

/-- WITHHELD_NOTICES_APPEND (R3): the MU's notices of the first completion. -/
def execWithheldNoticesAppend (s : State) : Answer :=
  .next (if s.msgs.endMu then
      postNotices s.mu.withheld
        { s with mu := { s.mu with withheld := [] }, msgs := { s.msgs with endMu := false } }
    else s)

/-- The objects absent by damage, as the scan record lists them (R145). -/
def damagedObjects (s : State) : List ObjId := s.cs.scan.absentByDamage

/-- DAMAGED_OBJECT_NOTICES (R145). -/
def execDamagedObjectNotices (s : State) : Answer :=
  .next (if s.msgs.endCs then
      postNotices (damagedNotices s.cs.dir (damagedObjects s)) { s with msgs := { s.msgs with endCs := false } }
    else s)

/-- SLOT_SET_UP (R79). -/
def execSlotSetUp (derate : Bool) (s : State) : Answer :=
  .next (match s.msgs.endTm with
    | some part =>
      decideIfEnqueued s
        (setUpSlots part (List.finRange 8) (sampleDerate derate { s with msgs := { s.msgs with endTm := none } }))
    | none => s)

/-- WITHHELD_OVERRUN_NOTICE (R175). -/
def execWithheldOverrunNotice (s : State) : Answer :=
  .next (if s.msgs.endHl then
      let s1 : State := { s with hl := { s.hl with startOverrun := none }, msgs := { s.msgs with endHl := false } }
      match s.hl.startOverrun with
      | some (tag, code) => postNotice .warn (.linkOverrun tag code s.hl.overruns) s1
      | none => s1
    else s)

end Sys2Proof.Machine
end

