-- ==== Sys2Proof/Machine/ExecStore.lean ====
section
/-! DEFINITION. The meanings of the Configuration Store's own commands (spec/08). -/

namespace Sys2Proof.Machine

/-- COMMIT_END (R156, R157): `verified` is what the verify of the programmed copy found. -/
def execCommitEnd (verified : Bool) (s : State) : Answer :=
  .next (match s.cs.commit, s.cs.buffer with
    | some c, some b =>
      let s1 := advanceTo c.endTime s
      if verified then commitVerified c b s1 else commitFailed c s1
    | _, _ => s)

/-- EDIT_TIMER_EXPIRY (R152): the session closes with an EDIT_EXPIRED notice. -/
def execEditTimerExpiry (s : State) : Answer :=
  .next (match s.cs.editTimer, s.cs.buffer with
    | some t, some b =>
      if s.cs.session = .opened then
        postNotice .info (.editExpired b.obj b.isNew b.removal) (closeSession (advanceTo t s))
      else s
    | _, _ => s)

end Sys2Proof.Machine
end

