-- ==== Sys2Proof/Machine/Dispatch.lean ====
section
/-! DEFINITION. One arm per command: the meaning it calls, on everything but the queue of commands. -/

namespace Sys2Proof.Machine

def exec (i : Instr) (s : State) : Host.Outcome State Fault Refusal :=
  match i with
  | .powerOnReset => Sys2Proof.Machine.execPowerOnReset s
  | .pinReset => Sys2Proof.Machine.execPinReset s
  | .resetRelease straps => Sys2Proof.Machine.execResetRelease straps s
  | .startUpScanEnd disturbed => Sys2Proof.Machine.execStartUpScanEnd disturbed s
  | .cycleStart => Sys2Proof.Machine.execCycleStart s
  | .cycleCompletion die remote vmon => Sys2Proof.Machine.execCycleCompletion die remote vmon s
  | .endOfStart => Sys2Proof.Machine.execEndOfStart s
  | .withheldNoticesAppend => Sys2Proof.Machine.execWithheldNoticesAppend s
  | .damagedObjectNotices => Sys2Proof.Machine.execDamagedObjectNotices s
  | .slotSetUp derate => Sys2Proof.Machine.execSlotSetUp derate s
  | .withheldOverrunNotice => Sys2Proof.Machine.execWithheldOverrunNotice s
  | .cycleCompleteAtCe derate => Sys2Proof.Machine.execCycleCompleteAtCe derate s
  | .supplyChangeAtCe => Sys2Proof.Machine.execSupplyChangeAtCe s
  | .supplyChangeAtBm => Sys2Proof.Machine.execSupplyChangeAtBm s
  | .supplyRecoveryChecks => Sys2Proof.Machine.execSupplyRecoveryChecks s
  | .slotInvalidation slot => Sys2Proof.Machine.execSlotInvalidation slot s
  | .profileActivation derate => Sys2Proof.Machine.execProfileActivation derate s
  | .recordActivation derate => Sys2Proof.Machine.execRecordActivation derate s
  | .recordRemoval => Sys2Proof.Machine.execRecordRemoval s
  | .imageActivation derate => Sys2Proof.Machine.execImageActivation derate s
  | .compensationFailureReport => Sys2Proof.Machine.execCompensationFailureReport s
  | .queueDeparture derate => Sys2Proof.Machine.execQueueDeparture derate s
  | .checkTimerExpiry slot => Sys2Proof.Machine.execCheckTimerExpiry slot s
  | .faultHoldTimerExpiry slot derate => Sys2Proof.Machine.execFaultHoldTimerExpiry slot derate s
  | .transactionEnd response derate => Sys2Proof.Machine.execTransactionEnd response derate s
  | .recoverySequenceEnd run derate => Sys2Proof.Machine.execRecoverySequenceEnd run derate s
  | .recoveryTimerExpiry => Sys2Proof.Machine.execRecoveryTimerExpiry s
  | .quietTimeEnd slot => Sys2Proof.Machine.execQuietTimeEnd slot s
  | .commitEnd verified => Sys2Proof.Machine.execCommitEnd verified s
  | .editTimerExpiry => Sys2Proof.Machine.execEditTimerExpiry s
  | .requestFrameReceived c => Sys2Proof.Machine.execRequestFrameReceived c s
  | .ackReceived c => Sys2Proof.Machine.execAckReceived c s
  | .invalidFrame c framingError => Sys2Proof.Machine.execInvalidFrame c framingError s
  | .gapTimerExpiry => Sys2Proof.Machine.execGapTimerExpiry s
  | .unknownRequest => Sys2Proof.Machine.execUnknownRequest s
  | .identify => Sys2Proof.Machine.execIdentify s
  | .getStatus derate => Sys2Proof.Machine.execGetStatus derate s
  | .getMeasurements => Sys2Proof.Machine.execGetMeasurements s
  | .getTarget => Sys2Proof.Machine.execGetTarget s
  | .getProfile => Sys2Proof.Machine.execGetProfile s
  | .getShadow => Sys2Proof.Machine.execGetShadow s
  | .getImage => Sys2Proof.Machine.execGetImage s
  | .getSettings => Sys2Proof.Machine.execGetSettings s
  | .setMode => Sys2Proof.Machine.execSetMode s
  | .setTrim => Sys2Proof.Machine.execSetTrim s
  | .setDerate derate => Sys2Proof.Machine.execSetDerate derate s
  | .passNow derate => Sys2Proof.Machine.execPassNow derate s
  | .targetAdmin derate => Sys2Proof.Machine.execTargetAdmin derate s
  | .restart => Sys2Proof.Machine.execRestart s
  | .manualRead => Sys2Proof.Machine.execManualRead s
  | .manualWrite => Sys2Proof.Machine.execManualWrite s
  | .editOpen => Sys2Proof.Machine.execEditOpen s
  | .editField => Sys2Proof.Machine.execEditField s
  | .editPoints => Sys2Proof.Machine.execEditPoints s
  | .editEntries => Sys2Proof.Machine.execEditEntries s
  | .editCount => Sys2Proof.Machine.execEditCount s
  | .editRemove => Sys2Proof.Machine.execEditRemove s
  | .editShow => Sys2Proof.Machine.execEditShow s
  | .editCommit => Sys2Proof.Machine.execEditCommit s
  | .editAbandon => Sys2Proof.Machine.execEditAbandon s
  | .frameSent straps => Sys2Proof.Machine.execFrameSent straps s
  | .noticeAppend => Sys2Proof.Machine.execNoticeAppend s
  | .retransmitTimerExpiry => Sys2Proof.Machine.execRetransmitTimerExpiry s
  | .characterReceived c framingError => Sys2Proof.Machine.execCharacterReceived c framingError s
  | .owedStop => Sys2Proof.Machine.execOwedStop s

end Sys2Proof.Machine
end

