-- ==== Sys2Proof/Machine/Step.lean ====
section
/-! DEFINITION. One step of the block: the command at the front of the queue is taken; with no command
waiting, a millisecond passes (log 2). -/

namespace Sys2Proof.Machine

/-- The block idles: its clock counts one millisecond and nothing else changes (log 2). -/
def idle (s : State) : State := { s with now := s.now + 1 }

/-- One step: the command in front runs on the state with the rest of the queue. -/
def step (s : State) : Host.Outcome State Fault Refusal :=
  match s.pending with
  | [] => .next (idle s)
  | c :: rest => exec c { s with pending := rest }

/-- The state with the command a word spells put in front of the queue; unchanged where the word spells
none, as every word does (Decode.lean). -/
def State.withFetchWord (s : State) (nbits w : Nat) : State :=
  match Sys2Proof.decodeTableWord nbits w with
  | some c => { s with pending := c :: s.pending }
  | none => s

end Sys2Proof.Machine
end

