-- ==== Sys2Proof/Safety.lean ====
section
/-! DEFINITION. What a safe state of the block is and what a command's answer shows, in the terms
statements use: the capacities of the queues, the lines, the reply a request gets, the state it keeps. -/

namespace Sys2Proof.Machine

/-! ### Answers -/

/-- A command answers a next state that satisfies a predicate. -/
def Gives (c : Instr) (s : State) (p : State → Prop) : Prop := ∃ t, exec c s = .next t ∧ p t

/-- The oldest request of the intake is dispatched as a new request (R176, R177): there is room for its
reply, no restart is pending, the part is not held in reset, no pending entry has its TAG and the reply
cache holds no reply to a repeat of it. `settled`: no ended operation waits for room, as R180 has it
whenever the reply queue has room. -/
structure Asked (s : State) (f : Frame) (rest : List Frame) : Prop where
  front : s.hl.intake = f :: rest
  room : s.hl.replies.length < 4
  running : s.oc.held = false
  noRestart : s.oc.restart = none
  tagFree : ∀ e ∈ s.hl.pend, e.tag ≠ f.tag
  settled : ∀ e ∈ s.hl.pend, e.ended = none
  notRepeat : ∀ e ∈ s.hl.cache, e.tag = f.tag → ¬ (e.code = f.code ∧ e.digest = digestOf f.payload)

/-- A reply stands in the reply queue or is the frame at the transmitter. -/
def ReplyGiven (tag : Byte) (payload : List Byte) (restart : Bool) (t : State) : Prop :=
  ⟨tag, payload, restart⟩ ∈ t.hl.replies ∨ t.hl.tx = some ⟨frameBytes kindReply tag payload, restart⟩

/-- A request left the intake and its reply was appended and cached (R176, R180, R181). -/
def Answered (f : Frame) (payload : List Byte) (rest : List Frame) (t : State) : Prop :=
  t.hl.intake = rest ∧ ReplyGiven f.tag payload false t
    ∧ ⟨f.tag, f.code, digestOf f.payload, payload⟩ ∈ t.hl.cache

/-- Nothing changed but what answering a request changes: intake, HRDY, reply queue, reply cache,
transmitter and fairness count, and at an idle transmitter the notice it was handed. -/
structure SameButLink (s t : State) : Prop where
  pending : t.pending = s.pending
  now : t.now = s.now
  freeDraws : t.freeDraws = s.freeDraws
  mu : t.mu = s.mu
  ce : t.ce = s.ce
  ctxs : t.ctxs = s.ctxs
  bm : t.bm = s.bm
  cs : t.cs = s.cs
  oc : t.oc = s.oc
  msgs : t.msgs = s.msgs
  derate : t.pins.derate = s.pins.derate
  pend : t.hl.pend = s.hl.pend
  ended : t.hl.endedCount = s.hl.endedCount
  rx : t.hl.rx = s.hl.rx ∧ t.hl.gap = s.hl.gap
  overruns : t.hl.overruns = s.hl.overruns ∧ t.hl.startOverrun = s.hl.startOverrun
  notices : s.hl.tx.isSome = true → t.nu = s.nu ∧ t.pins.alertN = s.pins.alertN

/-- A request command answers its request with a payload and changes nothing else. -/
def OnlyAnswers (c : Instr) (s : State) (f : Frame) (rest : List Frame) (payload : List Byte) : Prop :=
  Gives c s (fun t => Answered f payload rest t ∧ SameButLink s t)

/-- A request command answers its request with a payload and moves the part to a given state. -/
def AnswersWith (c : Instr) (s : State) (f : Frame) (rest : List Frame) (payload : List Byte) (after : State) : Prop :=
  Gives c s (fun t => Answered f payload rest t ∧ SameButLink after t)

/-- The request code a command dispatches, for the commands of the request catalogue (R178, R183; 12 REQUESTS). -/
def requestCode : Instr → Option Byte
  | .identify => some 0x01
  | .getStatus _ => some 0x02
  | .getMeasurements => some 0x03
  | .getTarget => some 0x04
  | .getProfile => some 0x05
  | .getShadow => some 0x06
  | .getImage => some 0x07
  | .getSettings => some 0x08
  | .setMode => some 0x10
  | .setTrim => some 0x11
  | .setDerate _ => some 0x12
  | .passNow _ => some 0x13
  | .targetAdmin _ => some 0x14
  | .restart => some 0x15
  | .manualRead => some 0x20
  | .manualWrite => some 0x21
  | .editOpen => some 0x30
  | .editField => some 0x31
  | .editPoints => some 0x32
  | .editEntries => some 0x33
  | .editCount => some 0x34
  | .editRemove => some 0x35
  | .editShow => some 0x36
  | .editCommit => some 0x37
  | .editAbandon => some 0x38
  | _ => none

/-- The requests without arguments. -/
def withoutArguments : List Byte := [0x01, 0x02, 0x03, 0x08, 0x13, 0x15, 0x35, 0x36, 0x37, 0x38]

/-! ### Orders -/

/-- The place of an object in ascending object order: SETTINGS, TARGET, IMAGE, PROFILE (R145). -/
def objPlace : ObjId → Nat
  | .settings => 0
  | .target i => 1 + i.val
  | .image i => 9 + i.val
  | .profile i => 17 + i.val

/-- A curve of points with strictly rising temperatures (R154 POINT_ORDER). -/
def Rising (ps : List Point) : Prop := ps.Pairwise (fun a b => a.temp < b.temp)

/-- The place of a class in the arbiter's order, MANUAL first, COMPENSATE last (R109). -/
def Class.place : Class → Nat
  | .manual => 0
  | .check => 1
  | .restore => 2
  | .compensate => 3

/-! ### Reset -/

/-- Every block's volatile state is at its reset values (R161, with R2, R39, R60, R126, R146, R173 to
R182 and R193). -/
structure VolatileLost (t : State) : Prop where
  mu : t.mu = Mu.reset
  ce : t.ce = Ce.reset
  ctxs : ∀ i : Slot, t.ctxs[i] = Ctx.reset
  bm : t.bm = Bm.reset
  hl : t.hl = Hl.reset
  nu : t.nu = Nu.reset
  msgs : t.msgs = Msgs.reset
  alertN : t.pins.alertN = true
  session : t.cs.session = .closed ∧ t.cs.buffer = none ∧ t.cs.editTimer = none ∧ t.cs.commit = none

/-! ### The store -/

/-- A copy with its content under a common type. -/
def Copy.mapContent {α : Type} (f : α → Content) : Copy α → Copy Content
  | .empty => .empty
  | .valid g c => .valid g (f c)
  | .removed g => .removed g
  | .damaged => .damaged

/-- One of two copies. -/
def Copies.pick {α : Type} (c : Copies α) : CopyName → Copy α
  | .a => c.a
  | .b => c.b

/-- The copy of an object as the store holds it (R139). -/
def Store.copyAt (st : Store) (obj : ObjId) (n : CopyName) : Copy Content :=
  match obj with
  | .settings => (st.settings.pick n).mapContent .settings
  | .target i => (st.targets[i].pick n).mapContent .target
  | .image i => (st.images[i].pick n).mapContent .image
  | .profile i => (st.profiles[i].pick n).mapContent .profile

/-- A copy is valid: VALID or REMOVED (R140). -/
def Copy.isValid {α : Type} (c : Copy α) : Bool := c.info.gen.isSome

/-- The buffer's content is of its object's kind (R147). -/
def EditBuffer.fits (b : EditBuffer) : Bool :=
  match b.obj, b.content with
  | .settings, .settings _ => true
  | .target _, .target _ => true
  | .image _, .image _ _ => true
  | .profile _, .profile _ _ _ => true
  | _, _ => false

/-- What EDIT_OPEN loads (R147): the active content with the new mark clear, the points or entries below the
count in a full row of positions, or the kind's defaults with the new mark set. -/
def OpenedFrom (s : State) (obj : ObjId) (b : EditBuffer) : Prop :=
  match obj with
  | .settings =>
    (∀ x, activeContent s.cs.dir.settings s.cs.store.settings = some x → b = ⟨obj, false, false, .settings x⟩)
    ∧ (activeContent s.cs.dir.settings s.cs.store.settings = none → b = ⟨obj, true, false, .settings factorySettings⟩)
  | .target i =>
    (∀ r, activeRecord s i = some r → b = ⟨obj, false, false, .target r⟩)
    ∧ (activeRecord s i = none → b = ⟨obj, true, false, .target defaultRecord⟩)
  | .image i =>
    (∀ es, activeImage s i = some es → es.length ≤ 32 → ∃ ps, b = ⟨obj, false, false, .image es.length ps⟩
      ∧ ps.length = 32 ∧ ps.take es.length = es)
    ∧ (activeImage s i = none → b = ⟨obj, true, false, .image 0 (List.replicate 32 ⟨0, .byte, 0, 0⟩)⟩)
  | .profile i =>
    (∀ p, activeProfile s i = some p → p.points.length ≤ 24 → ∃ ps, b = ⟨obj, false, false, .profile p.header p.points.length ps⟩
      ∧ ps.length = 24 ∧ ps.take p.points.length = p.points)
    ∧ (activeProfile s i = none → b = ⟨obj, true, false, .profile defaultHeader 0 (List.replicate 24 ⟨0, 0⟩)⟩)

/-- The generation EDIT_OPEN's reply carries: that of the active copy, or none (R147, R194). -/
def GenerationShown (e : DirEntry) (bytes : List Byte) : Prop :=
  (e.active = none → bytes = [0, 0, 0])
    ∧ ∀ n g, e.active = some n → (e.info n).gen = some g → bytes = 1 :: be16 g.toNat

/-- The store law (R143, R146, R155, R158): a commit is in progress exactly in COMMITTING, it programs the
buffer's object in a copy that is not active, the buffer is of its object's kind, every active copy is valid,
and while the scan runs the part is in START without scan result and without session. -/
structure StoreLaw (s : State) : Prop where
  commitAside : ∀ c, s.cs.commit = some c →
    s.cs.session = .committing ∧ (s.cs.dir.entry c.obj).active ≠ some c.copy
      ∧ ∃ b, s.cs.buffer = some b ∧ b.obj = c.obj
  committing : s.cs.session = .committing → s.cs.commit.isSome = true
  fits : ∀ b, s.cs.buffer = some b → b.fits = true
  scanFirst : s.cs.scanning = true →
    s.oc.part = .start ∧ s.oc.scanResult = none ∧ s.cs.session = .closed ∧ s.cs.commit = none
  activeValid : ∀ obj n, (s.cs.dir.entry obj).active = some n → (s.cs.store.copyAt obj n).isValid = true

/-! ### Capacities and lines -/

/-- The transfer queue holds at most 32 transfers, at most 24 of class COMPENSATE (R104). -/
def QueueBounded (s : State) : Prop :=
  s.bm.queue.length ≤ Config.queuePlaces ∧ countClass .compensate s.bm.queue ≤ Config.compensatePlaces

/-- Transfers have handles of their own, and at most one is ON_BUS (R104). -/
def OneOnBus (s : State) : Prop :=
  s.bm.queue.Pairwise (fun a b => a.id ≠ b.id) ∧ (∀ t ∈ s.bm.queue, t.id < s.bm.nextId)
    ∧ (s.bm.queue.filter (fun t => t.onBus)).length ≤ 1

/-- The notice queue holds at most 16 entries (R186). -/
def NoticesBounded (s : State) : Prop := s.nu.queue.length ≤ Config.noticePlaces

/-- ALERT_N is low exactly while an entry of severity FAULT is queued (R192). -/
def AlertShown (s : State) : Prop := s.pins.alertN = alertLevel s.nu.queue

/-- The transmitted entries form a prefix of the notice queue, at most 4 (R188). -/
def WindowKept (s : State) : Prop :=
  outstandingCount s.nu.queue ≤ Config.noticeWindow
    ∧ ∃ sent waiting, s.nu.queue = sent ++ waiting ∧ (∀ e ∈ sent, e.transmitted = true) ∧ (∀ e ∈ waiting, e.transmitted = false)

/-- The tables of the Host Link keep their capacities (R175, R179, R180, R181). -/
def LinkBounded (s : State) : Prop :=
  s.hl.intake.length ≤ Config.intakePlaces ∧ s.hl.pend.length ≤ Config.pendingPlaces
    ∧ s.hl.replies.length ≤ Config.replyPlaces ∧ s.hl.cache.length ≤ Config.cachePlaces

/-- An ended operation waits in its entry only while the reply queue has no room (R180). -/
def EndedWaitForRoom (s : State) : Prop :=
  (∃ e ∈ s.hl.pend, e.ended.isSome = true) → Config.replyPlaces ≤ s.hl.replies.length

/-- The pending entries have pairwise different TAGs (R179). -/
def TagsDiffer (s : State) : Prop := s.hl.pend.Pairwise (fun a b => a.tag ≠ b.tag)

/-- The cache holds at most one reply for a TAG, and none for the TAG of a pending request (R181). -/
def CacheTagsDiffer (s : State) : Prop :=
  s.hl.cache.Pairwise (fun a b => a.tag ≠ b.tag) ∧ ∀ c ∈ s.hl.cache, ∀ e ∈ s.hl.pend, c.tag ≠ e.tag

/-- HRDY is high exactly while the part is not held in reset and the intake has room (R161, R175). -/
def ReadyShown (s : State) : Prop := s.pins.hrdy = (!s.oc.held && hrdyLevel s.hl.intake)

/-! ### A pass -/

/-- A pass serves a profile: it is active, enabled and names a slot that is IN_SERVICE and has a record
(R17, R42; log 13). -/
def ServedBy (s : State) (slot : Slot) (id : ProfileId) : Bool :=
  s.ctxs[slot].state == .inService && (recordInUse s slot).isSome && (match activeProfile s id with
    | some p => p.header.enabled && p.header.slot == slot.val
    | none => false)

/-- The profiles a pass serves. -/
def servedIds (s : State) : List ProfileId :=
  (List.finRange 64).filter (fun id => (List.finRange 8).any (fun slot => ServedBy s slot id))

/-- The derate level a pass reads: the larger of the host level and the pin level (R27, R42). -/
def passLevel (s : State) : Nat := max s.ce.hostDerate (if s.pins.derate then (activeSettings s).deratePin else 0)

/-- What a pass that reads the index `ti` asks of a profile: its output at the profile's own trim, at the level
of the pass and against the reference value of its shadow (R20, R42, R43). -/
def passOutput (s : State) (ti : Int) (id : ProfileId) (p : Profile) : Evaluation :=
  evaluate p ti s.ce.trims[id] (passLevel s) s.ce.shadows[id].reference

/-- A profile needs a write: its output is not its reference value (R43). -/
def needsWrite (s : State) (ti : Int) (id : ProfileId) : Bool :=
  match activeProfile s id with
  | some p => s.ce.shadows[id].reference != some (passOutput s ti id p).output
  | none => false

/-- A pass from `s` to `t` issued a write for the profile: it replaced the waiting one, or the reference value
is new (R44, R45). -/
def issuedWrite (s t : State) (ti : Int) (id : ProfileId) : Bool :=
  needsWrite s ti id && (s.ce.shadows[id].waiting.isSome || t.ce.shadows[id].reference != s.ce.shadows[id].reference)

/-- A served slot whose record has a latch is due one after a pass: the pass issued a write for the slot, or the
latch-deferred flag stood (R46). -/
def latchDue (s t : State) (ti : Int) (slot : Slot) : Bool :=
  s.ctxs[slot].state == .inService && ((recordInUse s slot).bind TargetRecord.latch).isSome
    && (s.ce.latches[slot].deferred || (List.finRange 64).any (fun id => ServedBy s slot id && issuedWrite s t ti id))

/-! ### Entries and steps of a slot -/

/-- The slot's sequence step stands in the queue as one transfer of the form R82 gives, and the context awaits
it. -/
def Placed (t : State) (slot : Slot) (o : Origin) (d : Dir) (addr reg : Byte) (data : List Byte) (readLen delay : Nat) : Prop :=
  ∃ x ∈ t.bm.queue, t.ctxs[slot].awaited = some x.id ∧ x.origin = o ∧ x.slot = some slot ∧ x.dir = d ∧ x.addr = addr
    ∧ x.reg = reg ∧ x.data = data ∧ x.readLen = readLen ∧ x.delay = delay ∧ x.attempts = 0 ∧ x.stale = false

/-- The slot has begun a probe for a reason (R86): with an identity check it is in PROBING for that reason with
the cursor at IDENTITY, and its identity read is placed, or waits for the stale hold or with the room mark for
room; without one it has gone on to LOADING, or with no load step to IN_SERVICE. -/
def Probed (slot : Slot) (r : TargetRecord) (reason : Reason) (t : State) : Prop :=
  (∀ c, r.identity = some c → t.ctxs[slot].state = .probing ∧ t.ctxs[slot].reason = reason ∧ t.ctxs[slot].cursor = .identity
      ∧ t.ctxs[slot].checkTimer = none ∧ t.ctxs[slot].faultTimer = none ∧ t.ctxs[slot].probe = some c
      ∧ (Placed t slot .identity .read r.addr c.reg [] 1 0
          ∨ (t.ctxs[slot].awaited = none ∧ (t.ctxs[slot].staleHold.isSome = true ∨ t.ctxs[slot].roomMark = true))))
    ∧ (r.identity = none → (t.ctxs[slot].state = .loading ∧ t.ctxs[slot].reason = .probed)
        ∨ (t.ctxs[slot].state = .inService ∧ t.ctxs[slot].reason = .loaded))

/-! ### How a load goes on

`s` is the state before the command, `u` the one after it, `r` the slot's record, `c` the count of the load's
steps. -/

/-- The load is complete (R92, R93). -/
def LoadCompleted (s u : State) (slot : Slot) (r : TargetRecord) : Prop :=
  u.ctxs[slot].state = .inService ∧ u.ctxs[slot].reason = .loaded ∧ u.ctxs[slot].detail = .absent ∧ u.ctxs[slot].cursor = .identity
    ∧ u.ctxs[slot].roomMark = false ∧ u.ctxs[slot].awaited = none ∧ u.ctxs[slot].recovery = 0
    ∧ u.ctxs[slot].loads = min 65535 (s.ctxs[slot].loads + 1)
    ∧ u.ctxs[slot].checkTimer =
        (if r.checkPeriod ≠ 0 ∧ (r.marker.isSome = true ∨ r.status.isSome = true) then some (s.now + r.checkPeriod * 100) else none)
    ∧ ∃ front before, u.msgs.notices = s.msgs.notices ++ (front ++ [⟨.info, .target slot before .inService .loaded .absent r.addr 0
        (min 65535 (s.ctxs[slot].loads + 1)) s.ctxs[slot].losses s.ctxs[slot].faults⟩])

/-- The load is in progress with its cursor at a step. -/
def LoadAt (s u : State) (slot : Slot) (step : LoadStep) : Prop :=
  u.ctxs[slot].state = .loading ∧ u.ctxs[slot].cursor = step ∧ u.ctxs[slot].roomMark = false
    ∧ u.ctxs[slot].loads = s.ctxs[slot].loads

/-- The load goes on from MARKER: the marker write of a counted marker, else its end (R88, R91). -/
def LoadFromMarker (s u : State) (slot : Slot) (r : TargetRecord) (c : Ctx) : Prop :=
  (∀ m, c.markerStep = true → r.marker = some m →
    LoadAt s u slot .marker ∧ Placed u slot .loadMarker .write r.addr m.reg [m.value] 0 0)
  ∧ (c.markerStep = false → LoadCompleted s u slot r)

/-- The load goes on from LATCH (R88, R91). -/
def LoadFromLatch (s u : State) (slot : Slot) (r : TargetRecord) (c : Ctx) : Prop :=
  (∀ l, c.latchStep = true → r.latch = some l →
    LoadAt s u slot .latch ∧ Placed u slot .loadLatch .write r.addr l.reg [l.value] 0 0)
  ∧ (c.latchStep = false → LoadFromMarker s u slot r c)

/-- The load goes on from PROFILE index k: the first listed profile still active, enabled and naming the slot is
evaluated at the present inputs and written, the ones before it are skipped (R90, R52). -/
def LoadFromProfile (s u : State) (slot : Slot) (r : TargetRecord) (c : Ctx) (k : Nat) : Prop :=
  let serves (id : ProfileId) : Prop := ∃ p, activeProfile s id = some p ∧ p.header.enabled = true ∧ p.header.slot = slot.val
  (∀ before id after p ti, c.profileList.drop k = before ++ id :: after → (∀ b ∈ before, ¬ serves b) → serves id →
    activeProfile s id = some p → s.mu.ti = some ti →
    LoadAt s u slot (.profile (k + before.length))
    ∧ Placed u slot (.loadProfile id) .write r.addr p.header.param
        (parameterBytes p.header.width p.header.order (passOutput s ti id p).output) 0 0
    ∧ u.ce.shadows[id].reference = some (passOutput s ti id p).output
    ∧ u.ce.shadows[id].computed = some (passOutput s ti id p).computed
    ∧ u.ce.shadows[id].clamped = (passOutput s ti id p).stages.flag)
  ∧ ((∀ b ∈ c.profileList.drop k, ¬ serves b) → LoadFromLatch s u slot r c)

/-- The load goes on from IMAGE index k (R88, R89). -/
def LoadFromImage (s u : State) (slot : Slot) (r : TargetRecord) (c : Ctx) (k : Nat) : Prop :=
  (∀ e, k < c.imageCount → (activeImage s slot).bind (fun es => es[k]?) = some e →
    LoadAt s u slot (.image k)
    ∧ Placed u slot (.image k) .write r.addr e.reg (match e.width with
        | .byte => [byteOf e.value]
        | .word => be16 e.value) 0 e.delay)
  ∧ (c.imageCount ≤ k → LoadFromProfile s u slot r c 0)

/-- The step a slot waits for room with stands in the record `r`, the active image or the profile list (R82, R83). -/
def StepStands (s : State) (slot : Slot) (r : TargetRecord) : Prop :=
  let c := s.ctxs[slot]
  (c.state = .probing ∧ r.identity.isSome = true)
  ∨ (c.state = .loading ∧ ((∃ k e, c.cursor = .image k ∧ (activeImage s slot).bind (fun es => es[k]?) = some e)
      ∨ (∃ k id, c.cursor = .profile k ∧ c.profileList[k]? = some id ∧ profileServes s slot id = true)
      ∨ (c.cursor = .latch ∧ r.latch.isSome = true) ∨ (c.cursor = .marker ∧ r.marker.isSome = true)))
  ∨ (c.state = .inService ∧ ((c.checkStep = .marker ∧ r.marker.isSome = true) ∨ (c.checkStep = .status ∧ r.status.isSome = true)))

/-- The step a slot waited with is placed (R83): the identity read, the load's step at its cursor, which a PROFILE step
is evaluated for now (R52), or the read of the check in progress. -/
def StepResumed (s u : State) (slot : Slot) (r : TargetRecord) : Prop :=
  let c := s.ctxs[slot]
  (∀ k, c.state = .probing → r.identity = some k →
    u.ctxs[slot].state = .probing ∧ u.ctxs[slot].roomMark = false ∧ Placed u slot .identity .read r.addr k.reg [] 1 0)
  ∧ (∀ k e, c.state = .loading → c.cursor = .image k → (activeImage s slot).bind (fun es => es[k]?) = some e →
    LoadAt s u slot (.image k)
    ∧ Placed u slot (.image k) .write r.addr e.reg (match e.width with
        | .byte => [byteOf e.value]
        | .word => be16 e.value) 0 e.delay)
  ∧ (∀ k id p ti, c.state = .loading → c.cursor = .profile k → c.profileList[k]? = some id → profileServes s slot id = true →
    activeProfile s id = some p → s.mu.ti = some ti → s.msgs.ceInvalidate[slot] = false →
    LoadAt s u slot (.profile k)
    ∧ Placed u slot (.loadProfile id) .write r.addr p.header.param
        (parameterBytes p.header.width p.header.order (passOutput s ti id p).output) 0 0
    ∧ u.ce.shadows[id].reference = some (passOutput s ti id p).output)
  ∧ (∀ l, c.state = .loading → c.cursor = .latch → r.latch = some l →
    LoadAt s u slot .latch ∧ Placed u slot .loadLatch .write r.addr l.reg [l.value] 0 0)
  ∧ (∀ m, c.state = .loading → c.cursor = .marker → r.marker = some m →
    LoadAt s u slot .marker ∧ Placed u slot .loadMarker .write r.addr m.reg [m.value] 0 0)
  ∧ (∀ m, c.state = .inService → c.checkStep = .marker → r.marker = some m →
    u.ctxs[slot].state = .inService ∧ Placed u slot .checkMarker .read r.addr m.reg [] 1 0)
  ∧ (∀ k, c.state = .inService → c.checkStep = .status → r.status = some k →
    u.ctxs[slot].state = .inService ∧ Placed u slot .checkStatus .read r.addr k.reg [] 1 0)

/-- The steps of a load counted from the active image, profiles and record (R88): the list holds each profile
that is active, enabled and names the slot once, in (rank, id) order. -/
structure LoadCounted (s : State) (slot : Slot) (r : TargetRecord) (c : Ctx) : Prop where
  images : c.imageCount = ((activeImage s slot).getD []).length
  listed : ∀ id, id ∈ c.profileList ↔ ∃ p, activeProfile s id = some p ∧ p.header.enabled = true ∧ p.header.slot = slot.val
  ordered : c.profileList.Pairwise (fun i j => ∀ p q, activeProfile s i = some p → activeProfile s j = some q →
    p.header.rank < q.header.rank ∨ (p.header.rank = q.header.rank ∧ i < j))
  latch : c.latchStep = r.latch.isSome
  marker : c.markerStep = r.marker.isSome

/-! ### The laws of slots, latches and writes -/

/-- The slot is in the state in which a transfer of an origin is made, and awaits it where it is a sequence step
(R63, R82, R88, R94). -/
def MadeIn (c : Ctx) (x : Transfer) : Prop :=
  match x.origin with
  | .identity => c.state = .probing ∧ c.awaited = some x.id
  | .image _ => c.state = .loading ∧ c.awaited = some x.id
  | .loadProfile _ => c.state = .loading ∧ c.awaited = some x.id
  | .loadLatch => c.state = .loading ∧ c.awaited = some x.id
  | .loadMarker => c.state = .loading ∧ c.awaited = some x.id
  | .checkMarker => c.state = .inService ∧ c.checkStep = .marker ∧ c.awaited = some x.id
  | .checkStatus => c.state = .inService ∧ c.checkStep = .status ∧ c.awaited = some x.id
  | .profile _ => c.state = .inService
  | .latch => c.state = .inService
  | .request _ => True

/-- The law of slots (R63, R66, R69, R85, R93, R99): an automatic transfer that is not stale belongs to a slot in the
state that makes it; a stale one is on the bus, and a stale load write is not awaited; while a stale hold stands no
step is awaited; the check timer runs in IN_SERVICE between checks alone, the fault-hold timer exactly in FAULT_HOLD;
a check is in progress in IN_SERVICE alone; a step is awaited, and the room mark set, only in a state that has
steps. -/
structure SlotLaw (s : State) : Prop where
  made : ∀ x ∈ s.bm.queue, x.automatic = true → x.stale = false → ∃ slot : Slot, x.slot = some slot ∧ MadeIn s.ctxs[slot] x
  staleOnBus : ∀ x ∈ s.bm.queue, x.stale = true → x.onBus = true
  withdrawn : ∀ x ∈ s.bm.queue, x.stale = true → ∀ (id : ProfileId) (slot : Slot), x.origin = .loadProfile id →
    x.slot = some slot → s.ctxs[slot].awaited ≠ some x.id
  hold : ∀ slot : Slot, s.ctxs[slot].staleHold.isSome = true → s.ctxs[slot].awaited = none
  checkTimer : ∀ slot : Slot, s.ctxs[slot].checkTimer.isSome = true → s.ctxs[slot].state = .inService ∧ s.ctxs[slot].checkStep = .idle
  faultTimer : ∀ slot : Slot, s.ctxs[slot].faultTimer.isSome = true ↔ s.ctxs[slot].state = .faultHold
  checking : ∀ slot : Slot, s.ctxs[slot].checkStep ≠ .idle → s.ctxs[slot].state = .inService
  awaiting : ∀ slot : Slot, s.ctxs[slot].awaited.isSome = true →
    s.ctxs[slot].state = .probing ∨ s.ctxs[slot].state = .loading ∨ s.ctxs[slot].checkStep ≠ .idle
  roomMark : ∀ slot : Slot, s.ctxs[slot].roomMark = true → s.ctxs[slot].state = .probing ∨ s.ctxs[slot].state = .loading

/-- The law of latches (R46, R48, R51): a COMPENSATE latch in the queue that is not stale is the one its slot's
waiting reference names while it waits and its on-bus reference while it is on the bus; so a slot has at most
one waiting latch. No invalidation of that slot is outstanding. -/
def LatchLaw (s : State) : Prop :=
  ∀ x ∈ s.bm.queue, x.origin = .latch → x.stale = false → ∃ slot : Slot, x.slot = some slot
    ∧ s.msgs.ceInvalidate[slot] = false
    ∧ (x.onBus = false → s.ce.latches[slot].waiting = some x.id)
    ∧ (x.onBus = true → s.ce.latches[slot].onBus = some x.id)

/-- The law of writes (R44, R52, R105): a write of a profile in the queue that is not stale, made by a pass or a
load step, is the one its shadow's waiting reference names while it waits and its on-bus reference while it is on
the bus; so a profile has at most one waiting write. It is a write for the slot the active profile names, with no
invalidation of that slot outstanding. -/
def WriteLaw (s : State) : Prop :=
  ∀ x ∈ s.bm.queue, ∀ id, x.origin.profileOf = some id → x.stale = false → ∃ (slot : Slot) (p : Profile),
    x.slot = some slot ∧ s.msgs.ceInvalidate[slot] = false ∧ activeProfile s id = some p ∧ p.header.slot = slot.val
    ∧ (x.onBus = false → ∃ v, s.ce.shadows[id].waiting = some ⟨x.id, v⟩)
    ∧ (x.onBus = true → ∃ v, s.ce.shadows[id].onBus = some ⟨x.id, v⟩)

/-! ### Other slots -/

/-- No waiting automatic transfer of the slot is queued, and one on the bus is stale (R66). -/
def SlotQuiet (slot : Slot) (t : State) : Prop :=
  ∀ x ∈ t.bm.queue, x.automatic = true → x.slot = some slot → x.onBus = true ∧ x.stale = true

/-- The contexts of all other slots are as before. -/
def OtherSlotsKept (slot : Slot) (s t : State) : Prop := ∀ i : Slot, i ≠ slot → t.ctxs[i] = s.ctxs[i]

/-! ### Reception -/

/-- Characters received one by one on HRX, each by CHARACTER_RECEIVED. -/
def receive : List Byte → State → State
  | [], s => s
  | c :: cs, s => match exec (.characterReceived c false) s with
    | .next t => receive cs t
    | _ => s

end Sys2Proof.Machine
end

