-- ==== Sys2Proof/Certificates/Slice0/Obligations.lean ====
section
/-! DEFINITION. The statements for the provers, file by file of spec/. Each docstring says which rule or
which log entry a statement rests on. -/

section
open Sys2Proof Sys2Proof.Machine

/-! ### The queue of commands -/

/-- A step runs the command at the front of the queue with the queue's rest; with no command waiting it
counts one millisecond and changes nothing else, the model's choice (log 2). -/
def Obligations.StepRunsFrontCommand : Prop :=
  (∀ (c : Instr) (rest : List Instr) (s : State),
    step { s with pending := c :: rest } = exec c { s with pending := rest })
  ∧ ∀ s : State, s.pending = [] → step s = .next { s with now := s.now + 1 }

/-! ### Reset -/

/-- POWER_ON_RESET and PIN_RESET: all volatile state is lost, HRDY is low, ALERT_N released, and the part
is held in reset with its cause; a reset that began at power-up keeps POWER (log 25). RESET_RELEASE of a held
part, and FRAME_SENT at the end of the RESTART reply: the part is in START with its cause and the straps
sampled, the scan runs, nothing of START has come yet, HRDY is high. Where the spec gives a register of the MU or the
BM no reset value (Tf, the settings in use, the latest period, the bus speed) the value is that of log 8, the model's
choice. -/
def Obligations.ResetHoldsThePartAndItsEndBeginsStart : Prop :=
  ∀ (straps : BitVec 2) (s : State),
    Gives .powerOnReset s (fun t => VolatileLost t ∧ t.pins.hrdy = false ∧ t.oc.held = true
      ∧ t.oc.cause = .power ∧ t.cs.scanning = false ∧ t.pending = s.pending)
    ∧ Gives .pinReset s (fun t => VolatileLost t ∧ t.pins.hrdy = false ∧ t.oc.held = true
      ∧ t.oc.cause = (if s.oc.held = true ∧ s.oc.cause = .power then .power else .pin)
      ∧ t.cs.scanning = false ∧ t.pending = s.pending)
    ∧ (s.oc.held = true → Gives (.resetRelease straps) s (fun t => VolatileLost t ∧ t.pins.hrdy = true
      ∧ t.oc = ⟨.start, false, s.oc.cause, straps, none, false, none⟩ ∧ t.cs.scanning = true ∧ t.pending = s.pending))
    ∧ (s.oc.held = false → exec (.resetRelease straps) s = .next s)
    ∧ (∀ fr, s.hl.tx = some fr → fr.restart = true → Gives (.frameSent straps) s (fun t => VolatileLost t
      ∧ t.pins.hrdy = true ∧ t.oc = ⟨.start, false, .request, straps, none, false, none⟩ ∧ t.cs.scanning = true
      ∧ t.pending = s.pending))

/-- R39 after each of the four resets: every shadow, every slot's latch state, the announced supply
condition and the pass count at their reset values, and the transfer queue empty. -/
def Obligations.ShadowsUnknownAfterEveryReset : Prop :=
  ∀ (straps : BitVec 2) (s : State) (c : Instr),
    (c = .powerOnReset ∨ c = .pinReset ∨ (c = .resetRelease straps ∧ s.oc.held = true)
      ∨ (c = .frameSent straps ∧ ∃ fr, s.hl.tx = some fr ∧ fr.restart = true)) →
    Gives c s (fun t =>
      (∀ id : ProfileId, t.ce.shadows[id] = ⟨none, none, none, none, false, false⟩)
      ∧ (∀ slot : Slot, t.ce.latches[slot] = ⟨false, none, none⟩)
      ∧ t.ce.supply = .normal ∧ t.ce.passCount = 0 ∧ t.bm.queue = [])

/-- A reset cuts a commit in progress (R158): its copy is EMPTY only where it was EMPTY before the commit and the
reset comes before 4 ms have gone since the commit's start (that a reset at exactly 4 ms is late is log 15, DEDUCED),
and DAMAGED in every other case; every other copy keeps what it holds. -/
def Obligations.ResetCutsCommitInProgress : Prop :=
  ∀ (s : State) (c : Instr), (c = .powerOnReset ∨ c = .pinReset) →
    Gives c s (fun t => ∀ (obj : ObjId) (n : CopyName),
      t.cs.store.copyAt obj n =
        match s.cs.commit with
        | none => s.cs.store.copyAt obj n
        | some k => if obj = k.obj ∧ n = k.copy
          then (if k.wasEmpty = true ∧ s.now < k.started + 4 then .empty else .damaged)
          else s.cs.store.copyAt obj n)

/-! ### The scan and the end of START -/

/-- START_UP_SCAN_END while the scan runs. It reads each copy's state, a disturbed copy as DAMAGED (log 14) and a
REMOVED copy of SETTINGS as DAMAGED, and chooses the active copy: the newer of two valid ones, A when neither is
newer, the valid one of two, or none. The settings in effect are STORED, or without an active copy FACTORY_DAMAGED
where a copy is DAMAGED and FACTORY elsewhere. The scan record counts the present targets, images and profiles and
the DAMAGED copies, and lists in ascending object order exactly the objects absent by damage. The settings now active
go to the MU, which starts its first cycle, to the BM and to the Operating Control with the scan's result; no notice
is appended and no block else changes. When no scan runs, nothing happens (log 4). -/
def Obligations.ScanFillsDirectoryAndAnnouncesSettings : Prop :=
  ∀ (d : List (ObjId × CopyName)) (s : State),
    (s.cs.scanning = true → Gives (.startUpScanEnd d) s (fun t =>
      (∀ obj : ObjId,
        let e := t.cs.dir.entry obj
        let seen (n : CopyName) : CopyInfo :=
          if (obj, n) ∈ d then .damaged
          else match obj, (s.cs.store.copyAt obj n).info with
            | .settings, .removed _ => .damaged
            | _, i => i
        e.a = seen .a ∧ e.b = seen .b
        ∧ (∀ ga gb, e.a.gen = some ga → e.b.gen = some gb →
            e.active = some (if 1 ≤ (gb - ga).toNat ∧ (gb - ga).toNat ≤ 32767 then .b else .a))
        ∧ (e.a.gen.isSome = true → e.b.gen = none → e.active = some .a)
        ∧ (e.a.gen = none → e.b.gen.isSome = true → e.active = some .b)
        ∧ (e.a.gen = none → e.b.gen = none → e.active = none)
        ∧ (∀ n, (obj, n) ∉ d → t.cs.store.copyAt obj n = s.cs.store.copyAt obj n))
      ∧ t.cs.scanning = false
      ∧ (let x := t.cs.dir.settings
         let eff : InEffect :=
           if x.active.isSome then .stored else if x.a = .damaged ∨ x.b = .damaged then .factoryDamaged else .factory
         let found := t.cs.scan
         t.cs.inEffect = eff
           ∧ t.oc = { s.oc with scanResult := some ⟨eff, (activeSettings t).startMode, found⟩ }
           ∧ found.nTargets = ((List.finRange 8).filter (fun i => (activeRecord t i).isSome)).length
           ∧ found.nImages = ((List.finRange 8).filter (fun i => (activeImage t i).isSome)).length
           ∧ found.nProfiles = ((List.finRange 64).filter (fun i => (activeProfile t i).isSome)).length
           ∧ found.damagedCopies = (allObjects.map (fun o => (if (t.cs.dir.entry o).a = .damaged then 1 else 0)
               + (if (t.cs.dir.entry o).b = .damaged then 1 else 0))).sum
           ∧ found.absentByDamage.Pairwise (fun i j => objPlace i < objPlace j)
           ∧ ∀ o, o ∈ found.absentByDamage ↔ (t.cs.dir.entry o).active = none
               ∧ ((t.cs.dir.entry o).a = .damaged ∨ (t.cs.dir.entry o).b = .damaged))
      ∧ t.mu = { s.mu with
          inUse := takenUp (activeSettings t)
          sourceInUse := (activeSettings t).source
          effSource := (activeSettings t).source
          cycle := some ⟨s.now, (activeSettings t).period⟩
          nextStart := some (s.now + (activeSettings t).period) }
      ∧ t.bm = { s.bm with speed := (activeSettings t).speed }
      ∧ t.msgs = s.msgs ∧ t.nu = s.nu ∧ t.hl = s.hl ∧ t.ce = s.ce ∧ t.ctxs = s.ctxs ∧ t.pins = s.pins
      ∧ t.now = s.now ∧ t.pending = s.pending))
    ∧ (s.cs.scanning = false → exec (.startUpScanEnd d) s = .next s)

/-- END_OF_START: with both the scan result and the first completion taken, the part enters SAFE for
damaged settings and the start mode otherwise, STARTED is handed to the NU, and the end of START is
announced to the MU, the CS, the TM and the HL. Then the MU, the CS and the HL take it, each once: the withheld
notices, one STORE notice for each object that the scan record lists, in the order of its list (which the scan makes
ascending), and the withheld LINK_OVERRUN are handed to the NU. -/
def Obligations.EndOfStartChoosesPartStateAndReleasesNotices : Prop :=
  (∀ (s : State) (r : ScanResult), s.oc.scanResult = some r → s.oc.part = .start → s.oc.firstCompletion = true →
    let part : PartState := if r.inEffect = .factoryDamaged then .safe else match r.startMode with
      | .run => .run
      | .hold => .hold
    ∀ ti, s.mu.ti = some ti →
      exec .endOfStart s = .next { s with
        oc := { s.oc with part := part }
        msgs := { s.msgs with
          endMu := true
          endCs := true
          endTm := some part
          endHl := true
          notices := s.msgs.notices ++ [⟨.info, .started s.oc.cause part r.inEffect s.oc.baud r.record ti s.mu.effSource s.mu.supply⟩] } })
  ∧ ∀ s : State,
    (s.msgs.endMu = true → Gives .withheldNoticesAppend s (fun t =>
      t.msgs = { s.msgs with endMu := false, notices := s.msgs.notices ++ s.mu.withheld }
      ∧ t.mu = { s.mu with withheld := [] } ∧ t.nu = s.nu ∧ t.hl = s.hl ∧ t.oc = s.oc ∧ t.pending = s.pending))
    ∧ (s.msgs.endCs = true → Gives .damagedObjectNotices s (fun t =>
      t.msgs.notices = s.msgs.notices ++ s.cs.scan.absentByDamage.map (fun o =>
        ⟨.fault, .storeDamaged o (s.cs.dir.entry o).a (s.cs.dir.entry o).b⟩)
      ∧ t.msgs.endCs = false ∧ t.cs = s.cs ∧ t.mu = s.mu ∧ t.nu = s.nu ∧ t.hl = s.hl ∧ t.oc = s.oc ∧ t.pending = s.pending))
    ∧ (s.msgs.endHl = true → Gives .withheldOverrunNotice s (fun t =>
      t.msgs.notices = s.msgs.notices ++ (match s.hl.startOverrun with
        | some (tag, code) => [⟨.warn, .linkOverrun tag code s.hl.overruns⟩]
        | none => [])
      ∧ t.msgs.endHl = false ∧ t.hl = { s.hl with startOverrun := none } ∧ t.nu = s.nu ∧ t.mu = s.mu ∧ t.oc = s.oc ∧ t.pending = s.pending))

/-- SLOT_SET_UP: a slot without an active record keeps its context; one with a record is DISABLED with
reason STARTED, or with auto-start in RUN and HOLD begins its probe. The announcement is taken. -/
def Obligations.SlotSetUpEntersDisabledOrProbes : Prop :=
  ∀ (derate : Bool) (s : State) (part : PartState), s.msgs.endTm = some part →
    Gives (.slotSetUp derate) s (fun t => t.msgs.endTm = none ∧ t.cs = s.cs ∧ t.mu = s.mu ∧ t.oc = s.oc
      ∧ ∀ slot : Slot,
        (activeRecord s slot = none → t.ctxs[slot] = s.ctxs[slot])
        ∧ ∀ r, activeRecord s slot = some r →
          ((r.autoStart = false ∨ part = .start ∨ part = .safe) →
            t.ctxs[slot].state = .disabled ∧ t.ctxs[slot].reason = .started ∧ t.ctxs[slot].recovery = 0)
          ∧ (r.autoStart = true → part = .run ∨ part = .hold → Probed slot r .autoStart t))

/-! ### Measurement -/

/-- CYCLE_COMPLETION records the three readings together, counts the cycle, takes up the active settings,
and ends the cycle 12 ms after its start (by the model's clock, log 3); its announcements to the CE come in the order supply change,
cycle complete, and the Operating Control hears of the first one. No other block's own state changes. -/
def Obligations.CompletionRecordsReadingsAndAnnounces : Prop :=
  ∀ (die : Word16) (remote : RemoteConversion) (vmon : Nat) (s : State) (c : Cycle), s.mu.cycle = some c →
    Gives (.cycleCompletion die remote vmon) s (fun t =>
      t.now = max s.now (c.start + 12)
      ∧ (∃ r, t.mu.reading = some r ∧ r.die = die.toInt ∧ r.supply = min 7000 vmon
          ∧ (match remote with
            | .ok x => r.remoteStatus = .ok ∧ r.remote = x.toInt
            | .openCircuit => r.remoteStatus = .openCircuit ∧ r.remote = 0
            | .short => r.remoteStatus = .short ∧ r.remote = 0)
          ∧ ∃ ti, t.mu.ti = some ti ∧ t.msgs.ceMu = s.msgs.ceMu
              ++ ((if t.mu.supply = s.mu.supply then [] else [.supplyChange t.mu.supply])
              ++ [.cycleComplete r ti t.mu.effSource t.mu.supply s.mu.ti.isNone]))
      ∧ t.mu.cycleCount = s.mu.cycleCount + 1 ∧ t.mu.cycle = none ∧ t.mu.nextStart = s.mu.nextStart
      ∧ t.mu.lastPeriod = c.period
      ∧ t.mu.sourceInUse = (activeSettings s).source ∧ t.mu.inUse = takenUp (activeSettings s)
      ∧ t.msgs.tmSupply = s.msgs.tmSupply ++ (if t.mu.supply = s.mu.supply then [] else [t.mu.supply])
      ∧ t.msgs.bmSupply = s.msgs.bmSupply ++ (if t.mu.supply = s.mu.supply then [] else [t.mu.supply])
      ∧ t.oc = (if s.mu.ti = none then { s.oc with firstCompletion := true } else s.oc)
      ∧ t.ce = s.ce ∧ t.ctxs = s.ctxs ∧ t.bm = s.bm ∧ t.cs = s.cs ∧ t.hl = s.hl ∧ t.nu = s.nu ∧ t.pins = s.pins
      ∧ t.pending = s.pending)

/-- CYCLE_COMPLETION moves the remote condition and the run count by the five rows of R6, with a SENSOR
notice on each change, withheld in START; the condition moves alike for either source in use. -/
def Obligations.RemoteConditionFollowsJudgement : Prop :=
  ∀ (die : Word16) (remote : RemoteConversion) (vmon : Nat) (s : State), s.mu.cycle.isSome = true →
    Gives (.cycleCompletion die remote vmon) s (fun t =>
      let bad : Option SensorReason := match remote with
        | .openCircuit => some .openCircuit
        | .short => some .short
        | .ok x => if x.toInt < -880 ∨ 2400 < x.toInt then some .range else none
      let value : Int := match remote with
        | .ok x => x.toInt
        | _ => 0
      let status : ConvStatus := match remote with
        | .ok _ => .ok
        | .openCircuit => .openCircuit
        | .short => .short
      let appended := if s.oc.part = .start then t.mu.withheld else t.msgs.notices
      let before := if s.oc.part = .start then s.mu.withheld else s.msgs.notices
      (s.mu.remoteCond = .good → bad = none → t.mu.remoteCond = .good ∧ t.mu.runCount = 0)
      ∧ (∀ reason, s.mu.remoteCond = .good → bad = some reason → t.mu.remoteCond = .faulted ∧ t.mu.runCount = 0
          ∧ ∃ later, appended = before ++ (⟨.warn, .sensor reason value status t.mu.sourceInUse t.mu.effSource⟩ :: later))
      ∧ (s.mu.remoteCond = .faulted → bad.isSome = true → t.mu.remoteCond = .faulted ∧ t.mu.runCount = 0)
      ∧ (s.mu.remoteCond = .faulted → bad = none → s.mu.runCount < 2 →
          t.mu.remoteCond = .faulted ∧ t.mu.runCount = s.mu.runCount + 1)
      ∧ (s.mu.remoteCond = .faulted → bad = none → s.mu.runCount = 2 → t.mu.remoteCond = .good ∧ t.mu.runCount = 0
          ∧ ∃ later, appended = before ++ (⟨.info, .sensor .recovered value status t.mu.sourceInUse t.mu.effSource⟩ :: later))
      ∧ (t.mu.remoteCond = s.mu.remoteCond → ∀ n ∈ appended.drop before.length, ∀ a b c d e, n.content ≠ .sensor a b c d e))

/-- CYCLE_COMPLETION sets the effective source, and Tf and Ti by restart, or by filter and
hysteresis. The first completion is a restart, so no completion reads the Tf that log 8 gives the reset. -/
def Obligations.IndexRestartsOrFilters : Prop :=
  ∀ (die : Word16) (remote : RemoteConversion) (vmon : Nat) (s : State), s.mu.cycle.isSome = true →
    Gives (.cycleCompletion die remote vmon) s (fun t =>
      let x := activeSettings s
      let value : Int := match remote with
        | .ok x => x.toInt
        | _ => 0
      let raw : Int := if t.mu.effSource = .die then die.toInt else value
      (t.mu.effSource = .remote ↔ x.source = .remote ∧ t.mu.remoteCond = .good)
      ∧ ((s.mu.ti = none ∨ t.mu.effSource ≠ s.mu.effSource ∨ x.source ≠ s.mu.sourceInUse) →
          t.mu.tf = raw ∧ t.mu.ti = some raw)
      ∧ (∀ ti, s.mu.ti = some ti → t.mu.effSource = s.mu.effSource → x.source = s.mu.sourceInUse →
          let tf' := s.mu.tf + Int.tdiv (raw - s.mu.tf) (2 ^ x.k)
          t.mu.tf = tf' ∧ t.mu.ti = some (if (x.h : Int) ≤ |tf' - ti| then tf' else ti)))

/-- CYCLE_COMPLETION judges the span and the supply against the settings it takes up: each condition
changes as R10 and R11 say, with its notice on a change, withheld in START, INDEX_SPAN before SUPPLY. -/
def Obligations.SpanAndSupplyJudgedWithHysteresis : Prop :=
  ∀ (die : Word16) (remote : RemoteConversion) (vmon : Nat) (s : State), s.mu.cycle.isSome = true →
    Gives (.cycleCompletion die remote vmon) s (fun t =>
      let x := activeSettings s
      let v := min 7000 vmon
      let appended := if s.oc.part = .start then t.mu.withheld else t.msgs.notices
      let before := if s.oc.part = .start then s.mu.withheld else s.msgs.notices
      ∀ ti, t.mu.ti = some ti →
        (t.mu.span = .inside ↔ x.low ≤ ti ∧ ti ≤ x.high)
        ∧ (s.mu.supply = .normal → t.mu.supply = if v < x.floor then .low else .normal)
        ∧ (s.mu.supply = .low → t.mu.supply = if x.floor + x.margin ≤ v then .normal else .low)
        ∧ ∃ sensor, sensor.length ≤ 1 ∧ appended = before ++ (sensor
            ++ ((if t.mu.span = s.mu.span then [] else
                  [⟨if t.mu.span = .outside then .warn else .info,
                    .indexSpan ti x.low x.high (if ti < x.low then .below else if x.high < ti then .above else .inside)⟩])
            ++ (if t.mu.supply = s.mu.supply then [] else
                  [⟨if t.mu.supply = .low then .fault else .info, .supply v x.floor x.margin t.mu.supply⟩]))))

/-! ### Evaluation of a profile -/

/-- R22, with R21's end values: a STEP curve gives the value of the last point at or below Ti, of the first
point below the curve and of the last one beyond it. -/
def Obligations.StepCurveIsStaircase : Prop :=
  ∀ (p : Profile) (ti : Int), p.header.interp = .step → Rising p.points → 2 ≤ p.points.length →
    (∀ first, p.points.head? = some first → ti ≤ first.temp → baseValue p ti = first.value)
    ∧ (∀ before lo after, p.points = before ++ lo :: after → lo.temp ≤ ti → (∀ q ∈ after, ti < q.temp) →
        baseValue p ti = lo.value)

/-- R23: between two neighbouring points a LINEAR curve gives v0 plus the nearest whole number to
(v1 - v0)(Ti - t0) / (t1 - t0), an exact half upward, and lies between v0 and v1. -/
def Obligations.LinearCurveRoundsHalfUp : Prop :=
  ∀ (p : Profile) (ti : Int) (before after : List Point) (lo hi : Point),
    p.header.interp = .linear → Rising p.points → p.points = before ++ lo :: hi :: after → lo.temp ≤ ti → ti < hi.temp →
    ∃ q : Int, (baseValue p ti : Int) = lo.value + q
      ∧ 2 * ((hi.value : Int) - lo.value) * (ti - lo.temp) - (hi.temp - lo.temp) < 2 * q * (hi.temp - lo.temp)
      ∧ 2 * q * (hi.temp - lo.temp) ≤ 2 * ((hi.value : Int) - lo.value) * (ti - lo.temp) + (hi.temp - lo.temp)
      ∧ (ti = lo.temp → baseValue p ti = lo.value)
      ∧ min lo.value hi.value ≤ baseValue p ti ∧ baseValue p ti ≤ max lo.value hi.value
      ∧ (lo.value ≤ widthMax p.header.width → hi.value ≤ widthMax p.header.width → baseValue p ti ≤ widthMax p.header.width)

/-- Stages 2 to 6 of an evaluation. The sum of base and trim is carried exactly, 0 when it is negative, at most 98302
(R24); a level halves once per level with the remainder dropped for SHIFT, and NONE halves nothing (R29). The computed
and the output value lie within the limits (R30, R33); a value within the limits passes stage 4. The slewed value is
the computed value with S = 0; with a reference it moves from the reference toward the computed value by at most S
and reaches it within S (R31); without a reference it is the start value, or the computed value (R32); stage 6 holds
it within the limits. So the output differs by at most S from a reference inside the limits. The clamped flag is set
exactly when stage 4 changed the derated value or stage 6 the slewed value (R34). -/
def Obligations.StagesTwoToSixOfAnEvaluation : Prop :=
  (∀ (base : Nat) (trim : Int),
    ((base : Int) + trim < 0 → trimmedValue base trim = 0)
    ∧ (0 ≤ (base : Int) + trim → (trimmedValue base trim : Int) = base + trim)
    ∧ (base ≤ 65535 → trim ≤ 32767 → trimmedValue base trim ≤ 98302))
  ∧ (∀ (mode : DerateMode) (level v : Nat),
    (mode = .plain → deratedValue mode level v = v)
    ∧ (mode = .shift → deratedValue mode 0 v = v)
    ∧ (mode = .shift → deratedValue mode (level + 1) v = deratedValue mode level v / 2)
    ∧ ∀ lower upper, deratedValue mode level v < lower → clampTo lower upper (deratedValue mode level v) = lower)
  ∧ ∀ (p : Profile) (ti trim : Int) (level : Nat) (reference : Option Nat), p.header.lower ≤ p.header.upper →
    let lower := p.header.lower
    let upper := p.header.upper
    let limit := p.header.stepLimit
    let pre := deratedValue p.header.derate level (trimmedValue (baseValue p ti) trim)
    let e := evaluate p ti trim level reference
    let slewed : Nat :=
      if limit = 0 then e.computed
      else match reference with
        | some r => if r ≤ e.computed then min e.computed (r + limit) else max e.computed (r - limit)
        | none => p.header.start.getD e.computed
    (lower ≤ e.computed ∧ e.computed ≤ upper ∧ lower ≤ e.output ∧ e.output ≤ upper)
    ∧ (pre < lower → e.computed = lower) ∧ (upper < pre → e.computed = upper) ∧ (lower ≤ pre → pre ≤ upper → e.computed = pre)
    ∧ e.output = max lower (min slewed upper)
    ∧ (∀ r, reference = some r → 0 < limit → lower ≤ r → r ≤ upper →
        e.output = slewed ∧ e.output ≤ r + limit ∧ r ≤ e.output + limit)
    ∧ (e.stages.limit = true ↔ pre < lower ∨ upper < pre)
    ∧ (e.stages.final = true ↔ slewed < lower ∨ upper < slewed)
    ∧ (e.stages.flag = true ↔ e.stages.limit = true ∨ e.stages.final = true)

/-! ### The pass and the shadows -/

/-- CYCLE_COMPLETE_AT_CE runs one pass exactly in RUN with the announced supply NORMAL and never for the first
completion; otherwise it only takes the announcement. A pass counts itself, evaluates no profile but the
enabled ones of slots IN_SERVICE, and moves no slot. -/
def Obligations.PassServesOnlySlotsInService : Prop :=
  ∀ (derate first : Bool) (s : State) (r : Readings) (ti : Int) (src : IndexSource) (sup : SupplyCond) (rest : List CeAnnounce),
    s.msgs.ceMu = .cycleComplete r ti src sup first :: rest →
    ((first = true ∨ s.oc.part ≠ .run ∨ s.ce.supply = .low) →
      exec (.cycleCompleteAtCe derate) s =
        .next { s with pins := { s.pins with derate := derate }, msgs := { s.msgs with ceMu := rest } })
    ∧ (first = false → s.oc.part = .run → s.ce.supply = .normal → exec (.cycleCompleteAtCe derate) s =
        .next (runPass { s with pins := { s.pins with derate := derate }, msgs := { s.msgs with ceMu := rest } }).1)
    ∧ (first = false → s.oc.part = .run → s.ce.supply = .normal → (∀ i : Slot, s.msgs.ceInvalidate[i] = false) →
      Gives (.cycleCompleteAtCe derate) s (fun t =>
        t.ce.passCount = s.ce.passCount + 1 ∧ t.msgs.ceMu = rest
        ∧ t.ctxs = s.ctxs ∧ t.cs = s.cs ∧ t.mu = s.mu ∧ t.oc = s.oc ∧ t.hl = s.hl ∧ t.nu = s.nu
        ∧ t.ce.trims = s.ce.trims ∧ t.ce.hostDerate = s.ce.hostDerate
        ∧ ∀ id : ProfileId,
          (∀ slot : Slot, s.ctxs[slot].state = .inService → profileServes s slot id = false) →
            t.ce.shadows[id].computed = s.ce.shadows[id].computed
            ∧ t.ce.shadows[id].written = s.ce.shadows[id].written
            ∧ t.ce.shadows[id].deferred = s.ce.shadows[id].deferred
            ∧ t.ce.shadows[id].clamped = s.ce.shadows[id].clamped
            ∧ t.ce.shadows[id].reference = s.ce.shadows[id].reference))

/-- A pass, here with no invalidation outstanding (log 6), visits every profile it serves: the shadow takes the computed
value and the clamped flag of the evaluation at the Ti, trim, level and reference the pass finds; an output that is
the reference leaves it and clears DEFERRED; a waiting write takes the output; with room for all the pass serves every
output becomes the reference, and a profile left without a write is DEFERRED with its reference kept. The account
counts the profiles evaluated, the writes enqueued and replaced, and the profiles left without a write (log 35 for a
replaced one whose flag stays set). A slot whose removal the TM has not taken yet is served still (log 13, DEDUCED). -/
def Obligations.PassVisitsEveryServedProfile : Prop :=
  ∀ (s : State) (ti : Int), s.mu.ti = some ti → (∀ i : Slot, s.msgs.ceInvalidate[i] = false) →
    let x := runPass s
    let t := x.1
    (∀ (slot : Slot) (id : ProfileId) (p : Profile), ServedBy s slot id = true → activeProfile s id = some p →
      let e := passOutput s ti id p
      let old := s.ce.shadows[id]
      let new := t.ce.shadows[id]
      new.computed = some e.computed ∧ new.clamped = e.stages.flag ∧ new.written = old.written
      ∧ (old.reference = some e.output → new.reference = some e.output ∧ new.deferred = false)
      ∧ (old.waiting.isSome = true → new.reference = some e.output)
      ∧ (s.bm.queue.length + (servedIds s).length ≤ 32 → countClass .compensate s.bm.queue + (servedIds s).length ≤ 24 →
          new.reference = some e.output)
      ∧ (new.reference = some e.output ∨ (new.deferred = true ∧ new.reference = old.reference)))
    ∧ x.2.evaluated = (servedIds s).length
    ∧ x.2.replaced = ((servedIds s).filter (fun id => needsWrite s ti id && s.ce.shadows[id].waiting.isSome)).length
    ∧ x.2.enqueued = ((servedIds s).filter (fun id => issuedWrite s t ti id && s.ce.shadows[id].waiting.isNone)).length
    ∧ x.2.deferred = ((servedIds s).filter (fun id => needsWrite s ti id && !issuedWrite s t ti id)).length

/-- The COMPENSATE latch of a slot. A pass, here with no invalidation outstanding (log 6), issues one to each served
slot that is due one and to no other: a waiting latch stays queued as the same transfer with a new age alone, newer than
all before, or is granted; else with room
a latch of the record's register and value joins the queue and its flag is cleared, without room the flag is set; the
account counts the three, a moved one as moved alone (log 35). The record is the active one, or the one an outstanding
removal carries (log 13, DEDUCED). A grant makes the waiting reference the on-bus one. Its
DONE, not stale, clears the on-bus reference. -/
def Obligations.LatchIsEnqueuedMovedOrDeferred : Prop :=
  (∀ (s : State) (ti : Int), s.mu.ti = some ti → (∀ i : Slot, s.msgs.ceInvalidate[i] = false) →
    let x := runPass s
    let t := x.1
    (∀ slot : Slot,
      let old := s.ce.latches[slot]
      let new := t.ce.latches[slot]
      (latchDue s t ti slot = false → new.deferred = old.deferred
        ∧ (new = old ∨ ∃ w, old.waiting = some w ∧ new = ⟨old.deferred, none, some w⟩))
      ∧ (∀ r l, latchDue s t ti slot = true → recordInUse s slot = some r → r.latch = some l →
        (∀ w, old.waiting = some w → new.deferred = old.deferred ∧ (new.waiting = some w ∨ new.onBus = some w)
          ∧ ∀ x ∈ s.bm.queue, OneOnBus s → x.id = w → x.origin = .latch → x.slot = some slot → x.onBus = false →
            (∀ (id : ProfileId) v, s.ce.shadows[id].waiting ≠ some ⟨w, v⟩) →
            ∃ y ∈ t.bm.queue, y = { x with age := y.age, onBus := y.onBus } ∧ s.bm.nextAge ≤ y.age
              ∧ (∀ z ∈ t.bm.queue, z.id = w → z = y)
              ∧ (y.onBus = false → new.waiting = some w) ∧ (y.onBus = true → new.onBus = some w))
        ∧ (old.waiting = none → new.deferred = false → ∃ y ∈ t.bm.queue, s.bm.nextId ≤ y.id
            ∧ (new.waiting = some y.id ∨ new.onBus = some y.id) ∧ y.origin = .latch ∧ y.slot = some slot ∧ y.addr = r.addr
            ∧ y.dir = .write ∧ y.reg = l.reg ∧ y.data = [l.value] ∧ y.attempts = 0 ∧ y.delay = 0 ∧ y.stale = false)
        ∧ (old.waiting = none → new.deferred = true → new = { old with deferred := true })
        ∧ (old.waiting = none → s.bm.queue.length + (servedIds s).length + 8 ≤ 32 →
            countClass .compensate s.bm.queue + (servedIds s).length + 8 ≤ 24 → new.deferred = false)
        ∧ (old.waiting = none → 32 ≤ s.bm.queue.length ∨ 24 ≤ countClass .compensate s.bm.queue → new.deferred = true)))
    ∧ x.2.latchesMoved = ((List.finRange 8).filter (fun i => latchDue s t ti i && s.ce.latches[i].waiting.isSome)).length
    ∧ x.2.latchesEnqueued = ((List.finRange 8).filter (fun i =>
        latchDue s t ti i && s.ce.latches[i].waiting.isNone && !t.ce.latches[i].deferred)).length
    ∧ x.2.latchesDeferred = ((List.finRange 8).filter (fun i =>
        latchDue s t ti i && s.ce.latches[i].waiting.isNone && t.ce.latches[i].deferred)).length)
  ∧ (∀ (s : State) (t : Transfer) (slot : Slot), t.origin = .latch → t.slot = some slot → s.ce.latches[slot].waiting = some t.id →
    (grant t s).ce.latches[slot] = ⟨s.ce.latches[slot].deferred, none, some t.id⟩
    ∧ (∀ i : Slot, i ≠ slot → (grant t s).ce.latches[i] = s.ce.latches[i]) ∧ (grant t s).ce.shadows = s.ce.shadows)
  ∧ ∀ (derate : Bool) (acks : List Bool) (data : List Byte) (s : State) (t : Transfer) (slot : Slot),
    OneOnBus s → onBusTransfer s = some t → s.bm.recovering = false → t.slot = some slot → t.origin = .latch → t.dir = .write →
    t.stale = false → s.ce.latches[slot].onBus = some t.id → (∀ w, s.ce.latches[slot].waiting = some w → w ≠ t.id) →
    (∀ n, n < t.data.length + 2 → acks[n]? = some true) →
    Gives (.transactionEnd (.complete acks data) derate) s (fun u =>
      (s.ce.latches[slot].waiting = none → u.ce.latches[slot] = ⟨s.ce.latches[slot].deferred, none, none⟩)
      ∧ (∀ w, s.ce.latches[slot].waiting = some w → u.ce.latches[slot] = ⟨s.ce.latches[slot].deferred, some w, none⟩
          ∨ u.ce.latches[slot] = ⟨s.ce.latches[slot].deferred, none, some w⟩)
      ∧ (∀ x ∈ u.bm.queue, x.id ≠ t.id) ∧ u.msgs.tmReports = s.msgs.tmReports ∧ u.ctxs = s.ctxs ∧ u.cs = s.cs)

/-- A pass's visit of a profile: the evaluation is the one of the pass's Ti, the profile's trim, the pass's level and
the shadow's reference; the shadow takes computed value and clamped flag, and exactly a changed flag hands over a
LIMIT notice (R34, R35); an output equal to the reference writes nothing and clears DEFERRED; else a waiting write is
replaced in place, keeping age, place and count; else a new COMPENSATE write joins the queue when there is room for
it; else DEFERRED is set and no reference moves. Other shadows are untouched. -/
def Obligations.PassVisitReplacesEnqueuesOrDefers : Prop :=
  ∀ (slot : Slot) (rec : TargetRecord) (id : ProfileId) (p : Profile) (s : State) (acc : PassAccount) (ti : Int),
    activeProfile s id = some p → s.mu.ti = some ti →
    let e := passOutput s ti id p
    let sh := s.ce.shadows[id]
    let x := visitProfile slot rec id (s, acc)
    let room := s.bm.queue.length < 32 ∧ countClass .compensate s.bm.queue < 24
    x.1.ce.shadows[id].computed = some e.computed ∧ x.1.ce.shadows[id].clamped = e.stages.flag
    ∧ x.1.msgs = { s.msgs with notices := s.msgs.notices ++ (if sh.clamped = e.stages.flag then [] else
        [⟨.info, .limit id p.header.slot e.stages.flag e.stages e.computed e.output p.header.lower p.header.upper ti false⟩]) }
    ∧ (∀ j : ProfileId, j ≠ id → x.1.ce.shadows[j] = s.ce.shadows[j])
    ∧ (sh.reference = some e.output →
        x.1.bm = s.bm ∧ x.1.ce.shadows[id].deferred = false ∧ x.1.ce.shadows[id].reference = some e.output)
    ∧ (∀ w, sh.reference ≠ some e.output → sh.waiting = some w →
        x.1.ce.shadows[id].waiting = some ⟨w.id, e.output⟩
        ∧ x.1.bm.queue = s.bm.queue.map (fun tr => if tr.id = w.id then { tr with data := parameterBytes p.header.width p.header.order e.output } else tr))
    ∧ (sh.reference ≠ some e.output → sh.waiting = none → room →
        x.1.ce.shadows[id].waiting = some ⟨s.bm.nextId, e.output⟩ ∧ x.1.ce.shadows[id].deferred = false
        ∧ x.1.bm.queue = s.bm.queue ++ [⟨s.bm.nextId, s.bm.nextAge, .profile id, some slot, rec.addr, .write, p.header.param,
            parameterBytes p.header.width p.header.order e.output, 0, 0, 0, false, false⟩])
    ∧ (sh.reference ≠ some e.output → sh.waiting = none → ¬ room →
        x.1.bm = s.bm ∧ x.1.ce.shadows[id].deferred = true ∧ x.1.ce.shadows[id].reference = sh.reference)

/-- SLOT_INVALIDATION: the shadows of every profile whose active content names the slot, enabled or not,
lose written value, references and DEFERRED and keep computed value and clamped flag; the slot's latch state
is cleared and the announcement is taken; nothing else changes. -/
def Obligations.InvalidationClearsSlotShadows : Prop :=
  ∀ (slot : Slot) (s : State), s.msgs.ceInvalidate[slot] = true →
    Gives (.slotInvalidation slot) s (fun t =>
      (∀ id : ProfileId, (∃ p, activeProfile s id = some p ∧ p.header.slot = slot.val) →
        t.ce.shadows[id] = ⟨s.ce.shadows[id].computed, none, none, none, false, s.ce.shadows[id].clamped⟩)
      ∧ (∀ id : ProfileId, (∀ p, activeProfile s id = some p → p.header.slot ≠ slot.val) → t.ce.shadows[id] = s.ce.shadows[id])
      ∧ t.ce.latches[slot] = ⟨false, none, none⟩ ∧ (∀ i : Slot, i ≠ slot → t.ce.latches[i] = s.ce.latches[i])
      ∧ t.msgs = { s.msgs with ceInvalidate := s.msgs.ceInvalidate.set slot false }
      ∧ t.ce.trims = s.ce.trims ∧ t.ce.supply = s.ce.supply ∧ t.ce.passCount = s.ce.passCount ∧ t.ce.hostDerate = s.ce.hostDerate
      ∧ t.bm = s.bm ∧ t.ctxs = s.ctxs ∧ t.cs = s.cs ∧ t.hl = s.hl ∧ t.nu = s.nu ∧ t.mu = s.mu ∧ t.oc = s.oc ∧ t.pins = s.pins
      ∧ t.now = s.now ∧ t.pending = s.pending ∧ t.freeDraws = s.freeDraws)

/-- PROFILE_ACTIVATION of a content that keeps slot, parameter address, width and word order keeps the
shadow, but for the DEFERRED of a disabled profile, and keeps the trim (R55, R25). One of a removal, of a new
profile or of a content with another slot, parameter address, width or word order: the shadow is as after
reset; the write its waiting reference names has left the queue and the one its on-bus reference names is
stale; the trim is cleared by a removal alone (R54, R25). Here for references that name a pass's writes; a
load step also moves its load on (R85). -/
def Obligations.ProfileActivationKeepsOrInvalidatesShadow : Prop :=
  (∀ (derate : Bool) (s : State) (id : ProfileId) (b a : Profile) (rest : List ProfileChange),
    s.msgs.ceProfile = ⟨id, some b, some a⟩ :: rest →
    b.header.slot = a.header.slot → b.header.param = a.header.param → b.header.width = a.header.width →
    b.header.order = a.header.order →
    Gives (.profileActivation derate) s (fun t =>
      t.ce.shadows[id] = (if a.header.enabled then s.ce.shadows[id] else { s.ce.shadows[id] with deferred := false })
      ∧ (∀ j : ProfileId, j ≠ id → t.ce.shadows[j] = s.ce.shadows[j])
      ∧ t.ce.trims = s.ce.trims ∧ t.ce.latches = s.ce.latches ∧ t.bm = s.bm ∧ t.ctxs = s.ctxs ∧ t.cs = s.cs ∧ t.hl = s.hl ∧ t.nu = s.nu
      ∧ t.msgs = { s.msgs with ceProfile := rest }))
  ∧ ∀ (derate : Bool) (s : State) (ch : ProfileChange) (rest : List ProfileChange),
    s.msgs.ceProfile = ch :: rest →
    (∀ b a, ch.before = some b → ch.after = some a →
      b.header.slot ≠ a.header.slot ∨ b.header.param ≠ a.header.param ∨ b.header.width ≠ a.header.width
        ∨ b.header.order ≠ a.header.order) →
    (∀ w, s.ce.shadows[ch.id].waiting = some w → ∀ x ∈ s.bm.queue, x.id = w.id → x.origin = .profile ch.id ∧ x.onBus = false) →
    (∀ b, s.ce.shadows[ch.id].onBus = some b → ∀ x ∈ s.bm.queue, x.id = b.id → x.origin = .profile ch.id ∧ x.onBus = true) →
    Gives (.profileActivation derate) s (fun t =>
      t.ce.shadows[ch.id] = ⟨none, none, none, none, false, false⟩
      ∧ (∀ j : ProfileId, j ≠ ch.id → t.ce.shadows[j] = s.ce.shadows[j])
      ∧ t.ce.trims = (if ch.after.isSome then s.ce.trims else s.ce.trims.set ch.id 0)
      ∧ (∀ w, s.ce.shadows[ch.id].waiting = some w → ∀ x ∈ t.bm.queue, x.id ≠ w.id)
      ∧ (∀ b, s.ce.shadows[ch.id].onBus = some b → ∀ x ∈ t.bm.queue, x.id = b.id → x.stale = true)
      ∧ (∀ x ∈ s.bm.queue, (∀ w, s.ce.shadows[ch.id].waiting = some w → x.id ≠ w.id) →
          (∀ b, s.ce.shadows[ch.id].onBus = some b → x.id ≠ b.id) → x ∈ t.bm.queue)
      ∧ t.ce.latches = s.ce.latches ∧ t.ctxs = s.ctxs ∧ t.cs = s.cs ∧ t.hl = s.hl ∧ t.nu = s.nu)

/-! ### Host administration of slots -/

/-- TARGET_ADMIN refused: in START every action, in SAFE those but DISABLE and SUSPEND, with WRONG_STATE; in
UNCONFIGURED, and where the action is not taken in the slot's state, with TARGET_STATE. DISABLE in DISABLED
and SUSPEND in SUSPENDED are OK. All of these carry slot, action, equal states and no reason (the layout of
the reason is log 18) and change nothing. -/
def Obligations.AdminRefusedOrNeedlessChangesNothing : Prop :=
  ∀ (derate : Bool) (s : State) (f : Frame) (rest : List Frame) (slot : Slot) (a : Action),
    Asked s f rest → f.code = some 0x14 → adminArgs f.args = some (slot, a) →
    let st := s.ctxs[slot].state
    let items (r : Byte) : List Byte := [0x14, r, byteOf slot.val, a.code, st.code, st.code, 0]
    let s' := sampleDerate derate s
    ((s.oc.part = .start ∨ (s.oc.part = .safe ∧ a ≠ .disable ∧ a ≠ .suspend)) → AnswersWith (.targetAdmin derate) s f rest (items 0x05) s')
    ∧ ((s.oc.part = .run ∨ s.oc.part = .hold ∨ (s.oc.part = .safe ∧ (a = .disable ∨ a = .suspend))) →
        (st = .unconfigured ∨ (a = .enable ∧ st ≠ .disabled) ∨ (a = .resume ∧ st ≠ .suspended)
          ∨ (a = .reload ∧ (st = .disabled ∨ st = .suspended)) →
          AnswersWith (.targetAdmin derate) s f rest (items 0x06) s')
        ∧ ((a = .disable ∧ st = .disabled) ∨ (a = .suspend ∧ st = .suspended) →
          AnswersWith (.targetAdmin derate) s f rest (items 0x00) s'))

/-- Every TARGET_ADMIN action taken with change moves the slot as its row says and answers OK with the slot, the action,
the state before, and the state and reason at the end of the happening (the layout is log 18; log 42 for a slot that
goes on behind PROBING). It leaves the other slots'
contexts, the store, the measurement and the CE's trims and levels alone; RELOAD, DISABLE and SUSPEND clear the
recovery count, DISABLE also ends the slot's waiting manual transfers. SUSPEND in detail: the context's timers, check,
cursor and awaited transfer are cleared and its counters kept; no waiting automatic transfer of the slot is left and
one on the bus is stale; the CE is told; waiting manual transfers stay; one TARGET notice is handed over. -/
def Obligations.AdminActionMovesSlotAndAnswers : Prop :=
  ∀ (derate : Bool) (s : State) (f : Frame) (rest : List Frame) (slot : Slot) (a : Action) (r : TargetRecord),
    Asked s f rest → f.code = some 0x14 → adminArgs f.args = some (slot, a) → activeRecord s slot = some r →
    let st := s.ctxs[slot].state
    let frame (t : State) : Prop := OtherSlotsKept slot s t ∧ t.cs = s.cs ∧ t.mu = s.mu ∧ t.oc = s.oc ∧ t.ce.trims = s.ce.trims
      ∧ t.ce.hostDerate = s.ce.hostDerate ∧ t.ce.passCount = s.ce.passCount ∧ t.hl.intake = rest
      ∧ ReplyGiven f.tag [0x14, 0x00, byteOf slot.val, a.code, st.code, t.ctxs[slot].state.code, t.ctxs[slot].reason.code] false t
    ((s.oc.part = .run ∨ s.oc.part = .hold) →
      (a = .enable → st = .disabled → Gives (.targetAdmin derate) s (fun t => Probed slot r .hostEnable t ∧ frame t))
      ∧ (a = .resume → st = .suspended → Gives (.targetAdmin derate) s (fun t => Probed slot r .hostResume t ∧ frame t
          ∧ (∀ x ∈ t.bm.queue, x.cls = .manual → x.slot = some slot → x.onBus = true)))
      ∧ (a = .reload → automaticUse st = true →
          Gives (.targetAdmin derate) s (fun t => Probed slot r .hostReload t ∧ t.ctxs[slot].recovery = 0 ∧ frame t)))
    ∧ (s.oc.part ≠ .start →
      (a = .disable → st ≠ .unconfigured → st ≠ .disabled → Gives (.targetAdmin derate) s (fun t =>
        t.ctxs[slot].state = .disabled ∧ t.ctxs[slot].reason = .hostDisable ∧ t.ctxs[slot].recovery = 0 ∧ SlotQuiet slot t
        ∧ (∀ x ∈ t.bm.queue, x.cls = .manual → x.slot = some slot → x.onBus = true) ∧ frame t))
      ∧ (a = .suspend → st ≠ .unconfigured → st ≠ .suspended → Gives (.targetAdmin derate) s (fun t =>
        Answered f [0x14, 0x00, byteOf slot.val, 0x03, st.code, TargetState.suspended.code, Reason.hostSuspend.code] rest t ∧ frame t
        ∧ t.ctxs[slot].state = .suspended ∧ t.ctxs[slot].reason = .hostSuspend ∧ t.ctxs[slot].detail = .absent
        ∧ t.ctxs[slot].checkTimer = none ∧ t.ctxs[slot].faultTimer = none ∧ t.ctxs[slot].checkStep = .idle
        ∧ t.ctxs[slot].cursor = .identity ∧ t.ctxs[slot].roomMark = false ∧ t.ctxs[slot].awaited = none
        ∧ t.ctxs[slot].recovery = 0 ∧ t.ctxs[slot].loads = s.ctxs[slot].loads ∧ t.ctxs[slot].losses = s.ctxs[slot].losses
        ∧ t.ctxs[slot].faults = s.ctxs[slot].faults
        ∧ SlotQuiet slot t
        ∧ (∀ x ∈ s.bm.queue, (x.automatic = false ∨ x.slot ≠ some slot) → x ∈ t.bm.queue)
        ∧ t.msgs.ceInvalidate[slot] = true
        ∧ t.msgs.notices = s.msgs.notices ++ [⟨.info, .target slot st .suspended .hostSuspend .absent r.addr 0
            s.ctxs[slot].loads s.ctxs[slot].losses s.ctxs[slot].faults⟩]
        ∧ t.ce = s.ce)))

/-! ### Activation, removal, failure -/

/-- RECORD_ACTIVATION: an UNCONFIGURED slot enters DISABLED with RECORD_ADDED, or with auto-start in RUN and
HOLD begins its probe; a DISABLED or SUSPENDED slot keeps its context; a slot in automatic use begins a probe
for ACTIVATION with the recovery count cleared. IMAGE_ACTIVATION: a slot in automatic use whose record is
present begins such a probe; any other slot, and one without a record, changes nothing. RECORD_REMOVAL: a configured slot enters UNCONFIGURED with RECORD_REMOVED, its
counters and recovery count 0, its timers stopped, its waiting automatic and slot-addressed manual transfers
gone. The other slots' contexts are kept. -/
def Obligations.RecordAndImageActivationActByState : Prop :=
  (∀ (derate : Bool) (s : State) (slot : Slot) (before : Option TargetRecord) (r : TargetRecord) (rest : List TmActivation),
    s.msgs.tmStore = .record slot before (some r) :: rest → activeRecord s slot = some r →
    let auto : Prop := r.autoStart = true ∧ (s.oc.part = .run ∨ s.oc.part = .hold)
    Gives (.recordActivation derate) s (fun t =>
      t.msgs.tmStore = rest ∧ OtherSlotsKept slot s t ∧ t.cs = s.cs ∧ t.oc = s.oc ∧ t.mu = s.mu
      ∧ (s.ctxs[slot].state = .unconfigured → ¬ auto → t.ctxs[slot].state = .disabled ∧ t.ctxs[slot].reason = .recordAdded)
      ∧ (s.ctxs[slot].state = .unconfigured → auto → Probed slot r .autoStart t)
      ∧ (s.ctxs[slot].state = .disabled ∨ s.ctxs[slot].state = .suspended → t.ctxs[slot] = s.ctxs[slot])
      ∧ (automaticUse s.ctxs[slot].state = true → Probed slot r .activation t ∧ t.ctxs[slot].recovery = 0)
      ∧ (∀ b, before = some b → b.addr ≠ r.addr → s.ctxs[slot].state ≠ .unconfigured →
          ∀ x ∈ t.bm.queue, x.cls = .manual → x.slot = some slot → x.onBus = true)))
  ∧ (∀ (derate : Bool) (s : State) (slot : Slot) (present : Bool) (rest : List TmActivation),
    s.msgs.tmStore = .image slot present :: rest →
    (∀ r, present = true → automaticUse s.ctxs[slot].state = true → activeRecord s slot = some r →
      Gives (.imageActivation derate) s (fun t => Probed slot r .activation t ∧ t.ctxs[slot].recovery = 0
        ∧ OtherSlotsKept slot s t ∧ t.msgs.tmStore = rest ∧ t.cs = s.cs ∧ t.oc = s.oc ∧ t.mu = s.mu))
    ∧ (present = false ∨ automaticUse s.ctxs[slot].state = false → exec (.imageActivation derate) s =
        .next { s with pins := { s.pins with derate := derate }, msgs := { s.msgs with tmStore := rest } }))
  ∧ ∀ (s : State) (slot : Slot) (before : Option TargetRecord) (rest : List TmActivation),
    s.msgs.tmStore = .record slot before none :: rest → s.ctxs[slot].state ≠ .unconfigured →
    Gives .recordRemoval s (fun t =>
      t.ctxs[slot].state = .unconfigured ∧ t.ctxs[slot].reason = .recordRemoved ∧ t.ctxs[slot].detail = .absent
      ∧ t.ctxs[slot].recovery = 0 ∧ t.ctxs[slot].loads = 0 ∧ t.ctxs[slot].losses = 0 ∧ t.ctxs[slot].faults = 0
      ∧ t.ctxs[slot].checkTimer = none ∧ t.ctxs[slot].faultTimer = none ∧ t.ctxs[slot].awaited = none
      ∧ SlotQuiet slot t ∧ (∀ x ∈ t.bm.queue, x.cls = .manual → x.slot = some slot → x.onBus = true)
      ∧ t.msgs.ceInvalidate[slot] = true ∧ t.msgs.tmStore = rest ∧ OtherSlotsKept slot s t ∧ t.cs = s.cs ∧ t.ce = s.ce
      ∧ t.oc = s.oc ∧ t.mu = s.mu)

/-! ### Checks, departures, holds -/

/-- CHECK_TIMER_EXPIRY on a record with a marker or a status check: the timer stops and the check begins; its
read of one byte joins the queue as a CHECK transfer when no stale hold stands and there is room, and the
context awaits it; else no transfer is made; the clock moves to the expiry (log 3). SUPPLY_RECOVERY_CHECKS at a change to NORMAL: every slot IN_SERVICE
whose record in use (log 13) has a marker or a status check, and no check in progress, gets one, its timer stopped; every other slot keeps its
context; a change to LOW changes nothing at the TM. -/
def Obligations.ChecksBeginAtExpiryAndSupplyRecovery : Prop :=
  (∀ (s : State) (slot : Slot) (at' : Nat) (r : TargetRecord) (o : Origin) (reg : Byte),
    s.ctxs[slot].checkTimer = some at' → activeRecord s slot = some r →
    ((∃ m, r.marker = some m ∧ o = .checkMarker ∧ reg = m.reg)
      ∨ (r.marker = none ∧ ∃ c, r.status = some c ∧ o = .checkStatus ∧ reg = c.reg)) →
    Gives (.checkTimerExpiry slot) s (fun t =>
      t.ctxs[slot].checkTimer = none ∧ t.ctxs[slot].checkStep = (if o = .checkMarker then .marker else .status)
      ∧ t.ctxs[slot].state = s.ctxs[slot].state ∧ t.now = max s.now at'
      ∧ (s.ctxs[slot].staleHold = none → s.bm.queue.length < 32 →
          t.ctxs[slot].awaited = some s.bm.nextId ∧ t.bm.queue.length = s.bm.queue.length + 1
          ∧ ∃ x ∈ t.bm.queue, x.id = s.bm.nextId ∧ x.origin = o ∧ x.slot = some slot ∧ x.addr = r.addr ∧ x.dir = .read
              ∧ x.reg = reg ∧ x.readLen = 1 ∧ x.data = [] ∧ x.delay = 0 ∧ x.attempts = 0 ∧ x.stale = false)
      ∧ (s.ctxs[slot].staleHold ≠ none ∨ 32 ≤ s.bm.queue.length →
          t.bm = s.bm ∧ t.ctxs[slot].awaited = s.ctxs[slot].awaited)
      ∧ OtherSlotsKept slot s t ∧ t.cs = s.cs ∧ t.hl = s.hl ∧ t.nu = s.nu ∧ t.mu = s.mu ∧ t.oc = s.oc))
  ∧ ∀ (s : State) (c : SupplyCond) (rest : List SupplyCond), s.msgs.tmSupply = c :: rest →
    (c = .low → exec .supplyRecoveryChecks s = .next { s with msgs := { s.msgs with tmSupply := rest } })
    ∧ (c = .normal → Gives .supplyRecoveryChecks s (fun t => t.msgs.tmSupply = rest ∧ t.cs = s.cs ∧ t.mu = s.mu ∧ t.oc = s.oc
      ∧ t.hl = s.hl ∧ t.nu = s.nu
      ∧ ∀ slot : Slot,
        let due : Prop := s.ctxs[slot].state = .inService ∧ s.ctxs[slot].checkStep = .idle
          ∧ ∃ r, recordInUse s slot = some r ∧ (r.marker.isSome = true ∨ r.status.isSome = true)
        (due → t.ctxs[slot].checkTimer = none ∧ t.ctxs[slot].checkStep ≠ .idle ∧ t.ctxs[slot].state = .inService)
        ∧ (¬ due → t.ctxs[slot] = s.ctxs[slot])))

/-- COMPENSATION_FAILURE_REPORT: a slot IN_SERVICE enters FAULT_HOLD with UNREACHABLE and the failed origin
and outcome as detail, faults entered counted to at most 65535, the hold timer started with the fault hold
time of the active settings; in any other state the report is ignored. FAULT_HOLD_TIMER_EXPIRY: with a limit not 0
reached by the count the slot enters OUT_OF_SERVICE and keeps the count; otherwise the count rises to at most 15 and
the slot begins a probe for HOLD_EXPIRED. The clock moves to the expiry (log 3). -/
def Obligations.FaultHoldIsEnteredAndEnds : Prop :=
  (∀ (s : State) (r : FailureReport) (rest : List FailureReport), s.msgs.tmReports = r :: rest →
    (s.ctxs[r.slot].state = .inService → Gives .compensationFailureReport s (fun t =>
      t.ctxs[r.slot].state = .faultHold ∧ t.ctxs[r.slot].reason = .unreachable ∧ t.ctxs[r.slot].detail = .failed r.origin r.outcome
      ∧ t.ctxs[r.slot].faults = min 65535 (s.ctxs[r.slot].faults + 1)
      ∧ t.ctxs[r.slot].faultTimer = some (s.now + (activeSettings s).holdTime * 1000)
      ∧ t.ctxs[r.slot].checkTimer = none ∧ t.ctxs[r.slot].checkStep = .idle ∧ t.ctxs[r.slot].recovery = s.ctxs[r.slot].recovery
      ∧ SlotQuiet r.slot t ∧ t.msgs.ceInvalidate[r.slot] = true ∧ t.msgs.tmReports = rest
      ∧ OtherSlotsKept r.slot s t ∧ t.cs = s.cs ∧ t.ce = s.ce ∧ t.oc = s.oc ∧ t.mu = s.mu))
    ∧ (s.ctxs[r.slot].state ≠ .inService →
        exec .compensationFailureReport s = .next { s with msgs := { s.msgs with tmReports := rest } }))
  ∧ ∀ (derate : Bool) (s : State) (slot : Slot) (at' : Nat) (r : TargetRecord),
    s.ctxs[slot].faultTimer = some at' → activeRecord s slot = some r →
    let limit := (activeSettings s).recoveryLimit
    Gives (.faultHoldTimerExpiry slot derate) s (fun t =>
      (limit ≠ 0 → limit ≤ s.ctxs[slot].recovery →
        t.ctxs[slot].state = .outOfService ∧ t.ctxs[slot].reason = .recoveryExhausted
        ∧ t.ctxs[slot].recovery = s.ctxs[slot].recovery ∧ SlotQuiet slot t)
      ∧ (limit = 0 ∨ s.ctxs[slot].recovery < limit →
        Probed slot r .holdExpired t
        ∧ (r.identity.isSome = true → t.ctxs[slot].recovery = min 15 (s.ctxs[slot].recovery + 1)))
      ∧ t.now = max s.now at' ∧ OtherSlotsKept slot s t ∧ t.cs = s.cs ∧ t.mu = s.mu ∧ t.oc = s.oc)

/-- QUEUE_DEPARTURE takes one departure. With no step waiting for room nothing else happens. The steps waiting for room
are retried in ascending slot order until one finds the queue full (R83): the first one is placed where the queue has
room, an identity read, the step of a load at its cursor, or a marker or status read; with room for a step of every slot
every one is placed; in a full queue the first one goes on waiting and nothing else is touched; with one place left the
first is placed and the second goes on waiting. Here for slots whose step stands in the active record and image
(log 36), and for a PROFILE step with no invalidation of the slot outstanding (log 6). -/
def Obligations.DepartureRetriesWaitingSteps : Prop :=
  ∀ (derate : Bool) (s : State), s.msgs.departures ≠ 0 →
    let s' : State := { s with pins := { s.pins with derate := derate } }
    let firstWaiting (slot : Slot) : Prop := waitsForRoom s slot = true ∧ ∀ i : Slot, i < slot → waitsForRoom s i = false
    let kept (u : State) : Prop := u.msgs.departures = s.msgs.departures - 1 ∧ u.cs = s.cs ∧ u.mu = s.mu ∧ u.oc = s.oc
    ((∀ i : Slot, waitsForRoom s i = false) → exec (.queueDeparture derate) s =
      .next { s with pins := { s.pins with derate := derate }, msgs := { s.msgs with departures := s.msgs.departures - 1 } })
    ∧ (∀ (slot : Slot) (r : TargetRecord), firstWaiting slot → activeRecord s slot = some r →
      (s.bm.queue.length < 32 → Gives (.queueDeparture derate) s (fun u => StepResumed s' u slot r))
      ∧ (32 ≤ s.bm.queue.length → StepStands s slot r → Gives (.queueDeparture derate) s (fun u =>
          kept u ∧ u.bm = s.bm ∧ waitsForRoom u slot = true ∧ u.ctxs[slot].state = s.ctxs[slot].state
          ∧ u.ctxs[slot].cursor = s.ctxs[slot].cursor ∧ u.ctxs[slot].checkStep = s.ctxs[slot].checkStep
          ∧ OtherSlotsKept slot s u ∧ u.ce.shadows = s.ce.shadows)))
    ∧ (∀ (slot next : Slot) (r q : TargetRecord), s.bm.queue.length = 31 → firstWaiting slot → slot < next →
      waitsForRoom s next = true → (∀ i : Slot, slot < i → i < next → waitsForRoom s i = false) →
      activeRecord s slot = some r → activeRecord s next = some q → StepStands s slot r → StepStands s next q →
      Gives (.queueDeparture derate) s (fun u => kept u ∧ StepResumed s' u slot r ∧ u.bm.queue.length = 32
        ∧ waitsForRoom u next = true ∧ ∀ i : Slot, i ≠ slot → i ≠ next → u.ctxs[i] = s.ctxs[i]))
    ∧ (s.bm.queue.length + 8 ≤ 32 → Gives (.queueDeparture derate) s (fun u =>
      ∀ (slot : Slot) (r : TargetRecord), waitsForRoom s slot = true → activeRecord s slot = some r → StepResumed s' u slot r))

/-! ### The bus -/

/-- R107: a transfer is eligible when it is WAITING, its slot is NONE or has no quiet time left, and it is
MANUAL or the announced supply is NORMAL. -/
def Obligations.EligibleForGrant : Prop :=
  ∀ (s : State) (t : Transfer),
    eligible s t = true ↔
      t.onBus = false
      ∧ (t.slot = none ∨ ∃ slot : Slot, t.slot = some slot ∧
          (s.bm.quiet[slot] = none ∨ ∃ q, s.bm.quiet[slot] = some q ∧ q ≤ s.now))
      ∧ (t.cls = .manual ∨ s.bm.supply = .normal)

/-- R109, R110: a grant decision on an idle READY bus with an eligible transfer grants one; with the starvation
count at 8 and a COMPENSATE transfer eligible the oldest COMPENSATE, otherwise the oldest of the highest
class; the count then is 0, or one more and at most 8 when a COMPENSATE transfer was passed over. With
nothing eligible, or a busy or faulted bus, nothing changes. The count is 0 after reset. -/
def Obligations.GrantTakesHighestClassOldestOrStarved : Prop :=
  State.reset.bm.starvation = 0 ∧ ∀ s : State,
    ((busIdle s = false ∨ s.bm.cond = .fault ∨ ∀ x ∈ s.bm.queue, eligible s x = false) → grantDecision s = s)
    ∧ (busIdle s = true → s.bm.cond = .ready → (∃ x ∈ s.bm.queue, eligible s x = true) →
      ∃ g ∈ s.bm.queue, eligible s g = true
        ∧ (grantDecision s).bm.queue = s.bm.queue.map (fun x => if x.id = g.id then { x with onBus := true } else x)
        ∧ (8 ≤ s.bm.starvation → (∃ x ∈ s.bm.queue, eligible s x = true ∧ x.cls = .compensate) →
            g.cls = .compensate ∧ ∀ x ∈ s.bm.queue, eligible s x = true → x.cls = .compensate → g.age ≤ x.age)
        ∧ (s.bm.starvation < 8 ∨ (∀ x ∈ s.bm.queue, eligible s x = true → x.cls ≠ .compensate) →
            ∀ x ∈ s.bm.queue, eligible s x = true →
              g.cls.place < x.cls.place ∨ (g.cls = x.cls ∧ g.age ≤ x.age))
        ∧ (grantDecision s).bm.starvation =
            (if g.cls = .compensate then 0
             else if s.bm.queue.any (fun x => eligible s x && x.cls == .compensate) then min 8 (s.bm.starvation + 1) else 0))

/-- The reference value of a shadow is the waiting reference's value, else the on-bus reference's, else the written
value, and a shadow with none of them has none (R38). A grant: the CE's reference that names the transfer goes from
waiting to on-bus with its value, the transfer is ON_BUS, the speed of the active settings is taken, an owed STOP is
dropped, the starvation count moves (GrantTakesHighestClassOldestOrStarved says how), and nothing else changes.
TRANSACTION_END DONE of a pass's write that the on-bus reference names, not stale: the written value
becomes the value it carried, the on-bus reference is gone, a waiting one stays the reference value, and the
transfer has left the queue. -/
def Obligations.ReferenceFollowsItsTransfer : Prop :=
  (∀ sh : Shadow,
    (∀ w, sh.waiting = some w → sh.reference = some w.value)
    ∧ (∀ b, sh.waiting = none → sh.onBus = some b → sh.reference = some b.value)
    ∧ (∀ v, sh.waiting = none → sh.onBus = none → sh.written = some v → sh.reference = some v)
    ∧ (sh.waiting = none → sh.onBus = none → sh.written = none → sh.reference = none))
  ∧ (∀ (s : State) (t : Transfer) (id : ProfileId) (v : Nat),
    (t.origin = .profile id ∨ t.origin = .loadProfile id) → s.ce.shadows[id].waiting = some ⟨t.id, v⟩ →
    let u := grant t s
    u.ce.shadows[id] = { s.ce.shadows[id] with waiting := none, onBus := some ⟨t.id, v⟩ }
    ∧ u.ce.shadows[id].reference = s.ce.shadows[id].reference
    ∧ (∀ j : ProfileId, j ≠ id → u.ce.shadows[j] = s.ce.shadows[j])
    ∧ u = { s with
        ce := { s.ce with shadows := u.ce.shadows }
        bm := { s.bm with
          queue := s.bm.queue.map (fun x => if x.id = t.id then { x with onBus := true } else x)
          starvation := u.bm.starvation
          speed := (activeSettings s).speed
          owedStop := false } })
  ∧ ∀ (derate : Bool) (acks : List Bool) (data : List Byte) (s : State) (t : Transfer) (slot : Slot) (id : ProfileId) (v : Nat),
    OneOnBus s → onBusTransfer s = some t → s.bm.recovering = false → t.slot = some slot → t.origin = .profile id →
    t.dir = .write → t.stale = false → s.ce.shadows[id].onBus = some ⟨t.id, v⟩ → (∀ n, n < t.data.length + 2 → acks[n]? = some true) →
    (∀ w, s.ce.shadows[id].waiting = some w → w.id ≠ t.id) →
    Gives (.transactionEnd (.complete acks data) derate) s (fun u =>
      u.ce.shadows[id].written = some v
      ∧ (s.ce.shadows[id].waiting = none → u.ce.shadows[id].onBus = none ∧ u.ce.shadows[id].reference = some v)
      ∧ (∀ w, s.ce.shadows[id].waiting = some w → u.ce.shadows[id].reference = some w.value)
      ∧ (∀ x ∈ u.bm.queue, x.id ≠ t.id) ∧ u.msgs.departures = s.msgs.departures + 1
      ∧ u.ctxs = s.ctxs ∧ u.hl = s.hl ∧ u.nu = s.nu ∧ u.cs = s.cs)

/-- TRANSACTION_END with a refusal or a timeout of an automatic transfer that is not stale. Within its retry limit the
attempt is counted and the transfer stays queued with its age, unless it is a pass's write or latch whose profile or
slot already has a waiting one, which then stands in its place (R51). Beyond the limit it has failed and left the
queue: a pass's write leaves its shadow without written value, references and DEFERRED, its waiting write has left
too, and the CE reports the failure; a latch leaves its slot without latch references, and the CE reports it (R50); an
awaited probe, load or check step takes the slot to FAULT_HOLD with UNREACHABLE, its origin and outcome as detail
(R84, R97). A TIMEOUT owes a STOP as long as no grant follows (R115). -/
def Obligations.FailedAttemptIsRetriedThenFails : Prop :=
  ∀ (derate : Bool) (resp : BusResponse) (s : State) (t : Transfer) (slot : Slot) (r : TargetRecord),
    OneOnBus s → onBusTransfer s = some t → s.bm.recovering = false → t.slot = some slot → activeRecord s slot = some r →
    t.automatic = true → t.stale = false → transactionOutcome t resp ≠ .done → transactionOutcome t resp ≠ .busStuck →
    let out := transactionOutcome t resp
    let l := s.ce.latches[slot]
    (t.attempts + 1 ≤ r.retryLimit →
      Gives (.transactionEnd resp derate) s (fun u =>
        u.ctxs = s.ctxs ∧ u.hl = s.hl ∧ u.nu = s.nu ∧ u.cs = s.cs
        ∧ ((∀ id, t.origin = .profile id → s.ce.shadows[id].waiting = none) → (t.origin = .latch → l.waiting = none) →
            ∃ x ∈ u.bm.queue, x.id = t.id ∧ x.age = t.age ∧ x.attempts = t.attempts + 1 ∧ x.origin = t.origin ∧ x.data = t.data)
        ∧ (∀ id w b, t.origin = .profile id → s.ce.shadows[id].waiting = some w → s.ce.shadows[id].onBus = some b → b.id = t.id →
            (∀ x ∈ u.bm.queue, x.id ≠ t.id) ∧ u.ce.shadows[id].reference = some w.value)
        ∧ (t.origin = .latch → l.onBus = some t.id →
            (l.waiting = none → u.ce.latches[slot] = ⟨l.deferred, some t.id, none⟩ ∨ u.ce.latches[slot] = ⟨l.deferred, none, some t.id⟩)
            ∧ (∀ w, l.waiting = some w → w ≠ t.id → (∀ x ∈ u.bm.queue, x.id ≠ t.id)
                ∧ (u.ce.latches[slot] = ⟨l.deferred, some w, none⟩ ∨ u.ce.latches[slot] = ⟨l.deferred, none, some w⟩)))
        ∧ (out = .timeout → (∀ x ∈ u.bm.queue, x.onBus = false) → u.bm.owedStop = true)))
    ∧ (r.retryLimit < t.attempts + 1 →
      Gives (.transactionEnd resp derate) s (fun u =>
        (∀ x ∈ u.bm.queue, x.id ≠ t.id) ∧ u.cs = s.cs ∧ u.mu = s.mu ∧ u.oc = s.oc
        ∧ (∀ id b, t.origin = .profile id → s.ce.shadows[id].onBus = some b → b.id = t.id →
            u.ce.shadows[id] = { s.ce.shadows[id] with written := none, waiting := none, onBus := none, deferred := false }
            ∧ (∀ w, s.ce.shadows[id].waiting = some w → ∀ x ∈ u.bm.queue, x.id ≠ w.id)
            ∧ u.msgs.tmReports = s.msgs.tmReports ++ [⟨slot, t.origin, out⟩] ∧ u.ctxs = s.ctxs)
        ∧ (t.origin = .latch → l.onBus = some t.id → u.ce.latches[slot] = ⟨l.deferred, none, none⟩
            ∧ (∀ w, l.waiting = some w → ∀ x ∈ u.bm.queue, x.id ≠ w)
            ∧ u.msgs.tmReports = s.msgs.tmReports ++ [⟨slot, t.origin, out⟩] ∧ u.ctxs = s.ctxs)
        ∧ (t.cls = .restore ∨ t.cls = .check → s.ctxs[slot].awaited = some t.id → s.ctxs[slot].staleHold ≠ some t.id →
            u.ctxs[slot].state = .faultHold ∧ u.ctxs[slot].reason = .unreachable ∧ u.ctxs[slot].detail = .failed t.origin out
            ∧ u.ctxs[slot].faults = min 65535 (s.ctxs[slot].faults + 1)
            ∧ u.ctxs[slot].faultTimer = some (s.now + (activeSettings s).holdTime * 1000)
            ∧ u.ctxs[slot].awaited = none ∧ u.ctxs[slot].checkStep = .idle ∧ SlotQuiet slot u ∧ u.msgs.ceInvalidate[slot] = true
            ∧ OtherSlotsKept slot s u)
        ∧ (out = .timeout → (∀ x ∈ u.bm.queue, x.onBus = false) → u.bm.owedStop = true)))

/-- TRANSACTION_END DONE of the identity read, compared under the mask with the identity check the read was placed for
(R86, R87), here with no invalidation of the slot outstanding (log 6): a byte that matches sends the slot on to its load, whose
steps are counted at this moment and whose first one is placed, or completes a load without steps; one that differs
sends it to MISMATCH with the byte as detail. -/
def Obligations.IdentityReadDecidesProbe : Prop :=
  ∀ (derate : Bool) (acks : List Bool) (b : Byte) (s : State) (t : Transfer) (slot : Slot) (r : TargetRecord) (c : IdentityCheck),
    OneOnBus s → QueueBounded s → onBusTransfer s = some t → s.bm.recovering = false → t.slot = some slot → t.origin = .identity →
    t.dir = .read → t.readLen = 1 → t.stale = false → activeRecord s slot = some r → s.ctxs[slot].probe = some c →
    s.ctxs[slot].state = .probing → s.ctxs[slot].awaited = some t.id → s.ctxs[slot].staleHold = none →
    s.msgs.ceInvalidate[slot] = false → (∀ n, n < 3 → acks[n]? = some true) →
    Gives (.transactionEnd (.complete acks [b]) derate) s (fun u =>
      (b &&& c.mask = c.expected &&& c.mask →
        ((u.ctxs[slot].state = .loading ∧ u.ctxs[slot].reason = .probed) ∨ (u.ctxs[slot].state = .inService ∧ u.ctxs[slot].reason = .loaded))
        ∧ ∃ n : Ctx, LoadCounted s slot r n ∧ LoadFromImage { s with pins := { s.pins with derate := derate } } u slot r n 0
          ∧ (u.ctxs[slot].state = .loading → u.ctxs[slot].imageCount = n.imageCount ∧ u.ctxs[slot].profileList = n.profileList
              ∧ u.ctxs[slot].latchStep = n.latchStep ∧ u.ctxs[slot].markerStep = n.markerStep))
      ∧ (b &&& c.mask ≠ c.expected &&& c.mask →
        u.ctxs[slot].state = .mismatch ∧ u.ctxs[slot].reason = .identityMismatch ∧ u.ctxs[slot].detail = .byteRead b
        ∧ u.ctxs[slot].faults = s.ctxs[slot].faults ∧ u.ctxs[slot].recovery = s.ctxs[slot].recovery ∧ SlotQuiet slot u)
      ∧ OtherSlotsKept slot s u ∧ (∀ x ∈ u.bm.queue, x.id ≠ t.id) ∧ u.cs = s.cs)

/-- TRANSACTION_END DONE of the awaited step of a load, not stale: the cursor moves to the next counted step and that
step is placed, with profile steps no longer in use skipped, or the load completes (R88 to R92; here with no
invalidation of the slot outstanding, log 6, and for a record and image that hold the counted entries, log 36); the
transfer's post-write delay starts the quiet time (R112); the written value of a profile step is what it carried.
PROFILE_ACTIVATION that withdraws the awaited PROFILE step (R85): a waiting one leaves the queue and the load goes on
behind it; one on the bus is stale and stands as the stale hold, and nothing is placed (where it was the last step, the
load completes, and the entry into IN_SERVICE purges waiting raw writes to the slot's address, R68). -/
def Obligations.LoadStepsFollowTheCount : Prop :=
  (∀ (derate : Bool) (acks : List Bool) (data : List Byte) (s : State) (t : Transfer) (slot : Slot) (r : TargetRecord),
    OneOnBus s → QueueBounded s → onBusTransfer s = some t → s.bm.recovering = false → t.slot = some slot → t.cls = .restore →
    t.origin ≠ .identity → t.dir = .write → t.stale = false → activeRecord s slot = some r → s.ctxs[slot].state = .loading →
    s.ctxs[slot].awaited = some t.id → s.ctxs[slot].staleHold = none → s.msgs.ceInvalidate[slot] = false →
    (∀ n, n < t.data.length + 2 → acks[n]? = some true) →
    let c := s.ctxs[slot]
    let s' : State := { s with pins := { s.pins with derate := derate } }
    Gives (.transactionEnd (.complete acks data) derate) s (fun u =>
      (∀ i, c.cursor = .image i → LoadFromImage s' u slot r c (i + 1))
      ∧ (∀ i, c.cursor = .profile i → (∀ id, t.origin = .loadProfile id → id ∉ c.profileList.drop (i + 1)) →
          LoadFromProfile s' u slot r c (i + 1))
      ∧ (c.cursor = .latch → LoadFromMarker s' u slot r c)
      ∧ (c.cursor = .marker → LoadCompleted s' u slot r)
      ∧ u.bm.quiet[slot] = (if t.delay = 0 then s.bm.quiet[slot] else some (s.now + t.delay))
      ∧ (∀ id b, t.origin = .loadProfile id → s.ce.shadows[id].onBus = some b → b.id = t.id → u.ce.shadows[id].written = some b.value)
      ∧ (∀ x ∈ u.bm.queue, x.id ≠ t.id) ∧ OtherSlotsKept slot s u ∧ u.cs = s.cs))
  ∧ ∀ (derate : Bool) (s : State) (ch : ProfileChange) (rest : List ProfileChange) (slot : Slot) (r : TargetRecord) (i : Nat)
      (w : Ref) (x : Transfer),
    OneOnBus s → QueueBounded s → s.msgs.ceProfile = ch :: rest →
    (∀ b a, ch.before = some b → ch.after = some a →
      b.header.slot ≠ a.header.slot ∨ b.header.param ≠ a.header.param ∨ b.header.width ≠ a.header.width
        ∨ b.header.order ≠ a.header.order) →
    x ∈ s.bm.queue → x.id = w.id → x.origin = .loadProfile ch.id → x.slot = some slot → activeRecord s slot = some r →
    s.ctxs[slot].state = .loading → s.ctxs[slot].cursor = .profile i → s.ctxs[slot].awaited = some x.id →
    s.ctxs[slot].staleHold = none → s.msgs.ceInvalidate[slot] = false →
    ch.id ∉ s.ctxs[slot].profileList.drop (i + 1) →
    (x.onBus = false → s.ce.shadows[ch.id].waiting = some w → s.ce.shadows[ch.id].onBus = none →
      Gives (.profileActivation derate) s (fun u =>
        LoadFromProfile { s with pins := { s.pins with derate := derate } } u slot r s.ctxs[slot] (i + 1)
        ∧ (∀ y ∈ u.bm.queue, y.id ≠ w.id) ∧ OtherSlotsKept slot s u ∧ u.cs = s.cs))
    ∧ (x.onBus = true → s.ce.shadows[ch.id].onBus = some w → s.ce.shadows[ch.id].waiting = none →
      Gives (.profileActivation derate) s (fun u =>
        u.ctxs[slot].staleHold = some w.id ∧ u.ctxs[slot].awaited = none
        ∧ (∃ y ∈ u.bm.queue, y.id = w.id ∧ y.stale = true ∧ y.onBus = true) ∧ u.bm.nextId = s.bm.nextId
        ∧ (∀ y ∈ u.bm.queue, ∃ x ∈ s.bm.queue, y = { x with stale := y.stale })
        ∧ ((∀ y ∈ s.bm.queue, waitingRawWrite r.addr y = false) → u.bm.queue.length = s.bm.queue.length)
        ∧ OtherSlotsKept slot s u ∧ u.cs = s.cs))

/-- TRANSACTION_END DONE of an awaited check read, not stale (R95, R96). A marker read that equals the marker of the
record goes on to the status read, which is placed, or without a status check completes clean; one that differs counts
a state loss and begins a probe for STATE_LOST with the byte as detail and a WARN notice. A status read without a bit
of the fault mask completes clean; one with such a bit takes the slot to FAULT_HOLD with TARGET_FAULT and the byte
unmasked. Clean: no check in progress, the check timer with the check period of the record. -/
def Obligations.CheckReadsDecideOnMarkerAndStatus : Prop :=
  ∀ (derate : Bool) (acks : List Bool) (b : Byte) (s : State) (t : Transfer) (slot : Slot) (r : TargetRecord),
    OneOnBus s → QueueBounded s → onBusTransfer s = some t → s.bm.recovering = false → t.slot = some slot → t.dir = .read →
    t.readLen = 1 → t.stale = false → activeRecord s slot = some r → s.ctxs[slot].state = .inService →
    s.ctxs[slot].awaited = some t.id → s.ctxs[slot].staleHold = none → (∀ n, n < 3 → acks[n]? = some true) →
    let c := s.ctxs[slot]
    let clean (u : State) : Prop := u.ctxs[slot] = { c with
      awaited := none
      checkStep := .idle
      checkTimer := if r.checkPeriod = 0 then none else some (s.now + r.checkPeriod * 100) }
    Gives (.transactionEnd (.complete acks [b]) derate) s (fun u =>
      (∀ m, t.origin = .checkMarker → r.marker = some m →
        (∀ k, b = m.value → r.status = some k → u.ctxs[slot].state = .inService ∧ u.ctxs[slot].checkStep = .status
          ∧ Placed u slot .checkStatus .read r.addr k.reg [] 1 0 ∧ u.ctxs[slot].checkTimer = c.checkTimer)
        ∧ (b = m.value → r.status = none → clean u)
        ∧ (b ≠ m.value → Probed slot r .stateLost u ∧ u.ctxs[slot].losses = min 65535 (c.losses + 1)
          ∧ u.ctxs[slot].recovery = c.recovery ∧ u.ctxs[slot].faults = c.faults
          ∧ (r.identity.isSome = true → u.ctxs[slot].detail = .byteRead b ∧ u.msgs.ceInvalidate[slot] = true)
          ∧ ∃ later, u.msgs.notices = s.msgs.notices ++ (⟨.warn, .target slot .inService .probing .stateLost (.byteRead b) r.addr
              c.recovery c.loads (min 65535 (c.losses + 1)) c.faults⟩ :: later)))
      ∧ (∀ k, t.origin = .checkStatus → r.status = some k →
        (b &&& k.mask = 0 → clean u)
        ∧ (b &&& k.mask ≠ 0 → u.ctxs[slot].state = .faultHold ∧ u.ctxs[slot].reason = .targetFault
          ∧ u.ctxs[slot].detail = .byteRead b ∧ u.ctxs[slot].faults = min 65535 (c.faults + 1)
          ∧ u.ctxs[slot].faultTimer = some (s.now + (activeSettings s).holdTime * 1000) ∧ SlotQuiet slot u))
      ∧ OtherSlotsKept slot s u ∧ (∀ x ∈ u.bm.queue, x.id ≠ t.id) ∧ u.cs = s.cs)

/-- The end of a stale transfer of a slot (R69, R123): whatever its outcome it is not retried and leaves the queue; it
starts no quiet time, reports no failure, and outside a load changes no written value. Where it is the slot's stale
hold, the hold is released and the step that waited is placed: the identity read, the IMAGE step at the cursor, or
the check read; a slot with no step waiting only loses its hold. Any other stale outcome changes no context. At the
end of a recovery sequence of a READY bus a stale transfer leaves the queue too. -/
def Obligations.StaleOutcomesReleaseTheHold : Prop :=
  (∀ (derate : Bool) (resp : BusResponse) (s : State) (t : Transfer) (slot : Slot),
    OneOnBus s → QueueBounded s → onBusTransfer s = some t → s.bm.recovering = false → t.slot = some slot → t.automatic = true →
    t.stale = true → transactionOutcome t resp ≠ .busStuck →
    let c := s.ctxs[slot]
    Gives (.transactionEnd resp derate) s (fun u =>
      (∀ x ∈ u.bm.queue, x.id ≠ t.id) ∧ u.bm.quiet = s.bm.quiet ∧ u.msgs.tmReports = s.msgs.tmReports
      ∧ OtherSlotsKept slot s u ∧ u.cs = s.cs
      ∧ (c.state ≠ .loading → ∀ id : ProfileId, u.ce.shadows[id].written = s.ce.shadows[id].written)
      ∧ (c.staleHold ≠ some t.id ∨ t.cls = .compensate → u.ctxs = s.ctxs)
      ∧ (c.staleHold = some t.id → t.cls = .restore ∨ t.cls = .check → u.ctxs[slot].staleHold = none
        ∧ (c.awaited.isSome = true ∨ (c.state ≠ .probing ∧ c.state ≠ .loading ∧ (c.state = .inService → c.checkStep = .idle)) →
            u.ctxs[slot] = { c with staleHold := none })
        ∧ (∀ r, c.awaited = none → activeRecord s slot = some r →
          (∀ k, c.state = .probing → r.identity = some k →
            u.ctxs[slot].state = .probing ∧ Placed u slot .identity .read r.addr k.reg [] 1 0)
          ∧ (∀ k e, c.state = .loading → c.cursor = .image k → (activeImage s slot).bind (fun es => es[k]?) = some e →
            u.ctxs[slot].state = .loading ∧ u.ctxs[slot].cursor = .image k
            ∧ Placed u slot (.image k) .write r.addr e.reg (match e.width with
                | .byte => [byteOf e.value]
                | .word => be16 e.value) 0 e.delay)
          ∧ (∀ m, c.state = .inService → c.checkStep = .marker → r.marker = some m →
            Placed u slot .checkMarker .read r.addr m.reg [] 1 0)
          ∧ (∀ k, c.state = .inService → c.checkStep = .status → r.status = some k →
            Placed u slot .checkStatus .read r.addr k.reg [] 1 0)))))
  ∧ ∀ (derate : Bool) (run : RecoveryRun) (s : State) (t : Transfer),
    OneOnBus s → onBusTransfer s = some t → s.bm.recovering = true → s.bm.cond = .ready → t.automatic = true → t.stale = true →
    Gives (.recoverySequenceEnd run derate) s (fun u => (∀ x ∈ u.bm.queue, x.id ≠ t.id) ∧ u.cs = s.cs ∧ u.mu = s.mu)

/-- TRANSACTION_END of a MANUAL transfer with a pending entry: its request is answered, OK with the bytes read
or the data count, or TRANSFER_FAILED with the bus outcome at the first failure, and its entry has left the
table; no target context and no shadow value changes. A byte the target does not drive reads FFh (log 21, DESIGN
CHOICE). Here with room in the reply queue; without room the reply waits in its entry (R179, R180). -/
def Obligations.ManualTransferEndAnswersRequest : Prop :=
  ∀ (derate : Bool) (resp : BusResponse) (s : State) (t : Transfer) (tag : Byte) (e : PendingEntry),
    OneOnBus s → TagsDiffer s → EndedWaitForRoom s → onBusTransfer s = some t → s.bm.recovering = false → t.origin = .request tag →
    e ∈ s.hl.pend → e.op = .transfer t.id → (∀ e' ∈ s.hl.pend, e'.op = .transfer t.id → e' = e) → s.hl.replies.length < 4 →
    transactionOutcome t resp ≠ .busStuck →
    let out := transactionOutcome t resp
    let data : List Byte := match resp with
      | .complete _ d => d
      | _ => []
    let head : List Byte := [slotCode t.slot, t.addr, t.reg]
    let payload : List Byte :=
      if out = .done then (match t.dir with
        | .read => 0x20 :: 0x00 :: (head ++ byteOf t.readLen :: (List.range t.readLen).map (fun i => data.getD i 0xFF))
        | .write => 0x21 :: 0x00 :: (head ++ [byteOf t.data.length]))
      else (match t.dir with
        | .read => 0x20
        | .write => 0x21) :: 0x0D :: (head ++ [out.code])
    Gives (.transactionEnd resp derate) s (fun u =>
      ReplyGiven e.tag payload false u ∧ (∀ e' ∈ u.hl.pend, e'.tag ≠ e.tag) ∧ (∀ x ∈ u.bm.queue, x.id ≠ t.id)
      ∧ u.ctxs = s.ctxs ∧ u.cs = s.cs ∧ (∀ id : ProfileId, u.ce.shadows[id].written = s.ce.shadows[id].written
          ∧ u.ce.shadows[id].reference = s.ce.shadows[id].reference))

/-- A stuck bus. TRANSACTION_END with SDA low before a START counts no attempt, leaves the transfer on the bus and begins
a recovery sequence at the speed of the active settings; before a READ's repeated START its START, address and register
stand on the wire (log 21). RECOVERY_SEQUENCE_END of a READY bus: with the line released a transfer that is not stale
and is no pass's write or latch stays queued without an attempt counted; with the line not released the bus enters
FAULT with 1 attempt and the timer at 1 s, a BUS notice (FAULT) is handed over, no MANUAL transfer is left waiting, and
an automatic transfer that is not stale stays. A stale one leaves, delivered stale, before the MANUAL transfers are
answered: where the load that waited for it completes, the raw writes its entry into IN_SERVICE purges are not counted in
the notice (R68, R121). A pass's write or latch returns in both cases with its reference, age and
attempts (R51), unless its profile or slot already has a waiting one, which then stands in its place, without outcome or
report (at the entry into FAULT this is log 41, DEDUCED). In FAULT: RECOVERY_TIMER_EXPIRY begins a
counted recovery sequence, the clock at the expiry (log 3); its end with the line released makes the bus READY, stops
the timer and hands over a BUS notice (INFO, its seconds log 23); with the line not released the timer restarts with
1 s. A sequence shows its pulses (log 29), and a STOP where it released the line. -/
def Obligations.RecoveryReleasesRetriesOrFaults : Prop :=
  (∀ (derate repeated : Bool) (s : State) (t : Transfer), onBusTransfer s = some t → s.bm.recovering = false →
    exec (.transactionEnd (.lineStuck repeated) derate) s = .next { s with
      pins := { s.pins with derate := derate }
      bm := { s.bm with
        recovering := true
        speed := (activeSettings s).speed
        owedStop := false
        wire := if repeated = true ∧ t.dir = .read then [.startCond, .sent (t.addr <<< 1) true, .sent t.reg true] else [] } })
  ∧ (∀ (s : State) (at' : Nat), s.bm.cond = .fault → s.bm.recoveryTimer = some at' → s.bm.recovering = false →
    exec .recoveryTimerExpiry s = .next { s with
      now := max s.now at'
      bm := { s.bm with
        recovering := true
        speed := (activeSettings s).speed
        owedStop := false
        recoveryTimer := none
        attempts := min 65535 (s.bm.attempts + 1) } })
  ∧ ∀ (derate : Bool) (run : RecoveryRun) (s : State), s.bm.recovering = true →
    let released : Prop := ∃ n, run = .sdaHighAfter n
    let shown : List WireItem := match run with
      | .sdaHighAfter n => List.replicate (n.val + 1) .pulse ++ [.stopCond]
      | .clockHeldAt n => List.replicate (n.val + 1) .pulse
      | .stillLow => List.replicate 9 .pulse
    (∀ t, OneOnBus s → s.bm.cond = .ready → onBusTransfer s = some t → t.stale = false →
      (∀ id, t.origin ≠ .profile id) → t.origin ≠ .latch →
      Gives (.recoverySequenceEnd run derate) s (fun u =>
        u.bm.recovering = false ∧ u.bm.wire = shown ∧ u.cs = s.cs ∧ u.ctxs = s.ctxs
        ∧ (released → u.bm.cond = .ready ∧ u.hl = s.hl ∧ u.msgs = s.msgs
            ∧ ∃ x ∈ u.bm.queue, x.id = t.id ∧ x.age = t.age ∧ x.attempts = t.attempts)
        ∧ (¬ released →
            u.bm.cond = .fault ∧ u.bm.attempts = 1 ∧ u.bm.recoveryTimer = some (s.now + 1000) ∧ u.bm.faultSince = some s.now
            ∧ (∀ x ∈ u.bm.queue, x.cls ≠ .manual)
            ∧ (t.automatic = true → ∃ x ∈ u.bm.queue, x.id = t.id ∧ x.age = t.age ∧ x.attempts = t.attempts ∧ x.onBus = false)
            ∧ u.msgs.notices = s.msgs.notices ++ [⟨.fault, .busFault 1 t.cls t.slot t.addr
                (s.bm.queue.filter (fun x => x.cls == .manual)).length⟩])))
    ∧ (∀ t slot r, OneOnBus s → s.bm.cond = .ready → onBusTransfer s = some t → t.stale = true → t.automatic = true →
      t.slot = some slot → activeRecord s slot = some r → ¬ released →
      let manuals := s.bm.queue.filter (fun x => x.cls == .manual)
      let raw := s.bm.queue.filter (waitingRawWrite r.addr)
      Gives (.recoverySequenceEnd run derate) s (fun u =>
        u.bm.cond = .fault ∧ u.bm.attempts = 1 ∧ u.bm.recoveryTimer = some (s.now + 1000) ∧ u.bm.faultSince = some s.now
        ∧ (∀ x ∈ u.bm.queue, x.cls ≠ .manual ∧ x.id ≠ t.id)
        ∧ ∃ entries n, u.msgs.notices = s.msgs.notices ++ entries ++ [⟨.fault, .busFault 1 t.cls t.slot t.addr n⟩]
          ∧ (u.ctxs[slot].state = s.ctxs[slot].state → n = manuals.length)
          ∧ (u.ctxs[slot].state ≠ s.ctxs[slot].state → u.ctxs[slot].state = .inService ∧ n + raw.length = manuals.length)))
    ∧ (∀ t id b, OneOnBus s → s.bm.cond = .ready → onBusTransfer s = some t → t.stale = false → t.origin = .profile id →
      s.ce.shadows[id].onBus = some b → b.id = t.id → (∀ w, s.ce.shadows[id].waiting = some w → w.id ≠ t.id) →
      let old := s.ce.shadows[id]
      Gives (.recoverySequenceEnd run derate) s (fun u =>
        (old.waiting = none → u.ce.shadows[id].reference = some b.value
          ∧ ∃ x ∈ u.bm.queue, x.id = t.id ∧ x.age = t.age ∧ x.attempts = t.attempts ∧ x.data = t.data)
        ∧ (∀ w, old.waiting = some w → u.ce.shadows[id].reference = some w.value ∧ ∀ x ∈ u.bm.queue, x.id ≠ t.id)
        ∧ (¬ released → u.bm.cond = .fault
            ∧ u.ce.shadows[id] = { old with onBus := none, waiting := some (old.waiting.getD b) })
        ∧ u.ce.shadows[id].written = old.written ∧ u.msgs.tmReports = s.msgs.tmReports ∧ u.ctxs = s.ctxs ∧ u.cs = s.cs))
    ∧ (∀ t slot, OneOnBus s → s.bm.cond = .ready → onBusTransfer s = some t → t.stale = false → t.origin = .latch →
      t.slot = some slot → s.ce.latches[slot].onBus = some t.id → s.ce.latches[slot].waiting ≠ some t.id →
      let old := s.ce.latches[slot]
      let back : LatchState := ⟨old.deferred, some (old.waiting.getD t.id), none⟩
      Gives (.recoverySequenceEnd run derate) s (fun u =>
        (old.waiting = none → ∃ x ∈ u.bm.queue, x.id = t.id ∧ x.age = t.age ∧ x.attempts = t.attempts ∧ x.data = t.data)
        ∧ (old.waiting.isSome = true → ∀ x ∈ u.bm.queue, x.id ≠ t.id)
        ∧ (u.ce.latches[slot] = back ∨ (released ∧ u.ce.latches[slot] = ⟨old.deferred, none, back.waiting⟩))
        ∧ (¬ released → u.bm.cond = .fault)
        ∧ u.msgs.tmReports = s.msgs.tmReports ∧ u.ctxs = s.ctxs ∧ u.cs = s.cs))
    ∧ (s.bm.cond = .fault → released → Gives (.recoverySequenceEnd run derate) s (fun u =>
        u.bm.cond = .ready ∧ u.bm.recovering = false ∧ u.bm.recoveryTimer = none ∧ u.bm.wire = shown
        ∧ (∀ since, s.bm.faultSince = some since →
            u.msgs.notices = s.msgs.notices ++ [⟨.info, .busReady s.bm.attempts ((s.now - since) / 1000)⟩])
        ∧ u.bm.faultSince = none
        ∧ u.ctxs = s.ctxs ∧ u.hl = s.hl ∧ u.cs = s.cs ∧ u.bm.queue.length = s.bm.queue.length))
    ∧ (s.bm.cond = .fault → ¬ released → exec (.recoverySequenceEnd run derate) s = .next { s with
        pins := { s.pins with derate := derate }
        bm := { s.bm with recovering := false, recoveryTimer := some (s.now + 1000), wire := shown } })

/-- Scheduled happenings, each with all it changes, the clock at the scheduled moment (log 3): CYCLE_START takes the period of the active settings and
schedules the next start after it; SUPPLY_CHANGE_AT_CE and SUPPLY_CHANGE_AT_BM take the announced condition, at
the BM with a grant decision at a change to NORMAL and none at a change to LOW; QUIET_TIME_END clears the slot's
quiet time and makes a grant decision; OWED_STOP issues the STOP a TIMEOUT owes, once, on the wire
record (log 29), and with none owed changes nothing (log 4); GAP_TIMER_EXPIRY drops the
frame in progress; EDIT_TIMER_EXPIRY closes the open session with an EDIT_EXPIRED notice (INFO). -/
def Obligations.ScheduledHappeningsChangeWhatTheyName : Prop :=
  ∀ s : State,
    (∀ at', s.mu.nextStart = some at' → s.mu.cycle = none → exec .cycleStart s = .next { s with
        now := max s.now at'
        mu := { s.mu with
          cycle := some ⟨at', (activeSettings s).period⟩
          nextStart := some (at' + (activeSettings s).period) } })
    ∧ (∀ c rest, s.msgs.ceMu = .supplyChange c :: rest → exec .supplyChangeAtCe s =
        .next { s with ce := { s.ce with supply := c }, msgs := { s.msgs with ceMu := rest } })
    ∧ (∀ rest, s.msgs.bmSupply = .low :: rest → exec .supplyChangeAtBm s =
        .next { s with bm := { s.bm with supply := .low }, msgs := { s.msgs with bmSupply := rest } })
    ∧ (∀ rest, s.msgs.bmSupply = .normal :: rest → exec .supplyChangeAtBm s = .next (grantDecision
        { s with bm := { s.bm with supply := .normal }, msgs := { s.msgs with bmSupply := rest } }))
    ∧ (∀ (slot : Slot) at', s.bm.quiet[slot] = some at' → exec (.quietTimeEnd slot) s = .next (grantDecision { s with
        now := max s.now at'
        bm := { s.bm with quiet := s.bm.quiet.set slot none } }))
    ∧ (s.bm.owedStop = true → exec .owedStop s = .next { s with
        bm := { s.bm with owedStop := false, wire := s.bm.wire ++ [.stopCond] } })
    ∧ (s.bm.owedStop = false → exec .owedStop s = .next s)
    ∧ (∀ at', s.hl.gap = some at' → exec .gapTimerExpiry s = .next { s with
        now := max s.now at'
        hl := { s.hl with rx := .hunt, gap := none } })
    ∧ (∀ at' b, s.cs.editTimer = some at' → s.cs.buffer = some b → s.cs.session = .opened →
        exec .editTimerExpiry s = .next { s with
          now := max s.now at'
          cs := { s.cs with session := .closed, buffer := none, editTimer := none }
          msgs := { s.msgs with notices := s.msgs.notices ++ [⟨.info, .editExpired b.obj b.isNew b.removal⟩] } })

/-- A WRITE sends START, the address byte with direction 0, the register, the data in order and STOP, up to and
including the first byte refused; its outcome is NACK_ADDRESS for the first byte and NACK_DATA for any other
(R113). A READ sends START, address with direction 0, register, a repeated START and the address with direction 1, then
takes its bytes, each acknowledged but the last, and sends STOP; a refused byte ends it with STOP, NACK_ADDRESS for
either address byte and NACK_DATA for the register (R114). A byte the target does not drive reads FFh (log 21). A clock
held low is a TIMEOUT, whatever was refused before it (log 43): the lines show no STOP and a first part of the transaction (R115; its length is the model's
form, log 21). SDA low before a START is BUS_STUCK. -/
def Obligations.TransactionsOnTheWire : Prop :=
  (∀ (t : Transfer) (acks : List Bool) (data : List Byte), t.dir = .write →
    let bytes := (t.addr <<< 1) :: t.reg :: t.data
    ((∀ n, n < bytes.length → acks[n]? = some true) →
      transactionOutcome t (.complete acks data) = .done
      ∧ transactionWire t (.complete acks data) = .startCond :: (bytes.map (fun b => .sent b true) ++ [.stopCond]))
    ∧ (∀ k b before after, bytes = before ++ b :: after → before.length = k → (∀ n, n < k → acks[n]? = some true) →
        acks[k]? = some false →
        transactionOutcome t (.complete acks data) = (if k = 0 then .nackAddress else .nackData)
        ∧ transactionWire t (.complete acks data) = .startCond :: (before.map (fun b => .sent b true) ++ [.sent b false, .stopCond])))
  ∧ (∀ (t : Transfer) (acks : List Bool) (data : List Byte), t.dir = .read →
    let toWrite := t.addr <<< 1
    let toRead := (t.addr <<< 1) ||| 1
    let shows (out : BusOutcome) (w : List WireItem) : Prop :=
      transactionOutcome t (.complete acks data) = out ∧ transactionWire t (.complete acks data) = w
    (∀ n, t.readLen = n + 1 → acks[0]? = some true → acks[1]? = some true → acks[2]? = some true →
      shows .done ([.startCond, .sent toWrite true, .sent t.reg true, .startCond, .sent toRead true]
        ++ (List.range n).map (fun i => .received (data.getD i 0xFF) true) ++ [.received (data.getD n 0xFF) false, .stopCond]))
    ∧ (acks[0]? = some false → shows .nackAddress [.startCond, .sent toWrite false, .stopCond])
    ∧ (acks[0]? = some true → acks[1]? = some false →
      shows .nackData [.startCond, .sent toWrite true, .sent t.reg false, .stopCond])
    ∧ (acks[0]? = some true → acks[1]? = some true → acks[2]? = some false →
      shows .nackAddress [.startCond, .sent toWrite true, .sent t.reg true, .startCond, .sent toRead false, .stopCond]))
  ∧ ∀ (t : Transfer) (n : Nat) (acks : List Bool) (data : List Byte) (repeated : Bool),
    transactionOutcome t (.clockHeld n acks data) = .timeout ∧ transactionOutcome t (.lineStuck repeated) = .busStuck
    ∧ transactionWire t (.clockHeld n acks data) <+: transactionWire t (.complete acks data)
    ∧ (transactionWire t (.clockHeld n acks data)).length = min n ((transactionWire t (.complete acks data)).length - 1)
    ∧ .stopCond ∉ transactionWire t (.clockHeld n acks data) ∧ .stopCond ∉ transactionWire t (.lineStuck repeated)

/-! ### Commits -/

/-- COMMIT_END with the verify succeeding: the programmed copy holds the buffer's content, or a tombstone,
under its generation and is active, the clock at the end of the programming time (log 3); the other copy keeps what it holds; SETTINGS become STORED; the session is
CLOSED without buffer and timer; the EDIT_COMMIT, pending beside whatever else is, is answered OK with kind, id, copy,
generation and whether it was a removal, or with 4 replies queued the reply waits in its entry (R180). No notice is appended. The activation is announced to the one block that uses the object, with
what it replaces: a profile to the CE, a record or an image to the TM, an image with whether its slot has a record; settings
change no announcement queue, since the five blocks that R159 names read the active settings where they next use them
(log 40). -/
def Obligations.VerifiedCommitActivatesCopy : Prop :=
  (∀ (s : State) (c : Commit) (b : EditBuffer), s.cs.commit = some c → s.cs.buffer = some b → b.obj = c.obj → b.fits = true →
    let payload : List Byte :=
      [0x37, 0x00, objKind c.obj, objIdByte c.obj, copyCode c.copy] ++ (be16 c.gen.toNat ++ [flagByte b.removal])
    Gives (.commitEnd true) s (fun t =>
      t.cs.store.copyAt c.obj c.copy = (if b.removal then .removed c.gen else .valid c.gen b.content.stored)
      ∧ (∀ obj n, (obj, n) ≠ (c.obj, c.copy) → t.cs.store.copyAt obj n = s.cs.store.copyAt obj n)
      ∧ (t.cs.dir.entry c.obj).active = some c.copy
      ∧ (t.cs.dir.entry c.obj).info c.copy = (if b.removal then .removed c.gen else .valid c.gen)
      ∧ (∀ obj, obj ≠ c.obj → t.cs.dir.entry obj = s.cs.dir.entry obj)
      ∧ t.cs.inEffect = (if c.obj = .settings then .stored else s.cs.inEffect)
      ∧ t.cs.session = .closed ∧ t.cs.buffer = none ∧ t.cs.editTimer = none ∧ t.cs.commit = none
      ∧ t.now = max s.now c.endTime ∧ t.msgs.notices = s.msgs.notices
      ∧ (∀ e ∈ s.hl.pend, e.op = .commit → (∀ x ∈ s.hl.pend, x.op = .commit → x = e) → (∀ x ∈ s.hl.pend, x.ended = none) →
          (s.hl.replies.length < 4 → ReplyGiven e.tag payload false t
            ∧ t.hl.pend = s.hl.pend.filter (fun x => x.tag != e.tag)
            ∧ ⟨e.tag, some e.code, e.digest, payload⟩ ∈ t.hl.cache)
          ∧ (4 ≤ s.hl.replies.length → t.hl.replies = s.hl.replies ∧ t.hl.cache = s.hl.cache
            ∧ t.hl.pend = s.hl.pend.map (fun x => if x.tag = e.tag then { x with ended := some (s.hl.endedCount, payload) } else x)))
      ∧ t.mu = s.mu ∧ t.ce = s.ce ∧ t.ctxs = s.ctxs ∧ t.bm = s.bm ∧ t.oc = s.oc))
  ∧ ∀ (s : State) (c : Commit) (b : EditBuffer), s.cs.commit = some c → s.cs.buffer = some b → b.obj = c.obj → b.fits = true →
    Gives (.commitEnd true) s (fun t =>
      (c.obj = .settings → t.msgs = s.msgs ∧ (b.removal = false → ∀ x, b.content = .settings x → activeSettings t = x))
      ∧ (∀ i, c.obj = .target i → t.msgs.ceProfile = s.msgs.ceProfile
          ∧ t.msgs.tmStore = s.msgs.tmStore ++ [.record i (activeRecord s i) (activeRecord t i)]
          ∧ (b.removal = true → activeRecord t i = none)
          ∧ (b.removal = false → ∀ r, b.content = .target r → activeRecord t i = some r))
      ∧ (∀ i, c.obj = .image i → t.msgs.ceProfile = s.msgs.ceProfile ∧ t.msgs.tmStore = s.msgs.tmStore ++ [.image i (activeRecord t i).isSome]
          ∧ (b.removal = false → ∀ n ps, b.content = .image n ps → activeImage t i = some (ps.take n)))
      ∧ (∀ i, c.obj = .profile i → t.msgs.tmStore = s.msgs.tmStore
          ∧ t.msgs.ceProfile = s.msgs.ceProfile ++ [⟨i, activeProfile s i, activeProfile t i⟩]
          ∧ (b.removal = true → activeProfile t i = none)
          ∧ (b.removal = false → ∀ h n ps, b.content = .profile h n ps → activeProfile t i = some ⟨h, ps.take n⟩)))

/-- COMMIT_END with the verify failing: the programmed copy is DAMAGED, every other copy and every active copy
stay, nothing is announced, the reply of the EDIT_COMMIT, pending beside whatever else is, is STORE_FAULT with kind, id,
copy and generation, or waits in its entry with 4 replies queued (R180); a STORE notice (FAULT)
with the state of both copies is handed over, and the session is OPEN again with its buffer and 30 s, counted from the
end of the programming time (log 3). A first commit of SETTINGS that fails leaves them FACTORY_DAMAGED (R142). -/
def Obligations.FailedCommitKeepsActiveCopy : Prop :=
  ∀ (s : State) (c : Commit) (b : EditBuffer), s.cs.commit = some c → s.cs.buffer = some b →
    let payload : List Byte := [0x37, 0x09, objKind c.obj, objIdByte c.obj, copyCode c.copy] ++ be16 c.gen.toNat
    Gives (.commitEnd false) s (fun t =>
      t.cs.store.copyAt c.obj c.copy = .damaged
      ∧ (∀ obj n, (obj, n) ≠ (c.obj, c.copy) → t.cs.store.copyAt obj n = s.cs.store.copyAt obj n)
      ∧ (∀ obj, (t.cs.dir.entry obj).active = (s.cs.dir.entry obj).active)
      ∧ (t.cs.dir.entry c.obj).info c.copy = .damaged
      ∧ t.cs.session = .opened ∧ t.cs.buffer = some b ∧ t.cs.commit = none ∧ t.cs.editTimer = some (max s.now c.endTime + 30000)
      ∧ (c.obj ≠ .settings → t.cs.inEffect = s.cs.inEffect)
      ∧ (c.obj = .settings → s.cs.dir.settings.active = none → t.cs.inEffect = .factoryDamaged)
      ∧ (∀ n g, c.obj = .settings → s.cs.dir.settings.active = some n → n ≠ c.copy → s.cs.dir.settings.info n = .valid g →
          t.cs.inEffect = .stored)
      ∧ t.msgs = { s.msgs with notices := s.msgs.notices
          ++ [⟨.fault, .storeCommit c.obj c.copy c.gen (t.cs.dir.entry c.obj).a (t.cs.dir.entry c.obj).b⟩] }
      ∧ (∀ e ∈ s.hl.pend, e.op = .commit → (∀ x ∈ s.hl.pend, x.op = .commit → x = e) → (∀ x ∈ s.hl.pend, x.ended = none) →
          (s.hl.replies.length < 4 → ReplyGiven e.tag payload false t
            ∧ t.hl.pend = s.hl.pend.filter (fun x => x.tag != e.tag)
            ∧ ⟨e.tag, some e.code, e.digest, payload⟩ ∈ t.hl.cache)
          ∧ (4 ≤ s.hl.replies.length → t.hl.replies = s.hl.replies ∧ t.hl.cache = s.hl.cache
            ∧ t.hl.pend = s.hl.pend.map (fun x => if x.tag = e.tag then { x with ended := some (s.hl.endedCount, payload) } else x)))
      ∧ t.mu = s.mu ∧ t.ce = s.ce ∧ t.ctxs = s.ctxs ∧ t.bm = s.bm ∧ t.oc = s.oc)

/-! ### The edit session -/

/-- EDIT_OPEN in CLOSED loads the buffer and answers kind, id, new mark and the active copy's generation or none;
the session is OPEN with 30 s (log 10 for the positions at or above the count). An id outside the kind's range is
BAD_ARGUMENT, and in OPEN and COMMITTING the request is BUSY; neither touches anything. EDIT_ABANDON in OPEN
closes the session and empties the buffer; in CLOSED it is NO_EDIT, in COMMITTING BUSY. -/
def Obligations.EditSessionOpensAndCloses : Prop :=
  ∀ (s : State) (f : Frame) (rest : List Frame), Asked s f rest → s.oc.part ≠ .start →
    (∀ obj, f.code = some 0x30 → f.args = [objKind obj, objIdByte obj] → s.cs.session = .closed →
      ∃ b gen, OpenedFrom s obj b ∧ GenerationShown (s.cs.dir.entry obj) gen
        ∧ AnswersWith .editOpen s f rest ([0x30, 0x00, objKind obj, objIdByte obj, flagByte b.isNew] ++ gen) { s with
            freeDraws := s.freeDraws + 1
            cs := { s.cs with session := .opened, buffer := some b, editTimer := some (s.now + 30000) } })
    ∧ (∀ obj, f.code = some 0x30 → f.args = [objKind obj, objIdByte obj] → s.cs.session ≠ .closed →
        OnlyAnswers .editOpen s f rest [0x30, 0x03])
    ∧ (∀ kind id : Byte, f.code = some 0x30 → f.args = [kind, id] →
        3 < kind.toNat ∨ (kind = 0 ∧ id ≠ 0) ∨ (kind = 3 ∧ 64 ≤ id.toNat) ∨ ((kind = 1 ∨ kind = 2) ∧ 8 ≤ id.toNat) →
        OnlyAnswers .editOpen s f rest [0x30, 0x02])
    ∧ (f.code = some 0x38 → f.args = [] →
        (s.cs.session = .opened → AnswersWith .editAbandon s f rest [0x38, 0x00]
          { s with cs := { s.cs with session := .closed, buffer := none, editTimer := none } })
        ∧ (s.cs.session = .closed → OnlyAnswers .editAbandon s f rest [0x38, 0x07])
        ∧ (s.cs.session = .committing → OnlyAnswers .editAbandon s f rest [0x38, 0x03]))

/-- EDIT_FIELD in OPEN sets a field of the buffer, or sets and clears an optional one, clears the removal mark and
answers the field with its value as it stands, every field of the three kinds in the bytes of its record table.
A field the kind does not list (for an IMAGE every field), the clearing of one that is not optional, an unlisted code of an
enumerated field, another operation, a length that is not the field's and a request that ends early are BAD_ARGUMENT and
leave the buffer. Each restarts the edit timer with 30 s. In CLOSED it is NO_EDIT, in START WRONG_STATE, in COMMITTING
BUSY; with no buffer open the length is not judged (R195). Log 20 (DEDUCED) gives three of these: in COMMITTING a length
that is not the field's is BAD_ARGUMENT, and a request that ends before its operation is BAD_ARGUMENT in OPEN, and in CLOSED
and START goes on to NO_EDIT and WRONG_STATE. -/
def Obligations.EditFieldSetsOrClearsOneField : Prop :=
  ∀ (s : State) (f : Frame) (rest : List Frame) (b : EditBuffer), Asked s f rest → f.code = some 0x31 →
    let lengths : List Nat := match b.content with
      | .settings _ => [2, 1, 1, 1, 2, 2, 2, 2, 1, 1, 1, 1, 1]
      | .target _ => [1, 1, 3, 2, 2, 2, 2, 1]
      | .image _ _ => []
      | .profile _ _ _ => [1, 1, 1, 1, 1, 1, 1, 2, 2, 2, 2, 1]
    let lists (num : Byte) (n : Nat) : Prop := num ≠ 0 ∧ lengths[num.toNat - 1]? = some n
    let listsNot (num : Byte) : Prop := num = 0 ∨ lengths.length < num.toNat
    (s.oc.part ≠ .start → s.cs.session = .opened → s.cs.buffer = some b →
      let taken (payload : List Byte) (c : BufferContent) : Prop := AnswersWith .editField s f rest payload
        { s with cs := { s.cs with buffer := some { b with content := c, removal := false }, editTimer := some (s.now + 30000) } }
      let sets (num : Byte) (bytes shown : List Byte) (c : BufferContent) : Prop :=
        f.args = num :: 0x01 :: bytes → taken (0x31 :: 0x00 :: num :: shown) c
      let clears (num : Byte) (shown : List Byte) (c : BufferContent) : Prop :=
        f.args = [num, 0x00] → taken (0x31 :: 0x00 :: num :: shown) c
      let refused : Prop := AnswersWith .editField s f rest [0x31, 0x02]
        { s with cs := { s.cs with editTimer := some (s.now + 30000) } }
      let noCode (num : Byte) : Prop := ∀ v : Byte, 1 < v.toNat → f.args = [num, 0x01, v] → refused
      (∀ r, b.content = .target r →
        (∀ a, sets 0x01 [a] [a] (.target { r with addr := a }))
        ∧ sets 0x02 [0x00] [0x00] (.target { r with autoStart := false }) ∧ sets 0x02 [0x01] [0x01] (.target { r with autoStart := true })
        ∧ (∀ x y z, sets 0x03 [x, y, z] [0x01, x, y, z] (.target { r with identity := some ⟨x, y, z⟩ }))
        ∧ (∀ x y, sets 0x04 [x, y] [0x01, x, y] (.target { r with marker := some ⟨x, y⟩ }))
        ∧ (∀ x y, sets 0x05 [x, y] [0x01, x, y] (.target { r with status := some ⟨x, y⟩ }))
        ∧ (∀ x y, sets 0x06 [x, y] [0x01, x, y] (.target { r with latch := some ⟨x, y⟩ }))
        ∧ (∀ hi lo, sets 0x07 [hi, lo] [hi, lo] (.target { r with checkPeriod := hi.toNat * 256 + lo.toNat }))
        ∧ (∀ n, sets 0x08 [n] [n] (.target { r with retryLimit := n.toNat }))
        ∧ clears 0x03 [0x00, 0x00, 0x00, 0x00] (.target { r with identity := none })
        ∧ clears 0x04 [0x00, 0x00, 0x00] (.target { r with marker := none })
        ∧ clears 0x05 [0x00, 0x00, 0x00] (.target { r with status := none })
        ∧ clears 0x06 [0x00, 0x00, 0x00] (.target { r with latch := none })
        ∧ (∀ num, (num = 0x01 ∨ num = 0x02 ∨ num = 0x07 ∨ num = 0x08) → f.args = [num, 0x00] → refused)
        ∧ noCode 0x02)
      ∧ (∀ h n ps, b.content = .profile h n ps →
        let put (h : ProfileHeader) : BufferContent := .profile h n ps
        sets 0x01 [0x00] [0x00] (put { h with enabled := false }) ∧ sets 0x01 [0x01] [0x01] (put { h with enabled := true })
        ∧ (∀ v, sets 0x02 [v] [v] (put { h with slot := v.toNat })) ∧ (∀ v, sets 0x03 [v] [v] (put { h with param := v }))
        ∧ sets 0x04 [0x00] [0x00] (put { h with width := .byte }) ∧ sets 0x04 [0x01] [0x01] (put { h with width := .word })
        ∧ sets 0x05 [0x00] [0x00] (put { h with order := .highFirst }) ∧ sets 0x05 [0x01] [0x01] (put { h with order := .lowFirst })
        ∧ (∀ v, sets 0x06 [v] [v] (put { h with rank := v.toNat }))
        ∧ sets 0x07 [0x00] [0x00] (put { h with interp := .step }) ∧ sets 0x07 [0x01] [0x01] (put { h with interp := .linear })
        ∧ (∀ hi lo, sets 0x08 [hi, lo] [hi, lo] (put { h with lower := hi.toNat * 256 + lo.toNat }))
        ∧ (∀ hi lo, sets 0x09 [hi, lo] [hi, lo] (put { h with upper := hi.toNat * 256 + lo.toNat }))
        ∧ (∀ hi lo, sets 0x0A [hi, lo] [hi, lo] (put { h with stepLimit := hi.toNat * 256 + lo.toNat }))
        ∧ (∀ hi lo, sets 0x0B [hi, lo] [0x01, hi, lo] (put { h with start := some (hi.toNat * 256 + lo.toNat) }))
        ∧ sets 0x0C [0x00] [0x00] (put { h with derate := .plain }) ∧ sets 0x0C [0x01] [0x01] (put { h with derate := .shift })
        ∧ clears 0x0B [0x00, 0x00, 0x00] (put { h with start := none })
        ∧ (∀ num : Byte, 1 ≤ num.toNat → num.toNat ≤ 12 → num ≠ 0x0B → f.args = [num, 0x00] → refused)
        ∧ noCode 0x01 ∧ noCode 0x04 ∧ noCode 0x05 ∧ noCode 0x07 ∧ noCode 0x0C)
      ∧ (∀ x, b.content = .settings x →
        (∀ hi lo, sets 0x01 [hi, lo] [hi, lo] (.settings { x with period := hi.toNat * 256 + lo.toNat }))
        ∧ sets 0x02 [0x00] [0x00] (.settings { x with source := .die }) ∧ sets 0x02 [0x01] [0x01] (.settings { x with source := .remote })
        ∧ (∀ v, sets 0x03 [v] [v] (.settings { x with k := v.toNat })) ∧ (∀ v, sets 0x04 [v] [v] (.settings { x with h := v.toNat }))
        ∧ (∀ hi lo, sets 0x05 [hi, lo] [hi, lo] (.settings { x with low := (hi ++ lo).toInt }))
        ∧ (∀ hi lo, sets 0x06 [hi, lo] [hi, lo] (.settings { x with high := (hi ++ lo).toInt }))
        ∧ (∀ hi lo, sets 0x07 [hi, lo] [hi, lo] (.settings { x with floor := hi.toNat * 256 + lo.toNat }))
        ∧ (∀ hi lo, sets 0x08 [hi, lo] [hi, lo] (.settings { x with margin := hi.toNat * 256 + lo.toNat }))
        ∧ sets 0x09 [0x00] [0x00] (.settings { x with speed := .khz100 }) ∧ sets 0x09 [0x01] [0x01] (.settings { x with speed := .khz400 })
        ∧ (∀ v, sets 0x0A [v] [v] (.settings { x with holdTime := v.toNat }))
        ∧ (∀ v, sets 0x0B [v] [v] (.settings { x with recoveryLimit := v.toNat }))
        ∧ (∀ v, sets 0x0C [v] [v] (.settings { x with deratePin := v.toNat }))
        ∧ sets 0x0D [0x01] [0x01] (.settings { x with startMode := .run }) ∧ sets 0x0D [0x02] [0x02] (.settings { x with startMode := .hold })
        ∧ (∀ num : Byte, 1 ≤ num.toNat → num.toNat ≤ 13 → f.args = [num, 0x00] → refused)
        ∧ noCode 0x02 ∧ noCode 0x09 ∧ (∀ v : Byte, v = 0 ∨ 2 < v.toNat → f.args = [0x0D, 0x01, v] → refused))
      ∧ (∀ num op bytes, listsNot num → f.args = num :: op :: bytes → refused)
      ∧ (∀ num n bytes, lists num n → bytes.length ≠ n → f.args = num :: 0x01 :: bytes → refused)
      ∧ (∀ num bytes, bytes ≠ [] → f.args = num :: 0x00 :: bytes → refused)
      ∧ (∀ num op bytes, 1 < op.toNat → f.args = num :: op :: bytes → refused)
      ∧ (f.args.length < 2 → refused))
    ∧ (s.cs.session = .closed → s.cs.buffer = none →
      (∀ num op bytes, 1 < op.toNat → f.args = num :: op :: bytes → OnlyAnswers .editField s f rest [0x31, 0x02])
      ∧ (f.args.length < 2 ∨ (∃ num op bytes, op.toNat ≤ 1 ∧ f.args = num :: op :: bytes) →
        (s.oc.part = .start → OnlyAnswers .editField s f rest [0x31, 0x05, 0x00])
        ∧ (s.oc.part ≠ .start → OnlyAnswers .editField s f rest [0x31, 0x07])))
    ∧ (s.oc.part ≠ .start → s.cs.session = .committing → s.cs.buffer = some b →
      (∀ num n, lists num n → f.args = [num, 0x00] → OnlyAnswers .editField s f rest [0x31, 0x03])
      ∧ (∀ num op bytes, listsNot num → op.toNat ≤ 1 → f.args = num :: op :: bytes → OnlyAnswers .editField s f rest [0x31, 0x03])
      ∧ (∀ num n bytes, lists num n → bytes.length ≠ n → f.args = num :: 0x01 :: bytes → OnlyAnswers .editField s f rest [0x31, 0x02]))

/-- In OPEN: EDIT_POINTS and EDIT_ENTRIES write their items into the positions from the start index on, when they
stay within the capacity, and answer count, start and number; EDIT_COUNT replaces the count alone; each clears the
removal mark. EDIT_REMOVE sets the mark and keeps the content, on SETTINGS it is BAD_ARGUMENT. EDIT_SHOW answers session, kind, id,
marks, every field, the count (00h for a kind without a list) and the items below it, then in OPEN the 30 s just
restarted and in COMMITTING, where the timer stands, the copy and its generation (the layout is log 18). Each in OPEN
restarts the edit timer with 30 s; items beyond the capacity, a number of items out of range, and a request on a buffer
of a kind without that list are BAD_ARGUMENT. The requests but EDIT_SHOW are BUSY in COMMITTING, and all are NO_EDIT in
CLOSED. -/
def Obligations.EditListsCountRemovalAndShow : Prop :=
  ∀ (s : State) (f : Frame) (rest : List Frame) (b : EditBuffer), Asked s f rest → s.oc.part ≠ .start →
    let shown : List Byte := match b.content with
      | .settings x => settingsBytes x ++ [0x00]
      | .target r => recordBytes r ++ [0x00]
      | .image n ps => byteOf n :: (ps.take n).flatMap entryBytes
      | .profile h n ps => headerBytes h ++ (byteOf n :: (ps.take n).flatMap pointBytes)
    (s.cs.session = .opened → s.cs.buffer = some b →
      let timed (b' : EditBuffer) : State := { s with cs := { s.cs with buffer := some b', editTimer := some (s.now + 30000) } }
      (∀ h n ps (start : Byte) (items : List Point), b.content = .profile h n ps → f.code = some 0x32 →
        1 ≤ items.length → items.length ≤ 24 →
        (∀ q ∈ items, -32768 ≤ q.temp ∧ q.temp ≤ 32767 ∧ q.value ≤ 65535) →
        f.args = start :: byteOf items.length :: items.flatMap pointBytes →
        (start.toNat + items.length ≤ 24 →
          AnswersWith .editPoints s f rest [0x32, 0x00, byteOf n, start, byteOf items.length] (timed { b with
            removal := false
            content := .profile h n (ps.take start.toNat ++ (items ++ ps.drop (start.toNat + items.length))) }))
        ∧ (24 < start.toNat + items.length → AnswersWith .editPoints s f rest [0x32, 0x02] (timed b)))
      ∧ (∀ start n bytes, f.code = some 0x32 → f.args = start :: n :: bytes →
          (∀ h m ps, b.content ≠ .profile h m ps) ∨ n = 0 ∨ 24 < n.toNat ∨ bytes.length ≠ 4 * n.toNat →
          AnswersWith .editPoints s f rest [0x32, 0x02] (timed b))
      ∧ (∀ start n bytes, f.code = some 0x33 → f.args = start :: n :: bytes →
          (∀ m ps, b.content ≠ .image m ps) ∨ n = 0 ∨ 32 < n.toNat ∨ bytes.length ≠ 5 * n.toNat →
          AnswersWith .editEntries s f rest [0x33, 0x02] (timed b))
      ∧ (∀ n ps (start : Byte) (items : List ImageEntry), b.content = .image n ps → f.code = some 0x33 →
        1 ≤ items.length → items.length ≤ 32 → (∀ e ∈ items, e.value ≤ 65535 ∧ e.delay ≤ 255) →
        f.args = start :: byteOf items.length :: items.flatMap entryBytes →
        (start.toNat + items.length ≤ 32 →
          AnswersWith .editEntries s f rest [0x33, 0x00, byteOf n, start, byteOf items.length] (timed { b with
            removal := false
            content := .image n (ps.take start.toNat ++ (items ++ ps.drop (start.toNat + items.length))) }))
        ∧ (32 < start.toNat + items.length → AnswersWith .editEntries s f rest [0x33, 0x02] (timed b)))
      ∧ (∀ n : Byte, f.code = some 0x34 → f.args = [n] →
        (∀ h m ps, b.content = .profile h m ps → AnswersWith .editCount s f rest [0x34, 0x00, n, 0x00, 0x00]
          (timed { b with removal := false, content := .profile h n.toNat ps }))
        ∧ (∀ m ps, b.content = .image m ps → AnswersWith .editCount s f rest [0x34, 0x00, n, 0x00, 0x00]
          (timed { b with removal := false, content := .image n.toNat ps }))
        ∧ (∀ r, b.content = .target r → AnswersWith .editCount s f rest [0x34, 0x02] (timed b))
        ∧ (∀ x, b.content = .settings x → AnswersWith .editCount s f rest [0x34, 0x02] (timed b)))
      ∧ (f.code = some 0x35 → f.args = [] →
        (b.obj ≠ .settings → AnswersWith .editRemove s f rest [0x35, 0x00] (timed { b with removal := true }))
        ∧ (b.obj = .settings → AnswersWith .editRemove s f rest [0x35, 0x02] (timed b)))
      ∧ (f.code = some 0x36 → f.args = [] →
        AnswersWith .editShow s f rest ([0x36, 0x00, 0x01, objKind b.obj, objIdByte b.obj, flagByte b.isNew, flagByte b.removal]
          ++ shown ++ [0x00, 0x00, 0x75, 0x30, 0x00, 0x00, 0x00]) (timed b)))
    ∧ (s.cs.session = .committing → s.cs.buffer = some b →
        (∀ c, f.code = some 0x36 → f.args = [] → s.cs.commit = some c →
          OnlyAnswers .editShow s f rest ([0x36, 0x00, 0x02, objKind b.obj, objIdByte b.obj, flagByte b.isNew, flagByte b.removal]
            ++ shown ++ [0x00, 0x00, 0x00, 0x00, copyCode c.copy] ++ be16 c.gen.toNat))
        ∧ (∀ start, ∀ p : Point, f.code = some 0x32 → f.args = start :: 1 :: pointBytes p → OnlyAnswers .editPoints s f rest [0x32, 0x03])
        ∧ (∀ start, ∀ e : ImageEntry, f.code = some 0x33 → f.args = start :: 1 :: entryBytes e →
            OnlyAnswers .editEntries s f rest [0x33, 0x03])
        ∧ (∀ n, f.code = some 0x34 → f.args = [n] → OnlyAnswers .editCount s f rest [0x34, 0x03])
        ∧ (f.code = some 0x35 → f.args = [] → OnlyAnswers .editRemove s f rest [0x35, 0x03]))
    ∧ (s.cs.session = .closed → s.cs.buffer = none →
        (∀ start, ∀ p : Point, f.code = some 0x32 → f.args = start :: 1 :: pointBytes p → OnlyAnswers .editPoints s f rest [0x32, 0x07])
        ∧ (∀ start, ∀ e : ImageEntry, f.code = some 0x33 → f.args = start :: 1 :: entryBytes e →
            OnlyAnswers .editEntries s f rest [0x33, 0x07])
        ∧ (∀ n, f.code = some 0x34 → f.args = [n] → OnlyAnswers .editCount s f rest [0x34, 0x07])
        ∧ (f.code = some 0x35 → f.args = [] → OnlyAnswers .editRemove s f rest [0x35, 0x07])
        ∧ (f.code = some 0x36 → f.args = [] → OnlyAnswers .editShow s f rest [0x36, 0x07]))

/-- EDIT_COMMIT in OPEN: a buffer that passes validation, or the removal of a present object, begins programming
the copy that is not active, copy A with none, under the next generation or 1, to end after 4 ms and 5 ms a block;
the copy is PROGRAMMING and not active, the store's own bytes untouched until the end of the programming (log 30,
DEDUCED), the session COMMITTING without timer, the request
pending without reply. A failing check answers INVALID with its code and detail, a full pending table BUSY, both
with the timer restarted; the removal of an absent object is OK and closes the session; in CLOSED it is NO_EDIT,
in COMMITTING BUSY. -/
def Obligations.EditCommitValidatesThenPrograms : Prop :=
  ∀ (s : State) (f : Frame) (rest : List Frame), Asked s f rest → f.code = some 0x37 → f.args = [] → s.oc.part ≠ .start →
    (s.cs.session = .closed → OnlyAnswers .editCommit s f rest [0x37, 0x07])
    ∧ (s.cs.session = .committing → OnlyAnswers .editCommit s f rest [0x37, 0x03])
    ∧ ∀ b, s.cs.session = .opened → s.cs.buffer = some b →
      let e := s.cs.dir.entry b.obj
      let commits : Prop := (b.removal = true ∧ e.present = true) ∨ (b.removal = false ∧ validate s b = none)
      let timed : State := { s with cs := { s.cs with editTimer := some (s.now + 30000) } }
      (commits → s.hl.pend.length < 4 → Gives .editCommit s (fun t =>
        t.cs.session = .committing ∧ t.cs.editTimer = none ∧ t.cs.buffer = some b ∧ t.cs.store = s.cs.store
        ∧ (∃ c, t.cs.commit = some c ∧ c.obj = b.obj ∧ e.active ≠ some c.copy ∧ (e.active = none → c.copy = .a)
            ∧ c.gen = (match e.activeInfo.bind CopyInfo.gen with
              | some g => g + 1
              | none => 1)
            ∧ c.started = s.now ∧ c.wasEmpty = (e.info c.copy == .empty)
            ∧ c.endTime = s.now + (if b.removal then 9 else match b.obj with
              | .settings => 9
              | .target _ => 9
              | .profile _ => 14
              | .image _ => 19)
            ∧ (t.cs.dir.entry b.obj).info c.copy = .programming)
        ∧ (∀ obj, (t.cs.dir.entry obj).active = (s.cs.dir.entry obj).active)
        ∧ (∀ obj, obj ≠ b.obj → t.cs.dir.entry obj = s.cs.dir.entry obj)
        ∧ t.hl.pend = s.hl.pend ++ [⟨f.tag, 0x37, digestOf f.payload, .commit, none⟩] ∧ t.hl.intake = rest
        ∧ t.hl.replies = s.hl.replies ∧ t.hl.tx = s.hl.tx ∧ t.nu = s.nu ∧ t.msgs = s.msgs ∧ t.cs.inEffect = s.cs.inEffect
        ∧ t.mu = s.mu ∧ t.ce = s.ce ∧ t.ctxs = s.ctxs ∧ t.bm = s.bm ∧ t.oc = s.oc))
      ∧ (commits → 4 ≤ s.hl.pend.length → AnswersWith .editCommit s f rest [0x37, 0x03] timed)
      ∧ (b.removal = true → e.present = false → AnswersWith .editCommit s f rest [0x37, 0x00, 0x00, 0x00, 0x00]
          { s with cs := { s.cs with session := .closed, buffer := none, editTimer := none } })
      ∧ (∀ c : CheckFailure, b.removal = false → validate s b = some c →
          AnswersWith .editCommit s f rest ([0x37, 0x08, c.code] ++ be16 c.detail) timed)

/-- What validation lets through: a PROFILE buffer passes exactly when slot, rank and point count are in range, the
temperatures rise, every value below the count and every limit fits the width, the limits are in order, and an
enabled one has its parameter to itself; a TARGET buffer when address, check period and retry limit are in range
and no other slot's record has the address; an IMAGE buffer when the count is in range and every BYTE entry below it
holds a byte; a SETTINGS buffer when every field is in its range and the span is in order. A check that fails while the
ones before it pass answers its code and detail: the field, the point or entry index, the count, the address, or the other
profile or slot (the lowest of several, log 39). Where one check names several values they are judged in the order in which
it names them, points before limits (log 20, DEDUCED). -/
def Obligations.ValidationPassesWhatTheChecksAsk : Prop :=
  (∀ (s : State) (id : ProfileId) (isNew removal : Bool) (h : ProfileHeader) (n : Nat) (ps : List Point),
    let m := if h.width = .byte then 255 else 65535
    let v := validate s ⟨.profile id, isNew, removal, .profile h n ps⟩
    let ranges : Prop := h.slot ≤ 7 ∧ h.rank ≤ 15
    let curve : Prop := 2 ≤ n ∧ n ≤ 24 ∧ (ps.take n).IsChain (fun p q => p.temp < q.temp)
      ∧ (∀ p ∈ ps.take n, p.value ≤ m) ∧ h.lower ≤ m ∧ h.upper ≤ m ∧ (∀ v, h.start = some v → v ≤ m) ∧ h.stepLimit ≤ m
    let rival (j : ProfileId) : Prop := j ≠ id ∧ ∃ p, activeProfile s j = some p ∧ p.header.enabled = true
      ∧ p.header.slot = h.slot ∧ p.header.param = h.param
    let ordered : Prop := ranges ∧ 2 ≤ n ∧ n ≤ 24 ∧ (ps.take n).IsChain (fun p q => p.temp < q.temp)
    let fitting : Prop := ordered ∧ ∀ p ∈ ps.take n, p.value ≤ m
    (v = none ↔ ranges ∧ curve ∧ h.lower ≤ h.upper ∧ (h.enabled = true → ∀ j, ¬ rival j))
    ∧ (7 < h.slot → v = some ⟨0x01, 0x02⟩)
    ∧ (h.slot ≤ 7 → 15 < h.rank → v = some ⟨0x01, 0x06⟩)
    ∧ (ranges → n < 2 ∨ 24 < n → v = some ⟨0x02, n⟩)
    ∧ (∀ before p q after, ranges → 2 ≤ n → n ≤ 24 → ps.take n = before ++ p :: q :: after →
        (before ++ [p]).IsChain (fun p q => p.temp < q.temp) → q.temp ≤ p.temp → v = some ⟨0x03, before.length + 1⟩)
    ∧ (∀ before p after, ordered → ps.take n = before ++ p :: after → (∀ x ∈ before, x.value ≤ m) → m < p.value →
        v = some ⟨0x04, before.length⟩)
    ∧ (fitting → m < h.lower → v = some ⟨0x04, 0x08⟩)
    ∧ (fitting → h.lower ≤ m → m < h.upper → v = some ⟨0x04, 0x09⟩)
    ∧ (∀ x, fitting → h.lower ≤ m → h.upper ≤ m → h.start = some x → m < x → v = some ⟨0x04, 0x0B⟩)
    ∧ (fitting → h.lower ≤ m → h.upper ≤ m → (∀ x, h.start = some x → x ≤ m) → m < h.stepLimit → v = some ⟨0x04, 0x0A⟩)
    ∧ (ranges → curve → h.upper < h.lower → v = some ⟨0x05, 0⟩)
    ∧ (∀ j, ranges → curve → h.lower ≤ h.upper → h.enabled = true → rival j → (∀ i, i < j → ¬ rival i) → v = some ⟨0x06, j.val⟩))
  ∧ (∀ (s : State) (slot : Slot) (isNew removal : Bool) (r : TargetRecord),
    let v := validate s ⟨.target slot, isNew, removal, .target r⟩
    let ranges : Prop := 0x08 ≤ r.addr.toNat ∧ r.addr.toNat ≤ 0x77 ∧ r.checkPeriod ≤ 600 ∧ r.retryLimit ≤ 7
    let rival (j : Slot) : Prop := j ≠ slot ∧ ∃ x, activeRecord s j = some x ∧ x.addr = r.addr
    (v = none ↔ ranges ∧ ∀ j, ¬ rival j)
    ∧ (r.addr.toNat < 0x08 ∨ 0x77 < r.addr.toNat → v = some ⟨0x07, r.addr.toNat⟩)
    ∧ (0x08 ≤ r.addr.toNat → r.addr.toNat ≤ 0x77 → 600 < r.checkPeriod → v = some ⟨0x01, 0x07⟩)
    ∧ (0x08 ≤ r.addr.toNat → r.addr.toNat ≤ 0x77 → r.checkPeriod ≤ 600 → 7 < r.retryLimit → v = some ⟨0x01, 0x08⟩)
    ∧ (∀ j, ranges → rival j → (∀ i, i < j → ¬ rival i) → v = some ⟨0x08, j.val⟩))
  ∧ (∀ (s : State) (slot : Slot) (isNew removal : Bool) (n : Nat) (es : List ImageEntry),
    let v := validate s ⟨.image slot, isNew, removal, .image n es⟩
    (v = none ↔ n ≤ 32 ∧ ∀ e ∈ es.take n, e.width = .byte → e.value ≤ 255)
    ∧ (32 < n → v = some ⟨0x09, n⟩)
    ∧ (∀ before e after, n ≤ 32 → es.take n = before ++ e :: after → (∀ x ∈ before, x.width = .byte → x.value ≤ 255) →
        e.width = .byte → 255 < e.value → v = some ⟨0x04, before.length⟩))
  ∧ ∀ (s : State) (isNew removal : Bool) (x : Settings),
    let v := validate s ⟨.settings, isNew, removal, .settings x⟩
    let fields : Prop := 20 ≤ x.period ∧ x.period ≤ 1000 ∧ x.period % 10 = 0 ∧ x.k ≤ 4 ∧ x.h ≤ 64
      ∧ 1 ≤ x.holdTime ∧ x.holdTime ≤ 60 ∧ x.recoveryLimit ≤ 15 ∧ x.deratePin ≤ 2
    let supply : Prop := 2500 ≤ x.floor ∧ x.floor ≤ 5500 ∧ x.margin ≤ 500
    let period : Prop := 20 ≤ x.period ∧ x.period ≤ 1000 ∧ x.period % 10 = 0
    let hold : Prop := period ∧ x.k ≤ 4 ∧ x.h ≤ 64 ∧ 1 ≤ x.holdTime ∧ x.holdTime ≤ 60
    (v = none ↔ fields ∧ x.low < x.high ∧ supply)
    ∧ (¬ period → v = some ⟨0x01, 0x01⟩)
    ∧ (period → 4 < x.k → v = some ⟨0x01, 0x03⟩)
    ∧ (period → x.k ≤ 4 → 64 < x.h → v = some ⟨0x01, 0x04⟩)
    ∧ (period → x.k ≤ 4 → x.h ≤ 64 → x.holdTime < 1 ∨ 60 < x.holdTime → v = some ⟨0x01, 0x0A⟩)
    ∧ (hold → 15 < x.recoveryLimit → v = some ⟨0x01, 0x0B⟩)
    ∧ (hold → x.recoveryLimit ≤ 15 → 2 < x.deratePin → v = some ⟨0x01, 0x0C⟩)
    ∧ (fields → x.high ≤ x.low → v = some ⟨0x0A, 0⟩)
    ∧ (fields → x.low < x.high → x.floor < 2500 ∨ 5500 < x.floor → v = some ⟨0x0B, 0x07⟩)
    ∧ (fields → x.low < x.high → 2500 ≤ x.floor → x.floor ≤ 5500 → 500 < x.margin → v = some ⟨0x0B, 0x08⟩)

/-! ### The line, frames and notices -/

/-- CHARACTER_RECEIVED moves the receive machine through HUNT, LENGTH, BODY and CHECK and starts the gap timer with
5 ms at every character kept, and nothing else changes; in HUNT any byte but A5h, and a framing error, is dropped. So
a whole REQUEST frame on HRX, received character by character from HUNT, joins the intake at the tail as its TAG and
payload, whatever the TAG and the payload are; the machine is back in HUNT with the gap timer stopped, and HRDY is
high exactly while the intake holds fewer than 2 frames. -/
def Obligations.FrameBytesReachIntake : Prop :=
  (∀ (s : State) (c len : Byte) (bytes : List Byte), s.oc.held = false →
    let moves (rx : Rx) : Prop :=
      exec (.characterReceived c false) s = .next { s with hl := { s.hl with rx := rx, gap := some (s.now + 5) } }
    (s.hl.rx = .hunt → c = 0xA5 → moves .length)
    ∧ (s.hl.rx = .hunt → c ≠ 0xA5 → exec (.characterReceived c false) s = .next s)
    ∧ (s.hl.rx = .hunt → exec (.characterReceived c true) s = .next s)
    ∧ (s.hl.rx = .length → 2 ≤ c.toNat → c.toNat ≤ 250 → moves (.body c []))
    ∧ (s.hl.rx = .body len bytes → bytes.length + 1 < len.toNat → moves (.body len (bytes ++ [c])))
    ∧ (s.hl.rx = .body len bytes → bytes.length + 1 = len.toNat → moves (.check len (bytes ++ [c]) none))
    ∧ (s.hl.rx = .check len bytes none → moves (.check len bytes (some c))))
  ∧ ∀ (s : State) (tag : Byte) (payload : List Byte),
    payload.length ≤ 248 → s.oc.held = false → s.hl.rx = .hunt → s.hl.intake.length < 2 →
    ∃ bytes last, frameBytes kindRequest tag payload = bytes ++ [last]
      ∧ Gives (.requestFrameReceived last) (receive bytes s) (fun t =>
        t.hl.intake = s.hl.intake ++ [⟨tag, payload⟩] ∧ t.hl.rx = .hunt ∧ t.hl.gap = none
        ∧ t.pins.hrdy = decide (s.hl.intake.length + 1 < 2) ∧ t.hl.overruns = s.hl.overruns
        ∧ (s.hl.tx.isSome = true → s.nu.stalled = false →
            t.nu = s.nu ∧ t.hl.replies = s.hl.replies ∧ t.hl.pend = s.hl.pend ∧ t.hl.cache = s.hl.cache ∧ t.hl.tx = s.hl.tx)
        ∧ t.now = s.now ∧ t.msgs = s.msgs ∧ t.oc = s.oc ∧ t.cs = s.cs ∧ t.mu = s.mu ∧ t.ce = s.ce ∧ t.ctxs = s.ctxs ∧ t.bm = s.bm
        ∧ t.pending = s.pending)

/-- The last byte of a frame, here with the transmitter busy. A framing error in LENGTH, BODY or CHECK, a wrong CRC, and a
LEN outside 2 to 250, discard the frame and change nothing more: they end no stall. Any valid frame, REQUEST, ACK or of
a KIND the host may not send, ends a stall: every entry then outstanding is due with count 0. A REQUEST joins an intake
with room; one that meets a full intake is discarded, the overruns counted and LINK_OVERRUN handed over, or in START
its TAG and code kept (00h for a request without code, log 19). An ACK of an outstanding number, applied before the
stall ends, removes that entry and all before it and restarts the timer with 200 ms, or stops it with none left; any
other ACK removes nothing. -/
def Obligations.FramesAcknowledgeOrAreDiscarded : Prop :=
  ∀ (s : State) (len hi lo : Byte) (bytes : List Byte), s.hl.tx.isSome = true →
    let live (nu : Nu) : Nu := if nu.stalled then { nu with
        stalled := false
        queue := nu.queue.map (fun e => if e.transmitted then { e with due := true, retrans := 0 } else e) } else nu
    (∀ c : Byte, s.hl.rx ≠ .hunt →
      exec (.invalidFrame c true) s = .next { s with hl := { s.hl with rx := .hunt, gap := none } })
    ∧ (∀ c : Byte, s.hl.rx = .length → c.toNat < 2 ∨ 250 < c.toNat →
      exec (.invalidFrame c false) s = .next { s with hl := { s.hl with rx := .hunt, gap := none } })
    ∧ (s.hl.rx = .check len bytes (some hi) →
      (crc16 (len :: bytes) ≠ hi ++ lo →
        exec (.invalidFrame lo false) s = .next { s with hl := { s.hl with rx := .hunt, gap := none } })
      ∧ (∀ tag payload, crc16 (len :: bytes) = hi ++ lo → bytes = kindRequest :: tag :: payload → s.hl.intake.length < 2 →
        Gives (.requestFrameReceived lo) s (fun t =>
          t.hl.intake = s.hl.intake ++ [⟨tag, payload⟩] ∧ t.hl.rx = .hunt ∧ t.hl.gap = none ∧ t.nu = live s.nu
          ∧ t.hl.overruns = s.hl.overruns ∧ t.hl.startOverrun = s.hl.startOverrun ∧ t.msgs = s.msgs))
      ∧ (∀ tag payload, crc16 (len :: bytes) = hi ++ lo → bytes = kindRequest :: tag :: payload → 2 ≤ s.hl.intake.length →
        Gives (.requestFrameReceived lo) s (fun t =>
          t.hl.intake = s.hl.intake ∧ t.hl.overruns = min 65535 (s.hl.overruns + 1) ∧ t.hl.rx = .hunt ∧ t.hl.replies = s.hl.replies
          ∧ (s.oc.part = .start → t.hl.startOverrun = some (tag, payload.head?.getD 0) ∧ t.msgs = s.msgs)
          ∧ (s.oc.part ≠ .start → t.hl.startOverrun = s.hl.startOverrun ∧ t.msgs = { s.msgs with
              notices := s.msgs.notices ++ [⟨.warn, .linkOverrun tag (payload.head?.getD 0) (min 65535 (s.hl.overruns + 1))⟩] })
          ∧ t.nu = live s.nu))
      ∧ (∀ tag payload, crc16 (len :: bytes) = hi ++ lo → bytes = kindAck :: tag :: payload →
        (∀ before e after, s.nu.queue = before ++ e :: after → e.transmitted = true → e.seq = some tag →
          (∀ x ∈ before, x.transmitted = true → x.seq ≠ some tag) →
          exec (.ackReceived lo) s = .next { s with
            hl := { s.hl with rx := .hunt, gap := none }
            pins := { s.pins with alertN := alertLevel after }
            nu := live { s.nu with
              queue := after
              timer := if (∃ x ∈ after, x.transmitted = true) then some (s.now + 200) else none } })
        ∧ ((∀ x ∈ s.nu.queue, x.transmitted = true → x.seq ≠ some tag) → AlertShown s →
          exec (.ackReceived lo) s = .next { s with hl := { s.hl with rx := .hunt, gap := none }, nu := live s.nu }))
      ∧ (∀ kind tag payload, crc16 (len :: bytes) = hi ++ lo → bytes = kind :: tag :: payload → kind ≠ kindRequest → kind ≠ kindAck →
        AlertShown s →
        exec (.invalidFrame lo false) s = .next { s with hl := { s.hl with rx := .hunt, gap := none }, nu := live s.nu }))

/-- NOTICE_APPEND, here with the transmitter busy: the oldest notice handed over merges into the untransmitted entry
of its kind and subject, or joins a queue with room at the tail with the lost-pending flag as its LOST, or displaces
the oldest untransmitted entry of the lowest severity when that is lower, with LOST set, or is dropped with the
lost-pending flag set. -/
def Obligations.NoticeMergesJoinsDisplacesOrIsDropped : Prop :=
  ∀ (s : State) (n : Notice) (rest : List Notice), s.hl.tx.isSome = true → s.msgs.notices = n :: rest →
    let answers (queue : List Entry) (lostPending : Bool) : Prop := exec .noticeAppend s = .next { s with
      msgs := { s.msgs with notices := rest }
      pins := { s.pins with alertN := !queue.any (fun e => e.severity == .fault) }
      nu := { s.nu with queue := queue, lostPending := lostPending } }
    let rival (e : Entry) : Prop := e.transmitted = false ∧ sameSubject e.content n.content = true
    (∀ before e after, s.nu.queue = before ++ e :: after → rival e → (∀ x ∈ before, ¬ rival x) →
      answers (before ++ { e with
        content := n.content
        severity := if e.severity.rank < n.severity.rank then n.severity else e.severity
        changes := min 255 (e.changes + 1) } :: after) s.nu.lostPending)
    ∧ ((∀ x ∈ s.nu.queue, ¬ rival x) → s.nu.queue.length < 16 →
      answers (s.nu.queue ++ [⟨n.severity, n.content, 1, s.nu.lostPending, false, none, 0, false⟩]) false)
    ∧ (∀ before e after, (∀ x ∈ s.nu.queue, ¬ rival x) → 16 ≤ s.nu.queue.length → s.nu.queue = before ++ e :: after →
      e.transmitted = false → e.severity.rank < n.severity.rank →
      (∀ x ∈ s.nu.queue, x.transmitted = false → e.severity.rank ≤ x.severity.rank) →
      (∀ x ∈ before, x.transmitted = false → x.severity ≠ e.severity) →
      answers (before ++ (after ++ [⟨n.severity, n.content, 1, true, false, none, 0, false⟩])) false)
    ∧ ((∀ x ∈ s.nu.queue, ¬ rival x) → 16 ≤ s.nu.queue.length →
      (∀ x ∈ s.nu.queue, x.transmitted = false → n.severity.rank ≤ x.severity.rank) →
      answers s.nu.queue true)

/-- FRAME_SENT and the next choice: the oldest reply unless a notice is eligible and 4 replies went since the last
notice, its departure counted; the departure from a full reply queue lets in the waiting reply of the operation that
ended first, which then leaves the pending table and enters the cache (R180). Else an eligible notice, the oldest due
one under its own number, or with none due the oldest untransmitted one under the next, with the count back at 0 and
the timer running; else nothing. RETRANSMIT_TIMER_EXPIRY, the clock at the expiry (log 3), here with the transmitter
busy: with the oldest outstanding entry at 8 the link stalls, else every outstanding entry is
due and counted once more. -/
def Obligations.TransmitterAlternatesAndRetransmits : Prop :=
  ∀ (straps : BitVec 2) (s : State),
    (∀ fr, s.hl.tx = some fr → fr.restart = false →
      (∀ r rest, s.hl.replies = r :: rest → (noticeEligible s.nu = false ∨ s.hl.fairness < 4) → (∀ e ∈ s.hl.pend, e.ended = none) →
        exec (.frameSent straps) s = .next { s with hl := { s.hl with
          replies := rest
          tx := some ⟨frameBytes kindReply r.tag r.payload, r.restart⟩
          fairness := min 4 (s.hl.fairness + 1) } })
      ∧ (∀ r rest e k payload, s.hl.replies = r :: rest → rest.length = 3 → (noticeEligible s.nu = false ∨ s.hl.fairness < 4) →
        e ∈ s.hl.pend → e.ended = some (k, payload) →
        (∀ x ∈ s.hl.pend, x ≠ e → ∀ k' payload', x.ended = some (k', payload') → k < k') →
        exec (.frameSent straps) s = .next { s with hl := { s.hl with
          replies := rest ++ [⟨e.tag, payload, false⟩]
          pend := s.hl.pend.filter (fun x => x.tag != e.tag)
          cache := (if s.hl.cache.length < 4 then s.hl.cache else s.hl.cache.tail) ++ [⟨e.tag, some e.code, e.digest, payload⟩]
          tx := some ⟨frameBytes kindReply r.tag r.payload, r.restart⟩
          fairness := min 4 (s.hl.fairness + 1) } })
      ∧ (s.hl.replies = [] → noticeEligible s.nu = false →
        exec (.frameSent straps) s = .next { s with hl := { s.hl with tx := none } })
      ∧ ((s.hl.replies = [] ∨ 4 ≤ s.hl.fairness) → s.nu.stalled = false → AlertShown s →
          ∀ before e after n, s.nu.queue = before ++ e :: after → (∀ x ∈ before, x.transmitted = false ∨ x.due = false) →
          e.transmitted = true → e.due = true → e.seq = some n →
        exec (.frameSent straps) s = .next { s with
          hl := { s.hl with tx := some ⟨frameBytes kindNotice n e.payload, false⟩, fairness := 0 }
          nu := { s.nu with
            queue := before ++ { e with due := false } :: after
            timer := some (s.nu.timer.getD (s.now + 200)) } })
      ∧ ((s.hl.replies = [] ∨ 4 ≤ s.hl.fairness) → s.nu.stalled = false → (∀ x ∈ s.nu.queue, x.due = false) →
          outstandingCount s.nu.queue < 4 → AlertShown s →
          ∀ sent e waiting, s.nu.queue = sent ++ e :: waiting → (∀ x ∈ sent, x.transmitted = true) → e.transmitted = false → e.seq = none →
        exec (.frameSent straps) s = .next { s with
          hl := { s.hl with tx := some ⟨frameBytes kindNotice s.nu.nextSeq e.payload, false⟩, fairness := 0 }
          nu := { s.nu with
            queue := sent ++ { e with seq := some s.nu.nextSeq, transmitted := true } :: waiting
            nextSeq := s.nu.nextSeq + 1
            timer := some (s.nu.timer.getD (s.now + 200)) } }))
    ∧ (∀ at' before e after, s.hl.tx.isSome = true → AlertShown s → s.nu.timer = some at' → s.nu.queue = before ++ e :: after →
        (∀ x ∈ before, x.transmitted = false) → e.transmitted = true →
      (8 ≤ e.retrans → exec .retransmitTimerExpiry s = .next { s with
        now := max s.now at'
        nu := { s.nu with timer := none, stalled := true } })
      ∧ (e.retrans < 8 → exec .retransmitTimerExpiry s = .next { s with
        now := max s.now at'
        nu := { s.nu with
          timer := none
          queue := s.nu.queue.map (fun x => if x.transmitted then { x with due := true, retrans := x.retrans + 1 } else x) } }))

/-! ### Requests -/

/-- Dispatch judges the TAG before the request: a TAG that a pending entry holds is TAG_IN_USE with the new code and
leaves table and cache; a repeat of a cached request gets the cached reply again and is not carried out; nothing else
changes in either case. Held in reset, with 4 replies queued or with a restart pending no request is taken. A new request
whose arguments do not fit their encoding is BAD_ARGUMENT in every part state (R195, R196), and one that fits is
WRONG_STATE in START with the part state (R165); nothing else changes, but that an editing request refused in OPEN
restarts the edit timer (R148). The reporting requests' forms of both stand in ReportsAnswerAndChangeNothing, those of
EDIT_FIELD in EditFieldSetsOrClearsOneField, START for SET_MODE, PASS_NOW, TARGET_ADMIN and manual access beside their
effects. The content that a refused SET_MODE, TARGET_ADMIN or manual request answers beside its code and result is that of
log 18. -/
def Obligations.DispatchJudgesTagThenEncodingAndPartState : Prop :=
  (∀ (c : Instr) (code : Byte) (s : State) (f : Frame) (rest : List Frame),
    requestCode c = some code → s.hl.intake = f :: rest → f.code = some code →
    ((s.oc.held = true ∨ s.oc.restart.isSome = true ∨ 4 ≤ s.hl.replies.length) → exec c s = .next s)
    ∧ (s.oc.held = false → s.oc.restart = none → s.hl.replies.length < 4 → (∀ e ∈ s.hl.pend, e.ended = none) →
      ((∃ e ∈ s.hl.pend, e.tag = f.tag) → Gives c s (fun t =>
        t.hl.intake = rest ∧ ReplyGiven f.tag [code, 0x04] false t ∧ t.hl.cache = s.hl.cache ∧ SameButLink s t))
      ∧ (∀ before e after, (∀ x ∈ s.hl.pend, x.tag ≠ f.tag) → s.hl.cache = before ++ e :: after →
        (∀ x ∈ before, x.tag ≠ f.tag) → e.tag = f.tag → e.code = some code → e.digest = digestOf f.payload →
        Gives c s (fun t =>
          t.hl.intake = rest ∧ ReplyGiven f.tag e.payload false t ∧ t.hl.cache = s.hl.cache ∧ SameButLink s t))))
  ∧ ∀ (derate : Bool) (s : State) (f : Frame) (rest : List Frame), Asked s f rest →
    let sampled : State := { s with pins := { s.pins with derate := derate } }
    let timed : State := if s.cs.session = .opened then { s with cs := { s.cs with editTimer := some (s.now + 30000) } } else s
    let n := f.args.length
    let arg (k : Nat) : Byte := f.args.getD k 0xFF
    (s.oc.part = .start →
      (f.code = some 0x11 → n = 3 → OnlyAnswers .setTrim s f rest [0x11, 0x05, 0x00])
      ∧ (f.code = some 0x12 → n = 1 → AnswersWith (.setDerate derate) s f rest [0x12, 0x05, 0x00] sampled)
      ∧ (f.code = some 0x15 → n = 0 → OnlyAnswers .restart s f rest [0x15, 0x05, 0x00])
      ∧ (f.code = some 0x30 → n = 2 → (arg 0).toNat ≤ 3 → OnlyAnswers .editOpen s f rest [0x30, 0x05, 0x00])
      ∧ (f.code = some 0x32 → 1 ≤ (arg 1).toNat → (arg 1).toNat ≤ 24 → n = 2 + 4 * (arg 1).toNat →
          OnlyAnswers .editPoints s f rest [0x32, 0x05, 0x00])
      ∧ (∀ (start : Byte) (items : List ImageEntry), f.code = some 0x33 → 1 ≤ items.length → items.length ≤ 32 →
          f.args = start :: byteOf items.length :: items.flatMap entryBytes → OnlyAnswers .editEntries s f rest [0x33, 0x05, 0x00])
      ∧ (f.code = some 0x34 → n = 1 → OnlyAnswers .editCount s f rest [0x34, 0x05, 0x00])
      ∧ (f.code = some 0x35 → n = 0 → OnlyAnswers .editRemove s f rest [0x35, 0x05, 0x00])
      ∧ (f.code = some 0x36 → n = 0 → OnlyAnswers .editShow s f rest [0x36, 0x05, 0x00])
      ∧ (f.code = some 0x37 → n = 0 → OnlyAnswers .editCommit s f rest [0x37, 0x05, 0x00])
      ∧ (f.code = some 0x38 → n = 0 → OnlyAnswers .editAbandon s f rest [0x38, 0x05, 0x00]))
    ∧ (f.code = some 0x10 → n ≠ 1 ∨ 3 < (arg 0).toNat →
        OnlyAnswers .setMode s f rest [0x10, 0x02, s.oc.part.code, s.oc.part.code])
    ∧ (f.code = some 0x11 → n ≠ 3 → OnlyAnswers .setTrim s f rest [0x11, 0x02])
    ∧ (f.code = some 0x12 → n ≠ 1 → AnswersWith (.setDerate derate) s f rest [0x12, 0x02] sampled)
    ∧ (f.code = some 0x13 → n ≠ 0 → AnswersWith (.passNow derate) s f rest [0x13, 0x02] sampled)
    ∧ (f.code = some 0x14 → n ≠ 2 ∨ 7 < (arg 0).toNat ∨ arg 1 = 0 ∨ 5 < (arg 1).toNat →
        OnlyAnswers (.targetAdmin derate) s f rest [0x14, 0x02, arg 0, arg 1, 0xFF, 0xFF, 0x00])
    ∧ (f.code = some 0x15 → n ≠ 0 → OnlyAnswers .restart s f rest [0x15, 0x02])
    ∧ (f.code = some 0x20 → n ≠ 4 ∨ (7 < (arg 0).toNat ∧ arg 0 ≠ 0xFF) →
        OnlyAnswers .manualRead s f rest [0x20, 0x02, arg 0, arg 1, arg 2])
    ∧ (f.code = some 0x21 → n < 4 ∨ n ≠ 4 + (arg 3).toNat ∨ (7 < (arg 0).toNat ∧ arg 0 ≠ 0xFF) →
        OnlyAnswers .manualWrite s f rest [0x21, 0x02, arg 0, arg 1, arg 2])
    ∧ (f.code = some 0x30 → n ≠ 2 ∨ 3 < (arg 0).toNat → OnlyAnswers .editOpen s f rest [0x30, 0x02])
    ∧ (f.code = some 0x32 → n < 2 ∨ arg 1 = 0 ∨ 24 < (arg 1).toNat ∨ n ≠ 2 + 4 * (arg 1).toNat →
        AnswersWith .editPoints s f rest [0x32, 0x02] timed)
    ∧ (f.code = some 0x33 → n < 2 ∨ arg 1 = 0 ∨ 32 < (arg 1).toNat ∨ n ≠ 2 + 5 * (arg 1).toNat →
        AnswersWith .editEntries s f rest [0x33, 0x02] timed)
    ∧ (∀ (start : Byte) (before after : List ImageEntry) (reg width hi lo delay : Byte), f.code = some 0x33 →
        before.length + 1 + after.length ≤ 32 → 1 < width.toNat →
        f.args = start :: byteOf (before.length + 1 + after.length) :: (before.flatMap entryBytes
          ++ ([reg, width, hi, lo, delay] ++ after.flatMap entryBytes)) →
        AnswersWith .editEntries s f rest [0x33, 0x02] timed)
    ∧ (f.code = some 0x34 → n ≠ 1 → AnswersWith .editCount s f rest [0x34, 0x02] timed)
    ∧ (f.code = some 0x35 → n ≠ 0 → AnswersWith .editRemove s f rest [0x35, 0x02] timed)
    ∧ (f.code = some 0x36 → n ≠ 0 → AnswersWith .editShow s f rest [0x36, 0x02] timed)
    ∧ (f.code = some 0x37 → n ≠ 0 → OnlyAnswers .editCommit s f rest [0x37, 0x02])
    ∧ (f.code = some 0x38 → n ≠ 0 → OnlyAnswers .editAbandon s f rest [0x38, 0x02])

/-- The requests that report, answered at their dispatch and changing nothing: IDENTIFY, and GET_STATUS with the
DERATE input sampled, in every part state; GET_MEASUREMENTS, GET_TARGET, GET_PROFILE, GET_SHADOW (here with no
invalidation outstanding, log 6), GET_IMAGE and GET_SETTINGS after START, each with the items of its rule in their order
(where R196 leaves a layout open it is log 18), in START with WRONG_STATE. In START before the scan's end the effective
derate level of GET_STATUS counts the factory pin level, the model's choice (log 8), and its counts tell no transfer on
the bus from the waiting ones (log 45). A slot, an id, a start or a count out of range,
and another number of arguments, are BAD_ARGUMENT; a code that names no request, or none, is UNKNOWN_REQUEST. -/
def Obligations.ReportsAnswerAndChangeNothing : Prop :=
  ∀ (derate : Bool) (s : State) (f : Frame) (rest : List Frame), Asked s f rest →
    (f.code = none → OnlyAnswers .unknownRequest s f rest [0x00, 0x01])
    ∧ (∀ c, f.code = some c → c ∉ requestCodes → OnlyAnswers .unknownRequest s f rest [c, 0x01])
    ∧ (f.code = some 0x01 → f.args = [] →
        OnlyAnswers .identify s f rest [0x01, 0x00, 0x3A, 0x17, 0x42, 0x08, 0x01, 0x08, 0x40, 0x18, 0x20, 0x20, 0x10])
    ∧ (f.code = some 0x02 → f.args = [] → ∃ tail,
        AnswersWith (.getStatus derate) s f rest ([0x02, 0x00, s.oc.part.code, s.oc.cause.code] ++ (optional 2 (s.mu.ti.map signed16)
          ++ ([s.mu.effSource.code, s.mu.supply.code, s.bm.cond.code, byteOf (countClass .manual s.bm.queue),
            byteOf (countClass .check s.bm.queue), byteOf (countClass .restore s.bm.queue), byteOf (countClass .compensate s.bm.queue),
            byteOf s.bm.queue.length, byteOf s.nu.queue.length, byteOf (outstandingCount s.nu.queue), flagByte s.nu.stalled,
            s.cs.session.code, byteOf s.hl.pend.length, byteOf s.ce.hostDerate, flagByte derate,
            byteOf (max s.ce.hostDerate (if derate then (activeSettings s).deratePin else 0))] ++ tail)))
          { s with pins := { s.pins with derate := derate } }
        ∧ tail.length = 8 ∧ ∀ slot : Slot, tail[slot.val]? = some s.ctxs[slot].state.code)
    ∧ (s.oc.part ≠ .start →
      let mu := s.mu
      let header (h : ProfileHeader) : List Byte := [flagByte h.enabled, byteOf h.slot, h.param, widthCode h.width, orderCode h.order,
        byteOf h.rank, interpCode h.interp] ++ be16 h.lower ++ be16 h.upper ++ be16 h.stepLimit ++ optional 2 (h.start.map be16)
        ++ [derateModeCode h.derate]
      let record (r : TargetRecord) : List Byte := [r.addr, flagByte r.autoStart]
        ++ optional 3 (r.identity.map (fun c => [c.reg, c.expected, c.mask])) ++ optional 2 (r.marker.map (fun c => [c.reg, c.value]))
        ++ optional 2 (r.status.map (fun c => [c.reg, c.mask])) ++ optional 2 (r.latch.map (fun c => [c.reg, c.value]))
        ++ be16 r.checkPeriod ++ [byteOf r.retryLimit]
      let entry (e : ImageEntry) : List Byte := [e.reg, widthCode e.width] ++ be16 e.value ++ [byteOf e.delay]
      let settings (x : Settings) : List Byte := be16 x.period ++ [x.source.code, byteOf x.k, byteOf x.h] ++ signed16 x.low
        ++ signed16 x.high ++ be16 x.floor ++ be16 x.margin ++ [speedCode x.speed, byteOf x.holdTime, byteOf x.recoveryLimit,
        byteOf x.deratePin, startModeCode x.startMode]
      let copies (e : DirEntry) : List Byte :=
        let gen (i : CopyInfo) : List Byte := be16 ((i.gen.map BitVec.toNat).getD 0)
        [e.a.code, e.b.code] ++ gen e.a ++ gen e.b ++ (match e.active with
          | some .a => [0x00]
          | some .b => [0x01]
          | none => [0xFF]) ++ (match e.active.map e.info with
          | some (.valid _) => [0x01, 0x00]
          | some _ => [0x00, 0x01]
          | none => [0x00, if e.a = .damaged ∨ e.b = .damaged then 0x02 else 0x00])
      let queued (k : Nat) : Option Transfer := s.bm.queue.find? (fun t => t.id == k)
      (∀ r ti, f.code = some 0x03 → f.args = [] → mu.reading = some r → mu.ti = some ti → OnlyAnswers .getMeasurements s f rest
        (([0x03, 0x00] : List Byte) ++ be16 mu.cycleCount.toNat ++ signed16 r.die ++ signed16 r.remote ++ [r.remoteStatus.code]
          ++ (match r.remoteStatus with
            | .openCircuit => [0x01, 0x00]
            | .short => [0x01, 0x01]
            | .ok => if r.remote < -880 ∨ 2400 < r.remote then [0x01, 0x02] else [0x00, 0x00])
          ++ be16 r.supply ++ signed16 mu.tf ++ signed16 ti ++ [mu.sourceInUse.code, mu.effSource.code, mu.remoteCond.code,
          byteOf mu.runCount, mu.span.code, mu.supply.code] ++ be16 mu.lastPeriod ++ [byteOf mu.inUse.k, byteOf mu.inUse.h]
          ++ signed16 mu.inUse.low ++ signed16 mu.inUse.high ++ be16 mu.inUse.floor ++ be16 mu.inUse.margin))
      ∧ (∀ slot : Slot, f.code = some 0x04 → f.args = [byteOf slot.val] →
          let c := s.ctxs[slot]
          let timer (t : Option Nat) : List Byte := optional 4 (t.map (fun x => be32 (x - s.now)))
          let inQueue (k : Machine.Class) : Byte := byteOf ((s.bm.queue.filter (fun t => t.slot == some slot && t.cls == k)).length)
          OnlyAnswers .getTarget s f rest (([0x04, 0x00] : List Byte)
            ++ (match activeRecord s slot with
              | some r => 0x01 :: record r
              | none => List.replicate 19 0x00)
            ++ (match activeImage s slot with
              | some es => [0x01, byteOf es.length]
              | none => [0x00, 0x00])
            ++ [c.state.code, c.reason.code] ++ c.detail.bytes ++ c.cursor.bytes ++ [flagByte c.roomMark, c.checkStep.code]
            ++ (match c.awaited.bind queued with
              | some t => [0x01, t.cls.code, flagByte t.onBus]
              | none => [0x00, 0x00, 0x00])
            ++ [flagByte c.staleHold.isSome] ++ timer c.checkTimer ++ timer c.faultTimer
            ++ [byteOf c.recovery, byteOf (activeSettings s).recoveryLimit] ++ be16 c.loads ++ be16 c.losses ++ be16 c.faults
            ++ [inQueue .manual, inQueue .check, inQueue .restore, inQueue .compensate]))
      ∧ (∀ id : ProfileId, f.code = some 0x05 → f.args = [byteOf id.val] →
          OnlyAnswers .getProfile s f rest (([0x05, 0x00] : List Byte) ++ copies (s.cs.dir.entry (.profile id)) ++ (match activeProfile s id with
            | some p => header p.header ++ byteOf p.points.length :: p.points.flatMap (fun q => signed16 q.temp ++ be16 q.value)
            | none => List.replicate 18 0x00)))
      ∧ (∀ id : ProfileId, f.code = some 0x06 → f.args = [byteOf id.val] → (∀ i : Slot, s.msgs.ceInvalidate[i] = false) →
          let sh := s.ce.shadows[id]
          OnlyAnswers .getShadow s f rest ([0x06, 0x00, byteOf id.val]
            ++ (match activeProfile s id with
              | some p => [0x01, flagByte p.header.enabled, byteOf p.header.slot, p.header.param]
              | none => [0x00, 0x00, 0x00, 0x00])
            ++ optional 2 (sh.computed.map be16) ++ optional 2 (sh.written.map be16)
            ++ (match sh.waiting with
              | some w => 0x01 :: (be16 w.value ++ (match queued w.id with
                | some t => [t.cls.code, byteOf t.attempts]
                | none => [0x00, 0x00]))
              | none => List.replicate 5 0x00)
            ++ (match sh.onBus with
              | some w => 0x01 :: (be16 w.value ++ (match queued w.id with
                | some t => [t.cls.code]
                | none => [0x00]))
              | none => List.replicate 4 0x00)
            ++ optional 2 (sh.reference.map be16) ++ [flagByte sh.deferred, flagByte sh.clamped] ++ signed16 s.ce.trims[id]
            ++ (match (activeProfile s id).bind (fun p => (List.finRange 8).find? (fun i => i.val == p.header.slot)) with
              | some i => [flagByte s.ce.latches[i].deferred, flagByte s.ce.latches[i].waiting.isSome, flagByte s.ce.latches[i].onBus.isSome]
              | none => [0x00, 0x00, 0x00])
            ++ be16 s.ce.passCount.toNat))
      ∧ (∀ (slot : Slot) (start n : Byte), f.code = some 0x07 → f.args = [byteOf slot.val, start, n] →
          let entries := (activeImage s slot).getD []
          ((start.toNat ≤ 31 ∧ 1 ≤ n.toNat ∧ n.toNat ≤ 32) →
            OnlyAnswers .getImage s f rest (([0x07, 0x00] : List Byte) ++ copies (s.cs.dir.entry (.image slot)) ++ [byteOf entries.length]
              ++ ((entries.drop start.toNat).take n.toNat).flatMap entry))
          ∧ ((31 < start.toNat ∨ n = 0 ∨ 32 < n.toNat) → OnlyAnswers .getImage s f rest [0x07, 0x02]))
      ∧ (f.code = some 0x08 → f.args = [] → OnlyAnswers .getSettings s f rest
          (([0x08, 0x00] : List Byte) ++ copies s.cs.dir.settings ++ [s.cs.inEffect.code] ++ settings (activeSettings s)))
      ∧ (∀ b : Byte, 64 ≤ b.toNat → f.args = [b] →
          (f.code = some 0x05 → OnlyAnswers .getProfile s f rest [0x05, 0x02])
          ∧ (f.code = some 0x06 → OnlyAnswers .getShadow s f rest [0x06, 0x02])))
    ∧ (s.oc.part = .start →
      (f.code = some 0x03 → f.args = [] → OnlyAnswers .getMeasurements s f rest [0x03, 0x05, 0x00])
      ∧ (∀ slot : Slot, f.code = some 0x04 → f.args = [byteOf slot.val] → OnlyAnswers .getTarget s f rest [0x04, 0x05, 0x00])
      ∧ (∀ b, f.code = some 0x05 → f.args = [b] → OnlyAnswers .getProfile s f rest [0x05, 0x05, 0x00])
      ∧ (∀ b, f.code = some 0x06 → f.args = [b] → OnlyAnswers .getShadow s f rest [0x06, 0x05, 0x00])
      ∧ (∀ (slot : Slot) (start n : Byte), f.code = some 0x07 → f.args = [byteOf slot.val, start, n] →
          OnlyAnswers .getImage s f rest [0x07, 0x05, 0x00])
      ∧ (f.code = some 0x08 → f.args = [] → OnlyAnswers .getSettings s f rest [0x08, 0x05, 0x00]))
    ∧ (f.args ≠ [] →
      (f.code = some 0x01 → OnlyAnswers .identify s f rest [0x01, 0x02])
      ∧ (f.code = some 0x02 → AnswersWith (.getStatus derate) s f rest [0x02, 0x02] { s with pins := { s.pins with derate := derate } })
      ∧ (f.code = some 0x03 → OnlyAnswers .getMeasurements s f rest [0x03, 0x02])
      ∧ (f.code = some 0x08 → OnlyAnswers .getSettings s f rest [0x08, 0x02]))
    ∧ (∀ b : Byte, 8 ≤ b.toNat →
      (f.code = some 0x04 → f.args = [b] → OnlyAnswers .getTarget s f rest [0x04, 0x02])
      ∧ (∀ start n, f.code = some 0x07 → f.args = [b, start, n] → OnlyAnswers .getImage s f rest [0x07, 0x02]))
    ∧ (f.args.length ≠ 1 →
      (f.code = some 0x04 → OnlyAnswers .getTarget s f rest [0x04, 0x02])
      ∧ (f.code = some 0x05 → OnlyAnswers .getProfile s f rest [0x05, 0x02])
      ∧ (f.code = some 0x06 → OnlyAnswers .getShadow s f rest [0x06, 0x02]))
    ∧ (f.args.length ≠ 3 → f.code = some 0x07 → OnlyAnswers .getImage s f rest [0x07, 0x02])

/-- SET_MODE moves between RUN and HOLD, is WRONG_STATE in START and SAFE and BAD_ARGUMENT for START and SAFE as its
argument, always with the state before and after; SET_TRIM and SET_DERATE take the new value and answer the old and
the new one, the latter with the effective level; PASS_NOW in RUN with the announced supply NORMAL runs the pass of
PassVisitsEveryServedProfile and answers its number, Ti, its level and its account, else is WRONG_STATE; RESTART with requests pending is BUSY with their number, else its reply is marked and the restart
pending. -/
def Obligations.ControlRequestsTakeEffectAtDispatch : Prop :=
  ∀ (derate : Bool) (s : State) (f : Frame) (rest : List Frame), Asked s f rest →
    (∀ (asked : PartState), f.code = some 0x10 → f.args = [asked.code] →
      (s.oc.part = .start ∨ s.oc.part = .safe → OnlyAnswers .setMode s f rest [0x10, 0x05, s.oc.part.code, s.oc.part.code])
      ∧ (s.oc.part = .run ∨ s.oc.part = .hold →
        (asked = .run ∨ asked = .hold → AnswersWith .setMode s f rest [0x10, 0x00, s.oc.part.code, asked.code]
          { s with oc := { s.oc with part := asked } })
        ∧ (asked = .start ∨ asked = .safe → OnlyAnswers .setMode s f rest [0x10, 0x02, s.oc.part.code, s.oc.part.code])))
    ∧ (∀ b hi lo : Byte, f.code = some 0x11 → f.args = [b, hi, lo] → s.oc.part ≠ .start →
      (∀ id : ProfileId, b.toNat = id.val →
        AnswersWith .setTrim s f rest ([0x11, 0x00, b] ++ (signed16 s.ce.trims[id] ++ [hi, lo]))
          { s with ce := { s.ce with trims := s.ce.trims.set id (hi ++ lo).toInt } })
      ∧ (64 ≤ b.toNat → OnlyAnswers .setTrim s f rest [0x11, 0x02]))
    ∧ (∀ level : Byte, f.code = some 0x12 → f.args = [level] → s.oc.part ≠ .start →
      (level.toNat ≤ 2 → AnswersWith (.setDerate derate) s f rest [0x12, 0x00, byteOf s.ce.hostDerate, level,
          byteOf (max level.toNat (if derate then (activeSettings s).deratePin else 0))]
        { s with pins := { s.pins with derate := derate }, ce := { s.ce with hostDerate := level.toNat } })
      ∧ (2 < level.toNat → AnswersWith (.setDerate derate) s f rest [0x12, 0x02]
        { s with pins := { s.pins with derate := derate } }))
    ∧ (f.code = some 0x13 → f.args = [] →
      (s.oc.part ≠ .run ∨ s.ce.supply = .low → AnswersWith (.passNow derate) s f rest [0x13, 0x05, s.oc.part.code]
        { s with pins := { s.pins with derate := derate } })
      ∧ (∀ ti, s.oc.part = .run → s.ce.supply = .normal → s.mu.ti = some ti →
        let dispatched : State := { s with
          pins := { s.pins with derate := derate, hrdy := decide (rest.length < 2) }
          hl := { s.hl with intake := rest, cache := s.hl.cache.filter (fun e => e.tag != f.tag) } }
        let x := runPass dispatched
        AnswersWith (.passNow derate) s f rest (([0x13, 0x00] : List Byte) ++ be16 (s.ce.passCount + 1).toNat ++ signed16 ti
          ++ [byteOf (passLevel dispatched), byteOf x.2.evaluated, byteOf x.2.enqueued, byteOf x.2.replaced, byteOf x.2.deferred,
          byteOf x.2.latchesEnqueued, byteOf x.2.latchesMoved, byteOf x.2.latchesDeferred]) x.1
        ∧ x.1.ce.passCount = s.ce.passCount + 1 ∧ x.1.ce.trims = s.ce.trims ∧ x.1.ctxs = s.ctxs ∧ x.1.cs = s.cs ∧ x.1.mu = s.mu
        ∧ x.1.oc = s.oc))
    ∧ (f.code = some 0x15 → f.args = [] → s.oc.part ≠ .start →
      (s.hl.pend ≠ [] → OnlyAnswers .restart s f rest [0x15, 0x03, byteOf s.hl.pend.length])
      ∧ (s.hl.pend = [] → Gives .restart s (fun t => t.hl.intake = rest ∧ ReplyGiven f.tag [0x15, 0x00] true t
          ∧ SameButLink { s with oc := { s.oc with restart := some f.tag } } t)))

/-- MANUAL_READ of 1 to 16 bytes and MANUAL_WRITE of 1 to 16 bytes, to a slot whose state admits them or raw to an
address 08h to 77h that no slot owns against writes, with an entry free in the pending table, the bus READY and room
in the queue: the request is pending, without reply, and its transfer stands in the queue at the record's address or
the raw one. A slot that is still UNCONFIGURED owns no address (log 32). A slot without an active record is refused as an UNCONFIGURED one is (log 36 for one whose removal the TM
has not taken yet). Otherwise, in this order: START, a length out of range, the target state or the owning slot, a full
pending table, a bus in FAULT, a full queue: refused with the request's slot, address and register. -/
def Obligations.ManualRequestsAreQueuedOrRefused : Prop :=
  ∀ (s : State) (f : Frame) (rest : List Frame) (b a reg n : Byte) (data : List Byte) (d : Dir), Asked s f rest →
    (match d with
      | .read => f.code = some 0x20 ∧ f.args = [b, a, reg, n] ∧ data = []
      | .write => f.code = some 0x21 ∧ f.args = b :: a :: reg :: n :: data ∧ data.length = n.toNat) →
    let c : Instr := match d with
      | .read => .manualRead
      | .write => .manualWrite
    let refused (r : Byte) (content : List Byte) : Prop :=
      OnlyAnswers c s f rest ((match d with
        | .read => 0x20
        | .write => 0x21) :: r :: b :: a :: reg :: content)
    let queued (slot : Option Slot) (addr : Byte) : Prop := Gives c s (fun t =>
      t.hl.intake = rest ∧ t.hl.replies = s.hl.replies ∧ t.hl.tx = s.hl.tx
      ∧ t.hl.pend = s.hl.pend ++ [⟨f.tag, f.code.getD 0, digestOf f.payload, .transfer s.bm.nextId, none⟩]
      ∧ t.bm.queue.length = s.bm.queue.length + 1
      ∧ (∃ x ∈ t.bm.queue, x.id = s.bm.nextId ∧ x.origin = .request f.tag ∧ x.slot = slot ∧ x.addr = addr ∧ x.dir = d
          ∧ x.reg = reg ∧ x.data = data ∧ x.readLen = (match d with
            | .read => n.toNat
            | .write => 0) ∧ x.attempts = 0 ∧ x.delay = 0 ∧ x.stale = false)
      ∧ t.ctxs = s.ctxs ∧ t.cs = s.cs ∧ t.nu = s.nu ∧ t.msgs = s.msgs ∧ t.mu = s.mu ∧ t.oc = s.oc
      ∧ ∀ id : ProfileId, t.ce.shadows[id].written = s.ce.shadows[id].written)
    let admitted (slot : Option Slot) (addr : Byte) : Prop :=
      (4 ≤ s.hl.pend.length → refused 0x03 [])
      ∧ (s.hl.pend.length < 4 → s.bm.cond = .fault → refused 0x0D [0x05])
      ∧ (s.hl.pend.length < 4 → s.bm.cond = .ready → 32 ≤ s.bm.queue.length → refused 0x0B [])
      ∧ (s.hl.pend.length < 4 → s.bm.cond = .ready → s.bm.queue.length < 32 → queued slot addr)
    ((b = 0xFF ∨ b.toNat < 8) → s.oc.part = .start → refused 0x05 [0x00])
    ∧ (s.oc.part ≠ .start →
      ((b = 0xFF ∨ b.toNat < 8) → (n = 0 ∨ 16 < n.toNat ∨ (b = 0xFF ∧ (a.toNat < 0x08 ∨ 0x77 < a.toNat))) → refused 0x02 [])
      ∧ (1 ≤ n.toNat → n.toNat ≤ 16 →
        (∀ (slot : Slot) (r : TargetRecord), b = byteOf slot.val → activeRecord s slot = some r →
          let st := s.ctxs[slot].state
          ((st = .suspended ∨ (d = .read ∧ (st = .disabled ∨ st = .inService ∨ st = .faultHold ∨ st = .mismatch ∨ st = .outOfService))) →
            admitted (some slot) r.addr)
          ∧ ((st = .unconfigured ∨ st = .probing ∨ st = .loading ∨ (d = .write ∧ st ≠ .suspended)) →
            refused 0x06 [byteOf slot.val, st.code]))
        ∧ (∀ slot : Slot, b = byteOf slot.val → activeRecord s slot = none → refused 0x06 [byteOf slot.val, s.ctxs[slot].state.code])
        ∧ (b = 0xFF → 0x08 ≤ a.toNat → a.toNat ≤ 0x77 →
          let owns (i : Slot) : Prop := s.ctxs[i].state ≠ .unconfigured ∧ s.ctxs[i].state ≠ .suspended ∧ s.ctxs[i].state ≠ .disabled
            ∧ ∃ r, activeRecord s i = some r ∧ r.addr = a
          (d = .read → admitted none a)
          ∧ ((∀ i : Slot, ¬ owns i) → admitted none a)
          ∧ (∀ i : Slot, d = .write → owns i → (∀ j : Slot, j < i → ¬ owns j) → refused 0x0A [byteOf i.val, s.ctxs[i].state.code]))))

/-! ### What every command keeps -/

/-- The reset state, that of a part as manufactured at power-up (log 7), meets every invariant stated below. -/
def Obligations.ResetStateMeetsInvariants : Prop :=
  QueueBounded State.reset ∧ OneOnBus State.reset ∧ NoticesBounded State.reset ∧ AlertShown State.reset ∧ WindowKept State.reset
    ∧ LinkBounded State.reset ∧ EndedWaitForRoom State.reset ∧ TagsDiffer State.reset ∧ CacheTagsDiffer State.reset ∧ ReadyShown State.reset ∧ StoreLaw State.reset
    ∧ SlotLaw State.reset ∧ LatchLaw State.reset ∧ WriteLaw State.reset

/-- From every state, each step keeps the transfer queue within 32 transfers and 24 of class COMPENSATE, gives its
transfers handles of their own and has at most one of them ON_BUS. -/
def Obligations.EveryStepKeepsQueueBounds : Prop :=
  ∀ s t : State, QueueBounded s → OneOnBus s → step s = .next t → QueueBounded t ∧ OneOnBus t

/-- From every state, each step keeps the notice queue within 16 entries with its transmitted entries a prefix of at
most 4 and ALERT_N low exactly while a FAULT entry is queued; and the intake within 2 frames, the pending table, the
reply queue and the reply cache within 4 entries, the TAGs of pending requests different, at most one cached reply for a
TAG and none for the TAG of a pending request (R181), no ended operation waiting
beside room in the reply queue, and HRDY showing the intake. -/
def Obligations.EveryStepKeepsLinkAndNotices : Prop :=
  ∀ s t : State, NoticesBounded s → AlertShown s → WindowKept s → LinkBounded s → EndedWaitForRoom s → TagsDiffer s → CacheTagsDiffer s →
    ReadyShown s →
    step s = .next t →
    NoticesBounded t ∧ AlertShown t ∧ WindowKept t ∧ LinkBounded t ∧ EndedWaitForRoom t ∧ TagsDiffer t
      ∧ CacheTagsDiffer t ∧ ReadyShown t

/-- From every state, each step keeps the store law: one commit at most, aside of the active copy, and every active
copy valid; so an object that has an active copy keeps it through a commit, a verify failure and its retry. -/
def Obligations.EveryStepKeepsStoreLaw : Prop :=
  ∀ s t : State, StoreLaw s → step s = .next t → StoreLaw t

/-- From every state, each step keeps the law of slots and the law of latches: no automatic transfer outlives the state
that makes it but as a stale one on the bus, no step is placed beside a stale hold, the timers run in their states
alone, and a slot has at most one waiting COMPENSATE latch, which its waiting reference names. -/
def Obligations.EveryStepKeepsSlotAndLatchLaws : Prop :=
  ∀ s t : State, OneOnBus s → SlotLaw s → LatchLaw s → step s = .next t → SlotLaw t ∧ LatchLaw t

/-- From every state, each step keeps the law of writes while no profile activation is outstanding: a profile has at
most one waiting write, which its waiting reference names, and the on-bus reference names the one on the bus. A commit's
end followed by the PROFILE_ACTIVATION it announces keeps it too; between the two it need not hold (log 34). -/
def Obligations.WritesStayNamedByTheirShadows : Prop :=
  (∀ s t : State, OneOnBus s → SlotLaw s → StoreLaw s → WriteLaw s → s.cs.scanning = false → s.msgs.ceProfile = [] →
    step s = .next t → t.msgs.ceProfile = [] → WriteLaw t)
  ∧ ∀ (verified derate : Bool) (s t u : State), OneOnBus s → SlotLaw s → StoreLaw s → WriteLaw s → s.cs.scanning = false →
    s.msgs.ceProfile = [] → exec (.commitEnd verified) s = .next t → exec (.profileActivation derate) t = .next u → WriteLaw u

/-- Every command answers a next state in every state, and none touches the queue of commands (log 26). The resets are
POWER_ON_RESET, PIN_RESET, RESET_RELEASE and FRAME_SENT, each of these two whether it ends a reset or not. Outside the
resets, the scan's end and the commit's end no command changes a copy or moves an active copy: EDIT_COMMIT does not
either, since the store's bytes change at the end of the programming (log 30, DEDUCED); outside the resets, the
end of START and SET_MODE none moves the part state, and SAFE is left by a reset alone; outside the resets, SET_TRIM
and PROFILE_ACTIVATION none changes a trim, and outside the resets and SET_DERATE none the host level. -/
def Obligations.EveryCommandKeepsWhatItDoesNotName : Prop :=
  ∀ (c : Instr) (s : State), Gives c s (fun t =>
    let resets : Prop := c = .powerOnReset ∨ c = .pinReset ∨ (∃ straps, c = .resetRelease straps) ∨ ∃ straps, c = .frameSent straps
    t.pending = s.pending
    ∧ (resets ∨ (∃ d, c = .startUpScanEnd d) ∨ (∃ v, c = .commitEnd v)
        ∨ (t.cs.store = s.cs.store ∧ ∀ obj, (t.cs.dir.entry obj).active = (s.cs.dir.entry obj).active))
    ∧ (resets ∨ c = .endOfStart ∨ c = .setMode ∨ t.oc.part = s.oc.part)
    ∧ (s.oc.part = .safe → resets ∨ t.oc.part = .safe)
    ∧ (resets ∨ c = .setTrim ∨ (∃ d, c = .profileActivation d) ∨ t.ce.trims = s.ce.trims)
    ∧ (resets ∨ (∃ d, c = .setDerate d) ∨ t.ce.hostDerate = s.ce.hostDerate))

end
end

