-- ==== Sys2Proof/Laws/State.lean ====
section
/-! SUPPORT. Every field of the state after each plain update, true by definition: the updated fields as
the update gives them, every other field as it was. -/

namespace Sys2Proof.Machine

variable (s : State)

@[simp] theorem advanceTo_fields (t : Nat) :
    (advanceTo t s).pending = s.pending ∧ (advanceTo t s).now = max s.now t ∧ (advanceTo t s).freeDraws = s.freeDraws ∧
    (advanceTo t s).pins = s.pins ∧ (advanceTo t s).mu = s.mu ∧ (advanceTo t s).ce = s.ce ∧
    (advanceTo t s).ctxs = s.ctxs ∧ (advanceTo t s).bm = s.bm ∧ (advanceTo t s).cs = s.cs ∧
    (advanceTo t s).oc = s.oc ∧ (advanceTo t s).hl = s.hl ∧ (advanceTo t s).nu = s.nu ∧
    (advanceTo t s).msgs = s.msgs :=
  ⟨rfl, rfl, rfl, rfl, rfl, rfl, rfl, rfl, rfl, rfl, rfl, rfl, rfl⟩

@[simp] theorem sampleDerate_fields (b : Bool) :
    (sampleDerate b s).pending = s.pending ∧ (sampleDerate b s).now = s.now ∧ (sampleDerate b s).freeDraws = s.freeDraws ∧
    (sampleDerate b s).pins = { s.pins with derate := b } ∧ (sampleDerate b s).mu = s.mu ∧ (sampleDerate b s).ce = s.ce ∧
    (sampleDerate b s).ctxs = s.ctxs ∧ (sampleDerate b s).bm = s.bm ∧ (sampleDerate b s).cs = s.cs ∧
    (sampleDerate b s).oc = s.oc ∧ (sampleDerate b s).hl = s.hl ∧ (sampleDerate b s).nu = s.nu ∧
    (sampleDerate b s).msgs = s.msgs :=
  ⟨rfl, rfl, rfl, rfl, rfl, rfl, rfl, rfl, rfl, rfl, rfl, rfl, rfl⟩

@[simp] theorem drawFree_fields :
    (drawFree s).pending = s.pending ∧ (drawFree s).now = s.now ∧ (drawFree s).freeDraws = s.freeDraws + 1 ∧
    (drawFree s).pins = s.pins ∧ (drawFree s).mu = s.mu ∧ (drawFree s).ce = s.ce ∧
    (drawFree s).ctxs = s.ctxs ∧ (drawFree s).bm = s.bm ∧ (drawFree s).cs = s.cs ∧
    (drawFree s).oc = s.oc ∧ (drawFree s).hl = s.hl ∧ (drawFree s).nu = s.nu ∧
    (drawFree s).msgs = s.msgs :=
  ⟨rfl, rfl, rfl, rfl, rfl, rfl, rfl, rfl, rfl, rfl, rfl, rfl, rfl⟩

@[simp] theorem setCtx_fields (slot : Slot) (c : Ctx) :
    (setCtx slot c s).pending = s.pending ∧ (setCtx slot c s).now = s.now ∧ (setCtx slot c s).freeDraws = s.freeDraws ∧
    (setCtx slot c s).pins = s.pins ∧ (setCtx slot c s).mu = s.mu ∧ (setCtx slot c s).ce = s.ce ∧
    (setCtx slot c s).ctxs = s.ctxs.set slot c ∧ (setCtx slot c s).bm = s.bm ∧ (setCtx slot c s).cs = s.cs ∧
    (setCtx slot c s).oc = s.oc ∧ (setCtx slot c s).hl = s.hl ∧ (setCtx slot c s).nu = s.nu ∧
    (setCtx slot c s).msgs = s.msgs :=
  ⟨rfl, rfl, rfl, rfl, rfl, rfl, rfl, rfl, rfl, rfl, rfl, rfl, rfl⟩

@[simp] theorem modCtx_fields (slot : Slot) (f : Ctx → Ctx) :
    (modCtx slot f s).pending = s.pending ∧ (modCtx slot f s).now = s.now ∧ (modCtx slot f s).freeDraws = s.freeDraws ∧
    (modCtx slot f s).pins = s.pins ∧ (modCtx slot f s).mu = s.mu ∧ (modCtx slot f s).ce = s.ce ∧
    (modCtx slot f s).ctxs = s.ctxs.set slot (f s.ctxs[slot]) ∧ (modCtx slot f s).bm = s.bm ∧ (modCtx slot f s).cs = s.cs ∧
    (modCtx slot f s).oc = s.oc ∧ (modCtx slot f s).hl = s.hl ∧ (modCtx slot f s).nu = s.nu ∧
    (modCtx slot f s).msgs = s.msgs :=
  ⟨rfl, rfl, rfl, rfl, rfl, rfl, rfl, rfl, rfl, rfl, rfl, rfl, rfl⟩

@[simp] theorem setShadow_fields (id : ProfileId) (sh : Shadow) :
    (setShadow id sh s).pending = s.pending ∧ (setShadow id sh s).now = s.now ∧ (setShadow id sh s).freeDraws = s.freeDraws ∧
    (setShadow id sh s).pins = s.pins ∧ (setShadow id sh s).mu = s.mu ∧ (setShadow id sh s).ce = { s.ce with shadows := s.ce.shadows.set id sh } ∧
    (setShadow id sh s).ctxs = s.ctxs ∧ (setShadow id sh s).bm = s.bm ∧ (setShadow id sh s).cs = s.cs ∧
    (setShadow id sh s).oc = s.oc ∧ (setShadow id sh s).hl = s.hl ∧ (setShadow id sh s).nu = s.nu ∧
    (setShadow id sh s).msgs = s.msgs :=
  ⟨rfl, rfl, rfl, rfl, rfl, rfl, rfl, rfl, rfl, rfl, rfl, rfl, rfl⟩

@[simp] theorem modShadow_fields (id : ProfileId) (f : Shadow → Shadow) :
    (modShadow id f s).pending = s.pending ∧ (modShadow id f s).now = s.now ∧ (modShadow id f s).freeDraws = s.freeDraws ∧
    (modShadow id f s).pins = s.pins ∧ (modShadow id f s).mu = s.mu ∧ (modShadow id f s).ce = { s.ce with shadows := s.ce.shadows.set id (f s.ce.shadows[id]) } ∧
    (modShadow id f s).ctxs = s.ctxs ∧ (modShadow id f s).bm = s.bm ∧ (modShadow id f s).cs = s.cs ∧
    (modShadow id f s).oc = s.oc ∧ (modShadow id f s).hl = s.hl ∧ (modShadow id f s).nu = s.nu ∧
    (modShadow id f s).msgs = s.msgs :=
  ⟨rfl, rfl, rfl, rfl, rfl, rfl, rfl, rfl, rfl, rfl, rfl, rfl, rfl⟩

@[simp] theorem setLatch_fields (slot : Slot) (l : LatchState) :
    (setLatch slot l s).pending = s.pending ∧ (setLatch slot l s).now = s.now ∧ (setLatch slot l s).freeDraws = s.freeDraws ∧
    (setLatch slot l s).pins = s.pins ∧ (setLatch slot l s).mu = s.mu ∧ (setLatch slot l s).ce = { s.ce with latches := s.ce.latches.set slot l } ∧
    (setLatch slot l s).ctxs = s.ctxs ∧ (setLatch slot l s).bm = s.bm ∧ (setLatch slot l s).cs = s.cs ∧
    (setLatch slot l s).oc = s.oc ∧ (setLatch slot l s).hl = s.hl ∧ (setLatch slot l s).nu = s.nu ∧
    (setLatch slot l s).msgs = s.msgs :=
  ⟨rfl, rfl, rfl, rfl, rfl, rfl, rfl, rfl, rfl, rfl, rfl, rfl, rfl⟩

@[simp] theorem setTrimOf_fields (id : ProfileId) (t : Int) :
    (setTrimOf id t s).pending = s.pending ∧ (setTrimOf id t s).now = s.now ∧ (setTrimOf id t s).freeDraws = s.freeDraws ∧
    (setTrimOf id t s).pins = s.pins ∧ (setTrimOf id t s).mu = s.mu ∧ (setTrimOf id t s).ce = { s.ce with trims := s.ce.trims.set id t } ∧
    (setTrimOf id t s).ctxs = s.ctxs ∧ (setTrimOf id t s).bm = s.bm ∧ (setTrimOf id t s).cs = s.cs ∧
    (setTrimOf id t s).oc = s.oc ∧ (setTrimOf id t s).hl = s.hl ∧ (setTrimOf id t s).nu = s.nu ∧
    (setTrimOf id t s).msgs = s.msgs :=
  ⟨rfl, rfl, rfl, rfl, rfl, rfl, rfl, rfl, rfl, rfl, rfl, rfl, rfl⟩

@[simp] theorem setQuiet_fields (slot : Slot) (q : Option Nat) :
    (setQuiet slot q s).pending = s.pending ∧ (setQuiet slot q s).now = s.now ∧ (setQuiet slot q s).freeDraws = s.freeDraws ∧
    (setQuiet slot q s).pins = s.pins ∧ (setQuiet slot q s).mu = s.mu ∧ (setQuiet slot q s).ce = s.ce ∧
    (setQuiet slot q s).ctxs = s.ctxs ∧ (setQuiet slot q s).bm = { s.bm with quiet := s.bm.quiet.set slot q } ∧ (setQuiet slot q s).cs = s.cs ∧
    (setQuiet slot q s).oc = s.oc ∧ (setQuiet slot q s).hl = s.hl ∧ (setQuiet slot q s).nu = s.nu ∧
    (setQuiet slot q s).msgs = s.msgs :=
  ⟨rfl, rfl, rfl, rfl, rfl, rfl, rfl, rfl, rfl, rfl, rfl, rfl, rfl⟩

@[simp] theorem postNotice_fields (v : Severity) (c : NoticeContent) :
    (postNotice v c s).pending = s.pending ∧ (postNotice v c s).now = s.now ∧ (postNotice v c s).freeDraws = s.freeDraws ∧
    (postNotice v c s).pins = s.pins ∧ (postNotice v c s).mu = s.mu ∧ (postNotice v c s).ce = s.ce ∧
    (postNotice v c s).ctxs = s.ctxs ∧ (postNotice v c s).bm = s.bm ∧ (postNotice v c s).cs = s.cs ∧
    (postNotice v c s).oc = s.oc ∧ (postNotice v c s).hl = s.hl ∧ (postNotice v c s).nu = s.nu ∧
    (postNotice v c s).msgs = { s.msgs with notices := s.msgs.notices ++ [⟨v, c⟩] } :=
  ⟨rfl, rfl, rfl, rfl, rfl, rfl, rfl, rfl, rfl, rfl, rfl, rfl, rfl⟩

@[simp] theorem postNotices_fields (ns : List Notice) :
    (postNotices ns s).pending = s.pending ∧ (postNotices ns s).now = s.now ∧ (postNotices ns s).freeDraws = s.freeDraws ∧
    (postNotices ns s).pins = s.pins ∧ (postNotices ns s).mu = s.mu ∧ (postNotices ns s).ce = s.ce ∧
    (postNotices ns s).ctxs = s.ctxs ∧ (postNotices ns s).bm = s.bm ∧ (postNotices ns s).cs = s.cs ∧
    (postNotices ns s).oc = s.oc ∧ (postNotices ns s).hl = s.hl ∧ (postNotices ns s).nu = s.nu ∧
    (postNotices ns s).msgs = { s.msgs with notices := s.msgs.notices ++ ns } :=
  ⟨rfl, rfl, rfl, rfl, rfl, rfl, rfl, rfl, rfl, rfl, rfl, rfl, rfl⟩

@[simp] theorem askInvalidation_fields (slot : Slot) :
    (askInvalidation slot s).pending = s.pending ∧ (askInvalidation slot s).now = s.now ∧ (askInvalidation slot s).freeDraws = s.freeDraws ∧
    (askInvalidation slot s).pins = s.pins ∧ (askInvalidation slot s).mu = s.mu ∧ (askInvalidation slot s).ce = s.ce ∧
    (askInvalidation slot s).ctxs = s.ctxs ∧ (askInvalidation slot s).bm = s.bm ∧ (askInvalidation slot s).cs = s.cs ∧
    (askInvalidation slot s).oc = s.oc ∧ (askInvalidation slot s).hl = s.hl ∧ (askInvalidation slot s).nu = s.nu ∧
    (askInvalidation slot s).msgs = { s.msgs with ceInvalidate := s.msgs.ceInvalidate.set slot true } :=
  ⟨rfl, rfl, rfl, rfl, rfl, rfl, rfl, rfl, rfl, rfl, rfl, rfl, rfl⟩

@[simp] theorem setNu_fields (nu : Nu) :
    (setNu nu s).pending = s.pending ∧ (setNu nu s).now = s.now ∧ (setNu nu s).freeDraws = s.freeDraws ∧
    (setNu nu s).pins = { s.pins with alertN := alertLevel nu.queue } ∧ (setNu nu s).mu = s.mu ∧ (setNu nu s).ce = s.ce ∧
    (setNu nu s).ctxs = s.ctxs ∧ (setNu nu s).bm = s.bm ∧ (setNu nu s).cs = s.cs ∧
    (setNu nu s).oc = s.oc ∧ (setNu nu s).hl = s.hl ∧ (setNu nu s).nu = nu ∧
    (setNu nu s).msgs = s.msgs :=
  ⟨rfl, rfl, rfl, rfl, rfl, rfl, rfl, rfl, rfl, rfl, rfl, rfl, rfl⟩

@[simp] theorem pushReply_fields (r : Reply) :
    (pushReply r s).pending = s.pending ∧ (pushReply r s).now = s.now ∧ (pushReply r s).freeDraws = s.freeDraws ∧
    (pushReply r s).pins = s.pins ∧ (pushReply r s).mu = s.mu ∧ (pushReply r s).ce = s.ce ∧
    (pushReply r s).ctxs = s.ctxs ∧ (pushReply r s).bm = s.bm ∧ (pushReply r s).cs = s.cs ∧
    (pushReply r s).oc = s.oc ∧ (pushReply r s).hl = { s.hl with replies := s.hl.replies ++ [r] } ∧ (pushReply r s).nu = s.nu ∧
    (pushReply r s).msgs = s.msgs :=
  ⟨rfl, rfl, rfl, rfl, rfl, rfl, rfl, rfl, rfl, rfl, rfl, rfl, rfl⟩

@[simp] theorem addPending_fields (f : Frame) (op : PendingOp) :
    (addPending f op s).pending = s.pending ∧ (addPending f op s).now = s.now ∧ (addPending f op s).freeDraws = s.freeDraws ∧
    (addPending f op s).pins = s.pins ∧ (addPending f op s).mu = s.mu ∧ (addPending f op s).ce = s.ce ∧
    (addPending f op s).ctxs = s.ctxs ∧ (addPending f op s).bm = s.bm ∧ (addPending f op s).cs = s.cs ∧
    (addPending f op s).oc = s.oc ∧ (addPending f op s).hl = { s.hl with pend := s.hl.pend ++ [⟨f.tag, f.code.getD 0, digestOf f.payload, op, none⟩] } ∧ (addPending f op s).nu = s.nu ∧
    (addPending f op s).msgs = s.msgs :=
  ⟨rfl, rfl, rfl, rfl, rfl, rfl, rfl, rfl, rfl, rfl, rfl, rfl, rfl⟩

@[simp] theorem evictTag_fields (tag : Byte) :
    (evictTag tag s).pending = s.pending ∧ (evictTag tag s).now = s.now ∧ (evictTag tag s).freeDraws = s.freeDraws ∧
    (evictTag tag s).pins = s.pins ∧ (evictTag tag s).mu = s.mu ∧ (evictTag tag s).ce = s.ce ∧
    (evictTag tag s).ctxs = s.ctxs ∧ (evictTag tag s).bm = s.bm ∧ (evictTag tag s).cs = s.cs ∧
    (evictTag tag s).oc = s.oc ∧ (evictTag tag s).hl = { s.hl with cache := s.hl.cache.filter (fun e => e.tag != tag) } ∧ (evictTag tag s).nu = s.nu ∧
    (evictTag tag s).msgs = s.msgs :=
  ⟨rfl, rfl, rfl, rfl, rfl, rfl, rfl, rfl, rfl, rfl, rfl, rfl, rfl⟩

@[simp] theorem setIntake_fields (fs : List Frame) :
    (setIntake fs s).pending = s.pending ∧ (setIntake fs s).now = s.now ∧ (setIntake fs s).freeDraws = s.freeDraws ∧
    (setIntake fs s).pins = { s.pins with hrdy := !s.oc.held && hrdyLevel fs } ∧ (setIntake fs s).mu = s.mu ∧ (setIntake fs s).ce = s.ce ∧
    (setIntake fs s).ctxs = s.ctxs ∧ (setIntake fs s).bm = s.bm ∧ (setIntake fs s).cs = s.cs ∧
    (setIntake fs s).oc = s.oc ∧ (setIntake fs s).hl = { s.hl with intake := fs } ∧ (setIntake fs s).nu = s.nu ∧
    (setIntake fs s).msgs = s.msgs :=
  ⟨rfl, rfl, rfl, rfl, rfl, rfl, rfl, rfl, rfl, rfl, rfl, rfl, rfl⟩

@[simp] theorem moveRx_fields (rx : Rx) :
    (moveRx rx s).pending = s.pending ∧ (moveRx rx s).now = s.now ∧ (moveRx rx s).freeDraws = s.freeDraws ∧
    (moveRx rx s).pins = s.pins ∧ (moveRx rx s).mu = s.mu ∧ (moveRx rx s).ce = s.ce ∧
    (moveRx rx s).ctxs = s.ctxs ∧ (moveRx rx s).bm = s.bm ∧ (moveRx rx s).cs = s.cs ∧
    (moveRx rx s).oc = s.oc ∧ (moveRx rx s).hl = { s.hl with rx := rx, gap := nextGap s.now rx } ∧ (moveRx rx s).nu = s.nu ∧
    (moveRx rx s).msgs = s.msgs :=
  ⟨rfl, rfl, rfl, rfl, rfl, rfl, rfl, rfl, rfl, rfl, rfl, rfl, rfl⟩

@[simp] theorem addTransfer_fields (r : Request) :
    (addTransfer r s).pending = s.pending ∧ (addTransfer r s).now = s.now ∧ (addTransfer r s).freeDraws = s.freeDraws ∧
    (addTransfer r s).pins = s.pins ∧ (addTransfer r s).mu = s.mu ∧ (addTransfer r s).ce = s.ce ∧
    (addTransfer r s).ctxs = s.ctxs ∧ (addTransfer r s).bm = { s.bm with queue := s.bm.queue ++ [r.record s.bm.nextId s.bm.nextAge], nextId := s.bm.nextId + 1, nextAge := s.bm.nextAge + 1 } ∧ (addTransfer r s).cs = s.cs ∧
    (addTransfer r s).oc = s.oc ∧ (addTransfer r s).hl = s.hl ∧ (addTransfer r s).nu = s.nu ∧
    (addTransfer r s).msgs = s.msgs :=
  ⟨rfl, rfl, rfl, rfl, rfl, rfl, rfl, rfl, rfl, rfl, rfl, rfl, rfl⟩

@[simp] theorem modTransfer_fields (id : Nat) (f : Transfer → Transfer) :
    (modTransfer id f s).pending = s.pending ∧ (modTransfer id f s).now = s.now ∧ (modTransfer id f s).freeDraws = s.freeDraws ∧
    (modTransfer id f s).pins = s.pins ∧ (modTransfer id f s).mu = s.mu ∧ (modTransfer id f s).ce = s.ce ∧
    (modTransfer id f s).ctxs = s.ctxs ∧ (modTransfer id f s).bm = { s.bm with queue := s.bm.queue.map (fun t => if t.id = id then f t else t) } ∧ (modTransfer id f s).cs = s.cs ∧
    (modTransfer id f s).oc = s.oc ∧ (modTransfer id f s).hl = s.hl ∧ (modTransfer id f s).nu = s.nu ∧
    (modTransfer id f s).msgs = s.msgs :=
  ⟨rfl, rfl, rfl, rfl, rfl, rfl, rfl, rfl, rfl, rfl, rfl, rfl, rfl⟩

@[simp] theorem departWhere_fields (p : Transfer → Bool) :
    (departWhere p s).pending = s.pending ∧ (departWhere p s).now = s.now ∧ (departWhere p s).freeDraws = s.freeDraws ∧
    (departWhere p s).pins = s.pins ∧ (departWhere p s).mu = s.mu ∧ (departWhere p s).ce = s.ce ∧
    (departWhere p s).ctxs = s.ctxs ∧ (departWhere p s).bm = { s.bm with queue := s.bm.queue.filter (fun t => !p t) } ∧ (departWhere p s).cs = s.cs ∧
    (departWhere p s).oc = s.oc ∧ (departWhere p s).hl = s.hl ∧ (departWhere p s).nu = s.nu ∧
    (departWhere p s).msgs = { s.msgs with departures := s.msgs.departures + (s.bm.queue.filter p).length } :=
  ⟨rfl, rfl, rfl, rfl, rfl, rfl, rfl, rfl, rfl, rfl, rfl, rfl, rfl⟩

@[simp] theorem markSlotStale_fields (slot : Slot) :
    (markSlotStale slot s).pending = s.pending ∧ (markSlotStale slot s).now = s.now ∧ (markSlotStale slot s).freeDraws = s.freeDraws ∧
    (markSlotStale slot s).pins = s.pins ∧ (markSlotStale slot s).mu = s.mu ∧ (markSlotStale slot s).ce = s.ce ∧
    (markSlotStale slot s).ctxs = s.ctxs ∧ (markSlotStale slot s).bm = { s.bm with queue := s.bm.queue.map (fun t => if onBusAutomaticOf slot t then { t with stale := true } else t) } ∧ (markSlotStale slot s).cs = s.cs ∧
    (markSlotStale slot s).oc = s.oc ∧ (markSlotStale slot s).hl = s.hl ∧ (markSlotStale slot s).nu = s.nu ∧
    (markSlotStale slot s).msgs = s.msgs :=
  ⟨rfl, rfl, rfl, rfl, rfl, rfl, rfl, rfl, rfl, rfl, rfl, rfl, rfl⟩

@[simp] theorem setWire_fields (w : List WireItem) :
    (setWire w s).pending = s.pending ∧ (setWire w s).now = s.now ∧ (setWire w s).freeDraws = s.freeDraws ∧
    (setWire w s).pins = s.pins ∧ (setWire w s).mu = s.mu ∧ (setWire w s).ce = s.ce ∧
    (setWire w s).ctxs = s.ctxs ∧ (setWire w s).bm = { s.bm with wire := w } ∧ (setWire w s).cs = s.cs ∧
    (setWire w s).oc = s.oc ∧ (setWire w s).hl = s.hl ∧ (setWire w s).nu = s.nu ∧
    (setWire w s).msgs = s.msgs :=
  ⟨rfl, rfl, rfl, rfl, rfl, rfl, rfl, rfl, rfl, rfl, rfl, rfl, rfl⟩

@[simp] theorem beginRecovery_fields :
    (beginRecovery s).pending = s.pending ∧ (beginRecovery s).now = s.now ∧ (beginRecovery s).freeDraws = s.freeDraws ∧
    (beginRecovery s).pins = s.pins ∧ (beginRecovery s).mu = s.mu ∧ (beginRecovery s).ce = s.ce ∧
    (beginRecovery s).ctxs = s.ctxs ∧ (beginRecovery s).bm = { s.bm with recovering := true, speed := (activeSettings s).speed, owedStop := false } ∧ (beginRecovery s).cs = s.cs ∧
    (beginRecovery s).oc = s.oc ∧ (beginRecovery s).hl = s.hl ∧ (beginRecovery s).nu = s.nu ∧
    (beginRecovery s).msgs = s.msgs :=
  ⟨rfl, rfl, rfl, rfl, rfl, rfl, rfl, rfl, rfl, rfl, rfl, rfl, rfl⟩

@[simp] theorem startEditTimer_fields :
    (startEditTimer s).pending = s.pending ∧ (startEditTimer s).now = s.now ∧ (startEditTimer s).freeDraws = s.freeDraws ∧
    (startEditTimer s).pins = s.pins ∧ (startEditTimer s).mu = s.mu ∧ (startEditTimer s).ce = s.ce ∧
    (startEditTimer s).ctxs = s.ctxs ∧ (startEditTimer s).bm = s.bm ∧ (startEditTimer s).cs = { s.cs with editTimer := some (s.now + 30000) } ∧
    (startEditTimer s).oc = s.oc ∧ (startEditTimer s).hl = s.hl ∧ (startEditTimer s).nu = s.nu ∧
    (startEditTimer s).msgs = s.msgs :=
  ⟨rfl, rfl, rfl, rfl, rfl, rfl, rfl, rfl, rfl, rfl, rfl, rfl, rfl⟩

@[simp] theorem closeSession_fields :
    (closeSession s).pending = s.pending ∧ (closeSession s).now = s.now ∧ (closeSession s).freeDraws = s.freeDraws ∧
    (closeSession s).pins = s.pins ∧ (closeSession s).mu = s.mu ∧ (closeSession s).ce = s.ce ∧
    (closeSession s).ctxs = s.ctxs ∧ (closeSession s).bm = s.bm ∧ (closeSession s).cs = { s.cs with session := .closed, buffer := none, editTimer := none } ∧
    (closeSession s).oc = s.oc ∧ (closeSession s).hl = s.hl ∧ (closeSession s).nu = s.nu ∧
    (closeSession s).msgs = s.msgs :=
  ⟨rfl, rfl, rfl, rfl, rfl, rfl, rfl, rfl, rfl, rfl, rfl, rfl, rfl⟩

/-- The reset a command ends takes every block's reset values and keeps the queue of commands, the draw
counter, the sampled input and the store. -/
@[simp] theorem resetEnded_fields (cause : ResetCause) (straps : BitVec 2) :
    (resetEnded cause straps s).pending = s.pending ∧ (resetEnded cause straps s).now = 0 ∧
    (resetEnded cause straps s).freeDraws = s.freeDraws ∧
    (resetEnded cause straps s).pins = ⟨true, true, s.pins.derate⟩ ∧ (resetEnded cause straps s).mu = Mu.reset ∧
    (resetEnded cause straps s).ce = Ce.reset ∧
    (resetEnded cause straps s).ctxs = Vector.replicate 8 Ctx.reset ∧ (resetEnded cause straps s).bm = Bm.reset ∧
    (resetEnded cause straps s).cs = Cs.reset (storeAfterReset s) ∧
    (resetEnded cause straps s).oc = Oc.reset cause straps ∧ (resetEnded cause straps s).hl = Hl.reset ∧
    (resetEnded cause straps s).nu = Nu.reset ∧ (resetEnded cause straps s).msgs = Msgs.reset :=
  ⟨rfl, rfl, rfl, rfl, rfl, rfl, rfl, rfl, rfl, rfl, rfl, rfl, rfl⟩

/-- A part held in reset. -/
@[simp] theorem holdInReset_fields (cause : ResetCause) :
    (holdInReset cause s).pending = s.pending ∧ (holdInReset cause s).now = 0 ∧
    (holdInReset cause s).freeDraws = s.freeDraws ∧ (holdInReset cause s).pins = ⟨true, false, s.pins.derate⟩ ∧
    (holdInReset cause s).mu = Mu.reset ∧ (holdInReset cause s).ce = Ce.reset ∧
    (holdInReset cause s).ctxs = Vector.replicate 8 Ctx.reset ∧ (holdInReset cause s).bm = Bm.reset ∧
    (holdInReset cause s).cs = { Cs.reset (storeAfterReset s) with scanning := false } ∧
    (holdInReset cause s).oc = { Oc.reset cause s.oc.baud with held := true } ∧ (holdInReset cause s).hl = Hl.reset ∧
    (holdInReset cause s).nu = Nu.reset ∧ (holdInReset cause s).msgs = Msgs.reset :=
  ⟨rfl, rfl, rfl, rfl, rfl, rfl, rfl, rfl, rfl, rfl, rfl, rfl, rfl⟩

end Sys2Proof.Machine
end

