-- ==== Sys2Proof/Laws/Frames.lean ====
section
/-! SUPPORT. What each shared operation leaves as it was: the Host Link's operations change the link, the
notices and the pins alone, a grant the queue and the references alone, and no operation of the Target
Manager or the Bus Master touches the queue of commands, the clock, the MU, the store or the part state. -/

namespace Sys2Proof.Machine

/-! ### Host Link -/

/-- An entry of the cache changes the Host Link alone. -/
@[simp] theorem cacheReply_keeps (e : CacheEntry) (s : State) :
    (cacheReply e s).pending = s.pending ∧ (cacheReply e s).now = s.now ∧ (cacheReply e s).freeDraws = s.freeDraws ∧ (cacheReply e s).mu = s.mu ∧
    (cacheReply e s).ce = s.ce ∧ (cacheReply e s).ctxs = s.ctxs ∧ (cacheReply e s).bm = s.bm ∧ (cacheReply e s).cs = s.cs ∧
    (cacheReply e s).oc = s.oc ∧ (cacheReply e s).msgs = s.msgs ∧ (cacheReply e s).nu = s.nu ∧ (cacheReply e s).pins = s.pins := by
  simp [cacheReply]

/-- A waiting reply that takes its place changes the Host Link alone. -/
@[simp] theorem admitEnded_keeps (e : PendingEntry) (s : State) :
    (admitEnded e s).pending = s.pending ∧ (admitEnded e s).now = s.now ∧ (admitEnded e s).freeDraws = s.freeDraws ∧ (admitEnded e s).mu = s.mu ∧
    (admitEnded e s).ce = s.ce ∧ (admitEnded e s).ctxs = s.ctxs ∧ (admitEnded e s).bm = s.bm ∧ (admitEnded e s).cs = s.cs ∧
    (admitEnded e s).oc = s.oc ∧ (admitEnded e s).msgs = s.msgs ∧ (admitEnded e s).nu = s.nu ∧ (admitEnded e s).pins = s.pins := by
  simp [admitEnded]

/-- Filling the freed room changes the Host Link alone. -/
@[simp] theorem fillReplies_keeps (n : Nat) (s : State) :
    (fillReplies n s).pending = s.pending ∧ (fillReplies n s).now = s.now ∧ (fillReplies n s).freeDraws = s.freeDraws ∧ (fillReplies n s).mu = s.mu ∧
    (fillReplies n s).ce = s.ce ∧ (fillReplies n s).ctxs = s.ctxs ∧ (fillReplies n s).bm = s.bm ∧ (fillReplies n s).cs = s.cs ∧
    (fillReplies n s).oc = s.oc ∧ (fillReplies n s).msgs = s.msgs ∧ (fillReplies n s).nu = s.nu ∧ (fillReplies n s).pins = s.pins := by
  induction n generalizing s with
  | zero => simp [fillReplies]
  | succ n ih =>
    unfold fillReplies
    (repeat' split) <;> simp [ih]

/-- Sending a reply changes the Host Link alone. -/
@[simp] theorem sendReply_keeps (r : Reply) (rest : List Reply) (s : State) :
    (sendReply r rest s).pending = s.pending ∧ (sendReply r rest s).now = s.now ∧ (sendReply r rest s).freeDraws = s.freeDraws ∧ (sendReply r rest s).mu = s.mu ∧
    (sendReply r rest s).ce = s.ce ∧ (sendReply r rest s).ctxs = s.ctxs ∧ (sendReply r rest s).bm = s.bm ∧ (sendReply r rest s).cs = s.cs ∧
    (sendReply r rest s).oc = s.oc ∧ (sendReply r rest s).msgs = s.msgs ∧ (sendReply r rest s).nu = s.nu ∧ (sendReply r rest s).pins = s.pins := by
  simp [sendReply]

/-- Sending a notice changes the Host Link, the Notice Unit and the pins alone. -/
@[simp] theorem sendNotice_keeps (s : State) :
    (sendNotice s).pending = s.pending ∧ (sendNotice s).now = s.now ∧ (sendNotice s).freeDraws = s.freeDraws ∧ (sendNotice s).mu = s.mu ∧
    (sendNotice s).ce = s.ce ∧ (sendNotice s).ctxs = s.ctxs ∧ (sendNotice s).bm = s.bm ∧ (sendNotice s).cs = s.cs ∧
    (sendNotice s).oc = s.oc ∧ (sendNotice s).msgs = s.msgs := by
  unfold sendNotice
  (repeat' split) <;> simp

/-- The choice of the transmitter changes the Host Link, the Notice Unit and the pins alone. -/
@[simp] theorem txChoose_keeps (s : State) :
    (txChoose s).pending = s.pending ∧ (txChoose s).now = s.now ∧ (txChoose s).freeDraws = s.freeDraws ∧ (txChoose s).mu = s.mu ∧
    (txChoose s).ce = s.ce ∧ (txChoose s).ctxs = s.ctxs ∧ (txChoose s).bm = s.bm ∧ (txChoose s).cs = s.cs ∧
    (txChoose s).oc = s.oc ∧ (txChoose s).msgs = s.msgs := by
  unfold txChoose
  (repeat' split) <;> simp

/-- Appending a reply changes the Host Link, the Notice Unit and the pins alone. -/
@[simp] theorem appendReply_keeps (r : Reply) (s : State) :
    (appendReply r s).pending = s.pending ∧ (appendReply r s).now = s.now ∧ (appendReply r s).freeDraws = s.freeDraws ∧ (appendReply r s).mu = s.mu ∧
    (appendReply r s).ce = s.ce ∧ (appendReply r s).ctxs = s.ctxs ∧ (appendReply r s).bm = s.bm ∧ (appendReply r s).cs = s.cs ∧
    (appendReply r s).oc = s.oc ∧ (appendReply r s).msgs = s.msgs := by
  simp [appendReply]

/-- A first reply changes the Host Link, the Notice Unit and the pins alone. -/
@[simp] theorem answerNow_keeps (tag : Byte) (code : Option Byte) (d : Word16) (p : List Byte) (b : Bool) (s : State) :
    (answerNow tag code d p b s).pending = s.pending ∧ (answerNow tag code d p b s).now = s.now ∧ (answerNow tag code d p b s).freeDraws = s.freeDraws ∧ (answerNow tag code d p b s).mu = s.mu ∧
    (answerNow tag code d p b s).ce = s.ce ∧ (answerNow tag code d p b s).ctxs = s.ctxs ∧ (answerNow tag code d p b s).bm = s.bm ∧ (answerNow tag code d p b s).cs = s.cs ∧
    (answerNow tag code d p b s).oc = s.oc ∧ (answerNow tag code d p b s).msgs = s.msgs := by
  simp [answerNow]

/-- An immediate reply changes the Host Link, the Notice Unit and the pins alone. -/
@[simp] theorem reply_keeps (f : Frame) (r : Result) (c : List Byte) (s : State) :
    (reply f r c s).pending = s.pending ∧ (reply f r c s).now = s.now ∧ (reply f r c s).freeDraws = s.freeDraws ∧ (reply f r c s).mu = s.mu ∧
    (reply f r c s).ce = s.ce ∧ (reply f r c s).ctxs = s.ctxs ∧ (reply f r c s).bm = s.bm ∧ (reply f r c s).cs = s.cs ∧
    (reply f r c s).oc = s.oc ∧ (reply f r c s).msgs = s.msgs := by
  simp [reply]

/-- A refusal for the part state changes the Host Link, the Notice Unit and the pins alone. -/
@[simp] theorem refuseState_keeps (f : Frame) (s : State) :
    (refuseState f s).pending = s.pending ∧ (refuseState f s).now = s.now ∧ (refuseState f s).freeDraws = s.freeDraws ∧ (refuseState f s).mu = s.mu ∧
    (refuseState f s).ce = s.ce ∧ (refuseState f s).ctxs = s.ctxs ∧ (refuseState f s).bm = s.bm ∧ (refuseState f s).cs = s.cs ∧
    (refuseState f s).oc = s.oc ∧ (refuseState f s).msgs = s.msgs := by
  simp [refuseState]

/-- The end of a pending request changes the Host Link, the Notice Unit and the pins alone. -/
@[simp] theorem endPending_keeps (op : PendingOp) (p : List Byte) (s : State) :
    (endPending op p s).pending = s.pending ∧ (endPending op p s).now = s.now ∧ (endPending op p s).freeDraws = s.freeDraws ∧ (endPending op p s).mu = s.mu ∧
    (endPending op p s).ce = s.ce ∧ (endPending op p s).ctxs = s.ctxs ∧ (endPending op p s).bm = s.bm ∧ (endPending op p s).cs = s.cs ∧
    (endPending op p s).oc = s.oc ∧ (endPending op p s).msgs = s.msgs := by
  unfold endPending
  (repeat' split) <;> simp

/-- The delivery of a valid frame changes the Host Link, the Notice Unit and the pins alone. -/
@[simp] theorem deliverFrame_keeps (a : Option Byte) (s : State) :
    (deliverFrame a s).pending = s.pending ∧ (deliverFrame a s).now = s.now ∧ (deliverFrame a s).freeDraws = s.freeDraws ∧ (deliverFrame a s).mu = s.mu ∧
    (deliverFrame a s).ce = s.ce ∧ (deliverFrame a s).ctxs = s.ctxs ∧ (deliverFrame a s).bm = s.bm ∧ (deliverFrame a s).cs = s.cs ∧
    (deliverFrame a s).oc = s.oc ∧ (deliverFrame a s).msgs = s.msgs := by
  simp [deliverFrame]

/-! ### Bus Master -/

/-- The end of a manual request changes the Host Link, the Notice Unit and the pins alone. -/
@[simp] theorem endManual_keeps (t : Transfer) (r : Result) (c : List Byte) (s : State) :
    (endManual t r c s).pending = s.pending ∧ (endManual t r c s).now = s.now ∧ (endManual t r c s).freeDraws = s.freeDraws ∧ (endManual t r c s).mu = s.mu ∧
    (endManual t r c s).ce = s.ce ∧ (endManual t r c s).ctxs = s.ctxs ∧ (endManual t r c s).bm = s.bm ∧ (endManual t r c s).cs = s.cs ∧
    (endManual t r c s).oc = s.oc ∧ (endManual t r c s).msgs = s.msgs := by
  simp [endManual]

/-- CANCELLED replies change the Host Link, the Notice Unit and the pins alone. -/
@[simp] theorem cancelAll_keeps (cause : CancelCause) (ts : List Transfer) (s : State) :
    (cancelAll cause ts s).pending = s.pending ∧ (cancelAll cause ts s).now = s.now ∧ (cancelAll cause ts s).freeDraws = s.freeDraws ∧ (cancelAll cause ts s).mu = s.mu ∧
    (cancelAll cause ts s).ce = s.ce ∧ (cancelAll cause ts s).ctxs = s.ctxs ∧ (cancelAll cause ts s).bm = s.bm ∧ (cancelAll cause ts s).cs = s.cs ∧
    (cancelAll cause ts s).oc = s.oc ∧ (cancelAll cause ts s).msgs = s.msgs := by
  induction ts generalizing s with
  | nil => simp [cancelAll]
  | cons t ts ih => simp [cancelAll, ih]

/-- BUS_FAULT replies change the Host Link, the Notice Unit and the pins alone. -/
@[simp] theorem faultAll_keeps (ts : List Transfer) (s : State) :
    (faultAll ts s).pending = s.pending ∧ (faultAll ts s).now = s.now ∧ (faultAll ts s).freeDraws = s.freeDraws ∧ (faultAll ts s).mu = s.mu ∧
    (faultAll ts s).ce = s.ce ∧ (faultAll ts s).ctxs = s.ctxs ∧ (faultAll ts s).bm = s.bm ∧ (faultAll ts s).cs = s.cs ∧
    (faultAll ts s).oc = s.oc ∧ (faultAll ts s).msgs = s.msgs := by
  induction ts generalizing s with
  | nil => simp [faultAll]
  | cons t ts ih => simp [faultAll, ih]

/-- A departure changes the queue and the announced departures alone. -/
@[simp] theorem depart_keeps (id : Nat) (s : State) :
    (depart id s).pending = s.pending ∧ (depart id s).now = s.now ∧ (depart id s).freeDraws = s.freeDraws ∧ (depart id s).pins = s.pins ∧
    (depart id s).mu = s.mu ∧ (depart id s).ce = s.ce ∧ (depart id s).ctxs = s.ctxs ∧ (depart id s).cs = s.cs ∧
    (depart id s).oc = s.oc ∧ (depart id s).hl = s.hl ∧ (depart id s).nu = s.nu := by
  simp [depart]

/-- A purge without outcomes changes the queue and the announced departures alone. -/
@[simp] theorem purgeAutomatic_keeps (slot : Slot) (s : State) :
    (purgeAutomatic slot s).pending = s.pending ∧ (purgeAutomatic slot s).now = s.now ∧ (purgeAutomatic slot s).freeDraws = s.freeDraws ∧ (purgeAutomatic slot s).pins = s.pins ∧
    (purgeAutomatic slot s).mu = s.mu ∧ (purgeAutomatic slot s).ce = s.ce ∧ (purgeAutomatic slot s).ctxs = s.ctxs ∧ (purgeAutomatic slot s).cs = s.cs ∧
    (purgeAutomatic slot s).oc = s.oc ∧ (purgeAutomatic slot s).hl = s.hl ∧ (purgeAutomatic slot s).nu = s.nu := by
  simp [purgeAutomatic]

/-- A purge of manual transfers changes the queue, the departures and the link alone. -/
@[simp] theorem purgeManual_keeps (p : Transfer → Bool) (cause : CancelCause) (s : State) :
    (purgeManual p cause s).pending = s.pending ∧ (purgeManual p cause s).now = s.now ∧ (purgeManual p cause s).freeDraws = s.freeDraws ∧ (purgeManual p cause s).mu = s.mu ∧
    (purgeManual p cause s).ce = s.ce ∧ (purgeManual p cause s).ctxs = s.ctxs ∧ (purgeManual p cause s).cs = s.cs ∧ (purgeManual p cause s).oc = s.oc := by
  simp [purgeManual]

/-- A stale marking changes the queue alone. -/
@[simp] theorem markStale_keeps (id : Nat) (s : State) :
    (markStale id s).pending = s.pending ∧ (markStale id s).now = s.now ∧ (markStale id s).freeDraws = s.freeDraws ∧ (markStale id s).pins = s.pins ∧
    (markStale id s).mu = s.mu ∧ (markStale id s).ce = s.ce ∧ (markStale id s).ctxs = s.ctxs ∧ (markStale id s).cs = s.cs ∧
    (markStale id s).oc = s.oc ∧ (markStale id s).hl = s.hl ∧ (markStale id s).nu = s.nu ∧ (markStale id s).msgs = s.msgs := by
  simp [markStale]

/-- A replacement changes the queue alone. -/
@[simp] theorem replaceData_keeps (id : Nat) (d : List Byte) (s : State) :
    (replaceData id d s).pending = s.pending ∧ (replaceData id d s).now = s.now ∧ (replaceData id d s).freeDraws = s.freeDraws ∧ (replaceData id d s).pins = s.pins ∧
    (replaceData id d s).mu = s.mu ∧ (replaceData id d s).ce = s.ce ∧ (replaceData id d s).ctxs = s.ctxs ∧ (replaceData id d s).cs = s.cs ∧
    (replaceData id d s).oc = s.oc ∧ (replaceData id d s).hl = s.hl ∧ (replaceData id d s).nu = s.nu ∧ (replaceData id d s).msgs = s.msgs := by
  simp [replaceData]

/-- A move changes the queue and the ages alone. -/
@[simp] theorem renewAge_keeps (id : Nat) (s : State) :
    (renewAge id s).pending = s.pending ∧ (renewAge id s).now = s.now ∧ (renewAge id s).freeDraws = s.freeDraws ∧ (renewAge id s).pins = s.pins ∧
    (renewAge id s).mu = s.mu ∧ (renewAge id s).ce = s.ce ∧ (renewAge id s).ctxs = s.ctxs ∧ (renewAge id s).cs = s.cs ∧
    (renewAge id s).oc = s.oc ∧ (renewAge id s).hl = s.hl ∧ (renewAge id s).nu = s.nu ∧ (renewAge id s).msgs = s.msgs := by
  simp [renewAge]

/-- A return to WAITING changes the queue alone. -/
@[simp] theorem backToWaiting_keeps (id : Nat) (s : State) :
    (backToWaiting id s).pending = s.pending ∧ (backToWaiting id s).now = s.now ∧ (backToWaiting id s).freeDraws = s.freeDraws ∧ (backToWaiting id s).pins = s.pins ∧
    (backToWaiting id s).mu = s.mu ∧ (backToWaiting id s).ce = s.ce ∧ (backToWaiting id s).ctxs = s.ctxs ∧ (backToWaiting id s).cs = s.cs ∧
    (backToWaiting id s).oc = s.oc ∧ (backToWaiting id s).hl = s.hl ∧ (backToWaiting id s).nu = s.nu ∧ (backToWaiting id s).msgs = s.msgs := by
  simp [backToWaiting]

/-- A moved reference changes the shadow alone. -/
@[simp] theorem grantRef_keeps (id : ProfileId) (tid : Nat) (s : State) :
    (grantRef id tid s).pending = s.pending ∧ (grantRef id tid s).now = s.now ∧ (grantRef id tid s).freeDraws = s.freeDraws ∧ (grantRef id tid s).pins = s.pins ∧
    (grantRef id tid s).mu = s.mu ∧ (grantRef id tid s).ctxs = s.ctxs ∧ (grantRef id tid s).cs = s.cs ∧ (grantRef id tid s).oc = s.oc ∧
    (grantRef id tid s).hl = s.hl ∧ (grantRef id tid s).nu = s.nu ∧ (grantRef id tid s).msgs = s.msgs ∧ (grantRef id tid s).bm = s.bm := by
  simp [grantRef]

/-- A moved latch reference changes the latch state alone. -/
@[simp] theorem grantLatch_keeps (slot : Slot) (tid : Nat) (s : State) :
    (grantLatch slot tid s).pending = s.pending ∧ (grantLatch slot tid s).now = s.now ∧ (grantLatch slot tid s).freeDraws = s.freeDraws ∧ (grantLatch slot tid s).pins = s.pins ∧
    (grantLatch slot tid s).mu = s.mu ∧ (grantLatch slot tid s).ctxs = s.ctxs ∧ (grantLatch slot tid s).cs = s.cs ∧ (grantLatch slot tid s).oc = s.oc ∧
    (grantLatch slot tid s).hl = s.hl ∧ (grantLatch slot tid s).nu = s.nu ∧ (grantLatch slot tid s).msgs = s.msgs ∧ (grantLatch slot tid s).bm = s.bm := by
  unfold grantLatch
  dsimp only
  split <;> simp

/-- The CE's part of a grant changes its references alone. -/
@[simp] theorem grantReference_keeps (t : Transfer) (s : State) :
    (grantReference t s).pending = s.pending ∧ (grantReference t s).now = s.now ∧ (grantReference t s).freeDraws = s.freeDraws ∧ (grantReference t s).pins = s.pins ∧
    (grantReference t s).mu = s.mu ∧ (grantReference t s).ctxs = s.ctxs ∧ (grantReference t s).cs = s.cs ∧ (grantReference t s).oc = s.oc ∧
    (grantReference t s).hl = s.hl ∧ (grantReference t s).nu = s.nu ∧ (grantReference t s).msgs = s.msgs ∧ (grantReference t s).bm = s.bm := by
  unfold grantReference
  (repeat' split) <;> simp

/-- A grant changes the Bus Master and the CE's references alone. -/
@[simp] theorem grant_keeps (t : Transfer) (s : State) :
    (grant t s).pending = s.pending ∧ (grant t s).now = s.now ∧ (grant t s).freeDraws = s.freeDraws ∧ (grant t s).pins = s.pins ∧
    (grant t s).mu = s.mu ∧ (grant t s).ctxs = s.ctxs ∧ (grant t s).cs = s.cs ∧ (grant t s).oc = s.oc ∧
    (grant t s).hl = s.hl ∧ (grant t s).nu = s.nu ∧ (grant t s).msgs = s.msgs := by
  simp [grant]

/-- A grant decision changes the Bus Master and the CE's references alone. -/
@[simp] theorem grantDecision_keeps (s : State) :
    (grantDecision s).pending = s.pending ∧ (grantDecision s).now = s.now ∧ (grantDecision s).freeDraws = s.freeDraws ∧ (grantDecision s).pins = s.pins ∧
    (grantDecision s).mu = s.mu ∧ (grantDecision s).ctxs = s.ctxs ∧ (grantDecision s).cs = s.cs ∧ (grantDecision s).oc = s.oc ∧
    (grantDecision s).hl = s.hl ∧ (grantDecision s).nu = s.nu ∧ (grantDecision s).msgs = s.msgs := by
  unfold grantDecision
  (repeat' split) <;> simp

/-- The decision at the end of a happening changes what the happening left in the Bus Master and the CE's
references alone. -/
@[simp] theorem decideIfEnqueued_keeps (b s : State) :
    (decideIfEnqueued b s).pending = s.pending ∧ (decideIfEnqueued b s).now = s.now ∧ (decideIfEnqueued b s).freeDraws = s.freeDraws ∧
    (decideIfEnqueued b s).pins = s.pins ∧ (decideIfEnqueued b s).mu = s.mu ∧ (decideIfEnqueued b s).ctxs = s.ctxs ∧
    (decideIfEnqueued b s).cs = s.cs ∧ (decideIfEnqueued b s).oc = s.oc ∧ (decideIfEnqueued b s).hl = s.hl ∧
    (decideIfEnqueued b s).nu = s.nu ∧ (decideIfEnqueued b s).msgs = s.msgs := by
  unfold decideIfEnqueued
  split <;> simp

/-! ### Compensation Engine -/

/-- An invalidation changes the CE and its flag alone. -/
@[simp] theorem invalidateSlot_keeps (slot : Slot) (s : State) :
    (invalidateSlot slot s).pending = s.pending ∧ (invalidateSlot slot s).now = s.now ∧ (invalidateSlot slot s).freeDraws = s.freeDraws ∧ (invalidateSlot slot s).pins = s.pins ∧
    (invalidateSlot slot s).mu = s.mu ∧ (invalidateSlot slot s).ctxs = s.ctxs ∧ (invalidateSlot slot s).cs = s.cs ∧ (invalidateSlot slot s).oc = s.oc ∧
    (invalidateSlot slot s).hl = s.hl ∧ (invalidateSlot slot s).nu = s.nu ∧ (invalidateSlot slot s).bm = s.bm := by
  simp [invalidateSlot]

/-- A settled invalidation changes the CE and its flag alone. -/
@[simp] theorem settleInvalidation_keeps (slot : Slot) (s : State) :
    (settleInvalidation slot s).pending = s.pending ∧ (settleInvalidation slot s).now = s.now ∧ (settleInvalidation slot s).freeDraws = s.freeDraws ∧ (settleInvalidation slot s).pins = s.pins ∧
    (settleInvalidation slot s).mu = s.mu ∧ (settleInvalidation slot s).ctxs = s.ctxs ∧ (settleInvalidation slot s).cs = s.cs ∧ (settleInvalidation slot s).oc = s.oc ∧
    (settleInvalidation slot s).hl = s.hl ∧ (settleInvalidation slot s).nu = s.nu ∧ (settleInvalidation slot s).bm = s.bm := by
  unfold settleInvalidation
  (repeat' split) <;> simp

/-- Settled invalidations change the CE and its flags alone. -/
@[simp] theorem settleInvalidations_keeps (is : List Slot) (s : State) :
    (settleInvalidations is s).pending = s.pending ∧ (settleInvalidations is s).now = s.now ∧ (settleInvalidations is s).freeDraws = s.freeDraws ∧ (settleInvalidations is s).pins = s.pins ∧
    (settleInvalidations is s).mu = s.mu ∧ (settleInvalidations is s).ctxs = s.ctxs ∧ (settleInvalidations is s).cs = s.cs ∧ (settleInvalidations is s).oc = s.oc ∧
    (settleInvalidations is s).hl = s.hl ∧ (settleInvalidations is s).nu = s.nu ∧ (settleInvalidations is s).bm = s.bm := by
  induction is generalizing s with
  | nil => simp [settleInvalidations]
  | cons i is ih => simp [settleInvalidations, ih]

/-- An evaluation changes its shadow and may append a notice. -/
@[simp] theorem recordEvaluation_keeps (id : ProfileId) (p : Profile) (e : Evaluation) (b : Bool) (s : State) :
    (recordEvaluation id p e b s).pending = s.pending ∧ (recordEvaluation id p e b s).now = s.now ∧ (recordEvaluation id p e b s).freeDraws = s.freeDraws ∧ (recordEvaluation id p e b s).pins = s.pins ∧
    (recordEvaluation id p e b s).mu = s.mu ∧ (recordEvaluation id p e b s).ctxs = s.ctxs ∧ (recordEvaluation id p e b s).cs = s.cs ∧ (recordEvaluation id p e b s).oc = s.oc ∧
    (recordEvaluation id p e b s).hl = s.hl ∧ (recordEvaluation id p e b s).nu = s.nu ∧ (recordEvaluation id p e b s).bm = s.bm := by
  unfold recordEvaluation
  dsimp only
  split <;> simp

/-- A failed write changes its shadow, the queue and the departures alone. -/
@[simp] theorem failShadow_keeps (id : ProfileId) (s : State) :
    (failShadow id s).pending = s.pending ∧ (failShadow id s).now = s.now ∧ (failShadow id s).freeDraws = s.freeDraws ∧ (failShadow id s).pins = s.pins ∧
    (failShadow id s).mu = s.mu ∧ (failShadow id s).ctxs = s.ctxs ∧ (failShadow id s).cs = s.cs ∧ (failShadow id s).oc = s.oc ∧
    (failShadow id s).hl = s.hl ∧ (failShadow id s).nu = s.nu := by
  unfold failShadow
  dsimp only
  split <;> simp

/-- An outcome at a shadow changes the CE, the queue and the departures alone. -/
@[simp] theorem profileOutcome_keeps (id : ProfileId) (tid : Nat) (b : Bool) (out : BusOutcome) (s : State) :
    (profileOutcome id tid b out s).1.pending = s.pending ∧
    (profileOutcome id tid b out s).1.now = s.now ∧
    (profileOutcome id tid b out s).1.freeDraws = s.freeDraws ∧
    (profileOutcome id tid b out s).1.pins = s.pins ∧
    (profileOutcome id tid b out s).1.mu = s.mu ∧
    (profileOutcome id tid b out s).1.ctxs = s.ctxs ∧
    (profileOutcome id tid b out s).1.cs = s.cs ∧
    (profileOutcome id tid b out s).1.oc = s.oc ∧
    (profileOutcome id tid b out s).1.hl = s.hl ∧
    (profileOutcome id tid b out s).1.nu = s.nu := by
  unfold profileOutcome
  (repeat' split) <;> simp

/-- An outcome at a latch changes the CE, the queue and the departures alone. -/
@[simp] theorem latchOutcome_keeps (slot : Slot) (tid : Nat) (b : Bool) (out : BusOutcome) (s : State) :
    (latchOutcome slot tid b out s).1.pending = s.pending ∧
    (latchOutcome slot tid b out s).1.now = s.now ∧
    (latchOutcome slot tid b out s).1.freeDraws = s.freeDraws ∧
    (latchOutcome slot tid b out s).1.pins = s.pins ∧
    (latchOutcome slot tid b out s).1.mu = s.mu ∧
    (latchOutcome slot tid b out s).1.ctxs = s.ctxs ∧
    (latchOutcome slot tid b out s).1.cs = s.cs ∧
    (latchOutcome slot tid b out s).1.oc = s.oc ∧
    (latchOutcome slot tid b out s).1.hl = s.hl ∧
    (latchOutcome slot tid b out s).1.nu = s.nu := by
  unfold latchOutcome
  dsimp only
  (repeat' split) <;> simp

/-- A report to the TM is an announcement alone. -/
@[simp] theorem reportFailure_keeps (slot : Slot) (o : Origin) (out : BusOutcome) (s : State) :
    (reportFailure slot o out s).pending = s.pending ∧ (reportFailure slot o out s).now = s.now ∧ (reportFailure slot o out s).freeDraws = s.freeDraws ∧ (reportFailure slot o out s).pins = s.pins ∧
    (reportFailure slot o out s).mu = s.mu ∧ (reportFailure slot o out s).ctxs = s.ctxs ∧ (reportFailure slot o out s).cs = s.cs ∧ (reportFailure slot o out s).oc = s.oc ∧
    (reportFailure slot o out s).hl = s.hl ∧ (reportFailure slot o out s).nu = s.nu ∧ (reportFailure slot o out s).bm = s.bm ∧ (reportFailure slot o out s).ce = s.ce := by
  simp [reportFailure]

/-- The final outcome of a COMPENSATE transfer changes the CE, the queue and announcements alone. -/
@[simp] theorem compensateOutcome_keeps (t : Transfer) (out : BusOutcome) (s : State) :
    (compensateOutcome t out s).pending = s.pending ∧
    (compensateOutcome t out s).now = s.now ∧
    (compensateOutcome t out s).freeDraws = s.freeDraws ∧
    (compensateOutcome t out s).pins = s.pins ∧
    (compensateOutcome t out s).mu = s.mu ∧
    (compensateOutcome t out s).ctxs = s.ctxs ∧
    (compensateOutcome t out s).cs = s.cs ∧
    (compensateOutcome t out s).oc = s.oc ∧
    (compensateOutcome t out s).hl = s.hl ∧
    (compensateOutcome t out s).nu = s.nu := by
  unfold compensateOutcome
  split
  · rename_i slot id _ _
    have h := profileOutcome_keeps id t.id t.stale out s
    split <;> (rename_i he; rw [he] at h; simp_all)
  · rename_i slot _ _
    have h := latchOutcome_keeps slot t.id t.stale out s
    split <;> (rename_i he; rw [he] at h; simp_all)
  · simp

/-- A returning write changes its shadow, the queue and the departures alone. -/
@[simp] theorem returnProfile_keeps (id : ProfileId) (tid : Nat) (s : State) :
    (returnProfile id tid s).pending = s.pending ∧ (returnProfile id tid s).now = s.now ∧ (returnProfile id tid s).freeDraws = s.freeDraws ∧ (returnProfile id tid s).pins = s.pins ∧
    (returnProfile id tid s).mu = s.mu ∧ (returnProfile id tid s).ctxs = s.ctxs ∧ (returnProfile id tid s).cs = s.cs ∧ (returnProfile id tid s).oc = s.oc ∧
    (returnProfile id tid s).hl = s.hl ∧ (returnProfile id tid s).nu = s.nu := by
  unfold returnProfile
  dsimp only
  (repeat' split) <;> simp

/-- A returning latch changes its state, the queue and the departures alone. -/
@[simp] theorem returnLatch_keeps (slot : Slot) (tid : Nat) (s : State) :
    (returnLatch slot tid s).pending = s.pending ∧ (returnLatch slot tid s).now = s.now ∧ (returnLatch slot tid s).freeDraws = s.freeDraws ∧ (returnLatch slot tid s).pins = s.pins ∧
    (returnLatch slot tid s).mu = s.mu ∧ (returnLatch slot tid s).ctxs = s.ctxs ∧ (returnLatch slot tid s).cs = s.cs ∧ (returnLatch slot tid s).oc = s.oc ∧
    (returnLatch slot tid s).hl = s.hl ∧ (returnLatch slot tid s).nu = s.nu := by
  unfold returnLatch
  dsimp only
  (repeat' split) <;> simp

/-- A returning load step changes its shadow and the queue alone. -/
@[simp] theorem returnLoadStep_keeps (id : ProfileId) (tid : Nat) (s : State) :
    (returnLoadStep id tid s).pending = s.pending ∧ (returnLoadStep id tid s).now = s.now ∧ (returnLoadStep id tid s).freeDraws = s.freeDraws ∧ (returnLoadStep id tid s).pins = s.pins ∧
    (returnLoadStep id tid s).mu = s.mu ∧ (returnLoadStep id tid s).ctxs = s.ctxs ∧ (returnLoadStep id tid s).cs = s.cs ∧ (returnLoadStep id tid s).oc = s.oc ∧
    (returnLoadStep id tid s).hl = s.hl ∧ (returnLoadStep id tid s).nu = s.nu := by
  unfold returnLoadStep
  simp

/-- A return to WAITING changes the references, the queue and the departures alone. -/
@[simp] theorem returnTransfer_keeps (t : Transfer) (s : State) :
    (returnTransfer t s).pending = s.pending ∧ (returnTransfer t s).now = s.now ∧ (returnTransfer t s).freeDraws = s.freeDraws ∧ (returnTransfer t s).pins = s.pins ∧
    (returnTransfer t s).mu = s.mu ∧ (returnTransfer t s).ctxs = s.ctxs ∧ (returnTransfer t s).cs = s.cs ∧ (returnTransfer t s).oc = s.oc ∧
    (returnTransfer t s).hl = s.hl ∧ (returnTransfer t s).nu = s.nu := by
  unfold returnTransfer
  (repeat' split) <;> simp

/-! ### Target Manager -/

/-- `postTarget` keeps the queue of commands, the clock, the MU, the store and the part state. -/
@[simp] theorem postTarget_keeps (slot : Slot) (b : TargetState) (s : State) :
    (postTarget slot b s).pending = s.pending ∧ (postTarget slot b s).now = s.now ∧ (postTarget slot b s).mu = s.mu ∧ (postTarget slot b s).cs = s.cs ∧
    (postTarget slot b s).oc = s.oc := by
  unfold postTarget
  (repeat' split) <;> simp

/-- `entryActions` keeps the queue of commands, the clock, the MU, the store and the part state. -/
@[simp] theorem entryActions_keeps (slot : Slot) (s : State) :
    (entryActions slot s).pending = s.pending ∧ (entryActions slot s).now = s.now ∧ (entryActions slot s).mu = s.mu ∧ (entryActions slot s).cs = s.cs ∧
    (entryActions slot s).oc = s.oc := by
  simp [entryActions]

/-- `purgeSlotManual` keeps the queue of commands, the clock, the MU, the store and the part state. -/
@[simp] theorem purgeSlotManual_keeps (slot : Slot) (cause : CancelCause) (s : State) :
    (purgeSlotManual slot cause s).pending = s.pending ∧ (purgeSlotManual slot cause s).now = s.now ∧ (purgeSlotManual slot cause s).mu = s.mu ∧ (purgeSlotManual slot cause s).cs = s.cs ∧
    (purgeSlotManual slot cause s).oc = s.oc := by
  simp [purgeSlotManual]

/-- `purgeRawWrites` keeps the queue of commands, the clock, the MU, the store and the part state. -/
@[simp] theorem purgeRawWrites_keeps (slot : Slot) (s : State) :
    (purgeRawWrites slot s).pending = s.pending ∧ (purgeRawWrites slot s).now = s.now ∧ (purgeRawWrites slot s).mu = s.mu ∧ (purgeRawWrites slot s).cs = s.cs ∧
    (purgeRawWrites slot s).oc = s.oc := by
  unfold purgeRawWrites
  (repeat' split) <;> simp

/-- `beginEntry` keeps the queue of commands, the clock, the MU, the store and the part state. -/
@[simp] theorem beginEntry_keeps (slot : Slot) (st : TargetState) (r : Reason) (d : Detail) (s : State) :
    (beginEntry slot st r d s).pending = s.pending ∧ (beginEntry slot st r d s).now = s.now ∧ (beginEntry slot st r d s).mu = s.mu ∧ (beginEntry slot st r d s).cs = s.cs ∧
    (beginEntry slot st r d s).oc = s.oc := by
  unfold beginEntry
  dsimp only
  (repeat' split) <;> simp

/-- `enterPlain` keeps the queue of commands, the clock, the MU, the store and the part state. -/
@[simp] theorem enterPlain_keeps (slot : Slot) (st : TargetState) (r : Reason) (d : Detail) (s : State) :
    (enterPlain slot st r d s).pending = s.pending ∧ (enterPlain slot st r d s).now = s.now ∧ (enterPlain slot st r d s).mu = s.mu ∧ (enterPlain slot st r d s).cs = s.cs ∧
    (enterPlain slot st r d s).oc = s.oc := by
  simp [enterPlain]

/-- `enterFaultHold` keeps the queue of commands, the clock, the MU, the store and the part state. -/
@[simp] theorem enterFaultHold_keeps (slot : Slot) (r : Reason) (d : Detail) (s : State) :
    (enterFaultHold slot r d s).pending = s.pending ∧ (enterFaultHold slot r d s).now = s.now ∧ (enterFaultHold slot r d s).mu = s.mu ∧ (enterFaultHold slot r d s).cs = s.cs ∧
    (enterFaultHold slot r d s).oc = s.oc := by
  simp [enterFaultHold]

/-- `enterInService` keeps the queue of commands, the clock, the MU, the store and the part state. -/
@[simp] theorem enterInService_keeps (slot : Slot) (s : State) :
    (enterInService slot s).pending = s.pending ∧ (enterInService slot s).now = s.now ∧ (enterInService slot s).mu = s.mu ∧ (enterInService slot s).cs = s.cs ∧
    (enterInService slot s).oc = s.oc := by
  simp [enterInService]

/-- `enqueueStep` keeps the queue of commands, the clock, the MU, the store and the part state. -/
@[simp] theorem enqueueStep_keeps (slot : Slot) (r : Request) (s : State) :
    (enqueueStep slot r s).pending = s.pending ∧ (enqueueStep slot r s).now = s.now ∧ (enqueueStep slot r s).mu = s.mu ∧ (enqueueStep slot r s).cs = s.cs ∧
    (enqueueStep slot r s).oc = s.oc := by
  simp [enqueueStep]

/-- `placeStep` keeps the queue of commands, the clock, the MU, the store and the part state. -/
@[simp] theorem placeStep_keeps (slot : Slot) (b : Bool) (r : Request) (s : State) :
    (placeStep slot b r s).pending = s.pending ∧ (placeStep slot b r s).now = s.now ∧ (placeStep slot b r s).mu = s.mu ∧ (placeStep slot b r s).cs = s.cs ∧
    (placeStep slot b r s).oc = s.oc := by
  unfold placeStep
  (repeat' split) <;> simp

/-- `placeIdentity` keeps the queue of commands, the clock, the MU, the store and the part state. -/
@[simp] theorem placeIdentity_keeps (slot : Slot) (s : State) :
    (placeIdentity slot s).pending = s.pending ∧ (placeIdentity slot s).now = s.now ∧ (placeIdentity slot s).mu = s.mu ∧ (placeIdentity slot s).cs = s.cs ∧
    (placeIdentity slot s).oc = s.oc := by
  unfold placeIdentity
  (repeat' split) <;> simp

/-- `placeCheck` keeps the queue of commands, the clock, the MU, the store and the part state. -/
@[simp] theorem placeCheck_keeps (slot : Slot) (s : State) :
    (placeCheck slot s).pending = s.pending ∧ (placeCheck slot s).now = s.now ∧ (placeCheck slot s).mu = s.mu ∧ (placeCheck slot s).cs = s.cs ∧
    (placeCheck slot s).oc = s.oc := by
  unfold placeCheck
  (repeat' split) <;> simp

/-- `placeProfile` keeps the queue of commands, the clock, the MU, the store and the part state. -/
@[simp] theorem placeProfile_keeps (slot : Slot) (r : TargetRecord) (id : ProfileId) (p : Profile) (s : State) :
    (placeProfile slot r id p s).pending = s.pending ∧ (placeProfile slot r id p s).now = s.now ∧ (placeProfile slot r id p s).mu = s.mu ∧ (placeProfile slot r id p s).cs = s.cs ∧
    (placeProfile slot r id p s).oc = s.oc := by
  unfold placeProfile
  dsimp only
  (repeat' split) <;> simp

/-- `placeLoadStep` keeps the queue of commands, the clock, the MU, the store and the part state. -/
@[simp] theorem placeLoadStep_keeps (slot : Slot) (r : TargetRecord) (step : LoadStep) (s : State) :
    (placeLoadStep slot r step s).pending = s.pending ∧ (placeLoadStep slot r step s).now = s.now ∧ (placeLoadStep slot r step s).mu = s.mu ∧ (placeLoadStep slot r step s).cs = s.cs ∧
    (placeLoadStep slot r step s).oc = s.oc := by
  unfold placeLoadStep
  (repeat' split) <;> simp

/-- `goToStep` keeps the queue of commands, the clock, the MU, the store and the part state. -/
@[simp] theorem goToStep_keeps (slot : Slot) (r : TargetRecord) (step : LoadStep) (s : State) :
    (goToStep slot r step s).pending = s.pending ∧ (goToStep slot r step s).now = s.now ∧ (goToStep slot r step s).mu = s.mu ∧ (goToStep slot r step s).cs = s.cs ∧
    (goToStep slot r step s).oc = s.oc := by
  unfold goToStep
  dsimp only
  split <;> simp

/-- `enterLoading` keeps the queue of commands, the clock, the MU, the store and the part state. -/
@[simp] theorem enterLoading_keeps (slot : Slot) (s : State) :
    (enterLoading slot s).pending = s.pending ∧ (enterLoading slot s).now = s.now ∧ (enterLoading slot s).mu = s.mu ∧ (enterLoading slot s).cs = s.cs ∧
    (enterLoading slot s).oc = s.oc := by
  unfold enterLoading
  dsimp only
  (repeat' split) <;> simp

/-- `enterProbing` keeps the queue of commands, the clock, the MU, the store and the part state. -/
@[simp] theorem enterProbing_keeps (slot : Slot) (r : Reason) (d : Detail) (s : State) :
    (enterProbing slot r d s).pending = s.pending ∧ (enterProbing slot r d s).now = s.now ∧ (enterProbing slot r d s).mu = s.mu ∧ (enterProbing slot r d s).cs = s.cs ∧
    (enterProbing slot r d s).oc = s.oc := by
  unfold enterProbing
  dsimp only
  (repeat' split) <;> simp

/-- `resumeLoad` keeps the queue of commands, the clock, the MU, the store and the part state. -/
@[simp] theorem resumeLoad_keeps (slot : Slot) (s : State) :
    (resumeLoad slot s).pending = s.pending ∧ (resumeLoad slot s).now = s.now ∧ (resumeLoad slot s).mu = s.mu ∧ (resumeLoad slot s).cs = s.cs ∧
    (resumeLoad slot s).oc = s.oc := by
  unfold resumeLoad
  (repeat' split) <;> simp

/-- `advanceLoad` keeps the queue of commands, the clock, the MU, the store and the part state. -/
@[simp] theorem advanceLoad_keeps (slot : Slot) (s : State) :
    (advanceLoad slot s).pending = s.pending ∧ (advanceLoad slot s).now = s.now ∧ (advanceLoad slot s).mu = s.mu ∧ (advanceLoad slot s).cs = s.cs ∧
    (advanceLoad slot s).oc = s.oc := by
  unfold advanceLoad
  (repeat' split) <;> simp

/-- `resumeStep` keeps the queue of commands, the clock, the MU, the store and the part state. -/
@[simp] theorem resumeStep_keeps (slot : Slot) (s : State) :
    (resumeStep slot s).pending = s.pending ∧ (resumeStep slot s).now = s.now ∧ (resumeStep slot s).mu = s.mu ∧ (resumeStep slot s).cs = s.cs ∧
    (resumeStep slot s).oc = s.oc := by
  unfold resumeStep
  (repeat' split) <;> simp

/-- `cleanCheck` keeps the queue of commands, the clock, the MU, the store and the part state. -/
@[simp] theorem cleanCheck_keeps (slot : Slot) (s : State) :
    (cleanCheck slot s).pending = s.pending ∧ (cleanCheck slot s).now = s.now ∧ (cleanCheck slot s).mu = s.mu ∧ (cleanCheck slot s).cs = s.cs ∧
    (cleanCheck slot s).oc = s.oc := by
  simp [cleanCheck]

/-- `identityRead` keeps the queue of commands, the clock, the MU, the store and the part state. -/
@[simp] theorem identityRead_keeps (slot : Slot) (b : Byte) (s : State) :
    (identityRead slot b s).pending = s.pending ∧ (identityRead slot b s).now = s.now ∧ (identityRead slot b s).mu = s.mu ∧ (identityRead slot b s).cs = s.cs ∧
    (identityRead slot b s).oc = s.oc := by
  unfold identityRead
  (repeat' split) <;> simp

/-- `markerRead` keeps the queue of commands, the clock, the MU, the store and the part state. -/
@[simp] theorem markerRead_keeps (slot : Slot) (b : Byte) (s : State) :
    (markerRead slot b s).pending = s.pending ∧ (markerRead slot b s).now = s.now ∧ (markerRead slot b s).mu = s.mu ∧ (markerRead slot b s).cs = s.cs ∧
    (markerRead slot b s).oc = s.oc := by
  unfold markerRead
  (repeat' split) <;> simp

/-- `statusRead` keeps the queue of commands, the clock, the MU, the store and the part state. -/
@[simp] theorem statusRead_keeps (slot : Slot) (b : Byte) (s : State) :
    (statusRead slot b s).pending = s.pending ∧ (statusRead slot b s).now = s.now ∧ (statusRead slot b s).mu = s.mu ∧ (statusRead slot b s).cs = s.cs ∧
    (statusRead slot b s).oc = s.oc := by
  unfold statusRead
  (repeat' split) <;> simp

/-- `stepDone` keeps the queue of commands, the clock, the MU, the store and the part state. -/
@[simp] theorem stepDone_keeps (slot : Slot) (og : Origin) (bytes : List Byte) (s : State) :
    (stepDone slot og bytes s).pending = s.pending ∧ (stepDone slot og bytes s).now = s.now ∧ (stepDone slot og bytes s).mu = s.mu ∧ (stepDone slot og bytes s).cs = s.cs ∧
    (stepDone slot og bytes s).oc = s.oc := by
  unfold stepDone
  (repeat' split) <;> simp

/-- `passToCe` keeps the queue of commands, the clock, the MU, the store and the part state. -/
@[simp] theorem passToCe_keeps (t : Transfer) (out : BusOutcome) (s : State) :
    (passToCe t out s).pending = s.pending ∧ (passToCe t out s).now = s.now ∧ (passToCe t out s).mu = s.mu ∧ (passToCe t out s).cs = s.cs ∧
    (passToCe t out s).oc = s.oc := by
  unfold passToCe
  (repeat' split) <;> simp

/-- `stepOutcome` keeps the queue of commands, the clock, the MU, the store and the part state. -/
@[simp] theorem stepOutcome_keeps (t : Transfer) (slot : Slot) (out : BusOutcome) (bytes : List Byte) (s : State) :
    (stepOutcome t slot out bytes s).pending = s.pending ∧ (stepOutcome t slot out bytes s).now = s.now ∧ (stepOutcome t slot out bytes s).mu = s.mu ∧ (stepOutcome t slot out bytes s).cs = s.cs ∧
    (stepOutcome t slot out bytes s).oc = s.oc := by
  unfold stepOutcome
  dsimp only
  (repeat' split) <;> simp

/-- `stepWithdrawn` keeps the queue of commands, the clock, the MU, the store and the part state. -/
@[simp] theorem stepWithdrawn_keeps (t : Transfer) (s : State) :
    (stepWithdrawn t s).pending = s.pending ∧ (stepWithdrawn t s).now = s.now ∧ (stepWithdrawn t s).mu = s.mu ∧ (stepWithdrawn t s).cs = s.cs ∧
    (stepWithdrawn t s).oc = s.oc := by
  unfold stepWithdrawn
  (repeat' split) <;> simp

/-- `startCheck` keeps the queue of commands, the clock, the MU, the store and the part state. -/
@[simp] theorem startCheck_keeps (slot : Slot) (s : State) :
    (startCheck slot s).pending = s.pending ∧ (startCheck slot s).now = s.now ∧ (startCheck slot s).mu = s.mu ∧ (startCheck slot s).cs = s.cs ∧
    (startCheck slot s).oc = s.oc := by
  unfold startCheck
  (repeat' split) <;> simp

/-- `recoveryChecks` keeps the queue of commands, the clock, the MU, the store and the part state. -/
@[simp] theorem recoveryChecks_keeps (ls : List Slot) (s : State) :
    (recoveryChecks ls s).pending = s.pending ∧ (recoveryChecks ls s).now = s.now ∧ (recoveryChecks ls s).mu = s.mu ∧ (recoveryChecks ls s).cs = s.cs ∧
    (recoveryChecks ls s).oc = s.oc := by
  induction ls generalizing s with
  | nil => simp [recoveryChecks]
  | cons i ls ih =>
    unfold recoveryChecks
    split <;> simp [ih]

/-- `retrySteps` keeps the queue of commands, the clock, the MU, the store and the part state. -/
@[simp] theorem retrySteps_keeps (ls : List Slot) (s : State) :
    (retrySteps ls s).pending = s.pending ∧ (retrySteps ls s).now = s.now ∧ (retrySteps ls s).mu = s.mu ∧ (retrySteps ls s).cs = s.cs ∧
    (retrySteps ls s).oc = s.oc := by
  induction ls generalizing s with
  | nil => simp [retrySteps]
  | cons i ls ih =>
    unfold retrySteps
    dsimp only
    (repeat' split) <;> simp [ih]

/-- `hostProbe` keeps the queue of commands, the clock, the MU, the store and the part state. -/
@[simp] theorem hostProbe_keeps (slot : Slot) (r : Reason) (s : State) :
    (hostProbe slot r s).pending = s.pending ∧ (hostProbe slot r s).now = s.now ∧ (hostProbe slot r s).mu = s.mu ∧ (hostProbe slot r s).cs = s.cs ∧
    (hostProbe slot r s).oc = s.oc := by
  simp [hostProbe]

/-- `hostResume` keeps the queue of commands, the clock, the MU, the store and the part state. -/
@[simp] theorem hostResume_keeps (slot : Slot) (s : State) :
    (hostResume slot s).pending = s.pending ∧ (hostResume slot s).now = s.now ∧ (hostResume slot s).mu = s.mu ∧ (hostResume slot s).cs = s.cs ∧
    (hostResume slot s).oc = s.oc := by
  simp [hostResume]

/-- `hostReload` keeps the queue of commands, the clock, the MU, the store and the part state. -/
@[simp] theorem hostReload_keeps (slot : Slot) (s : State) :
    (hostReload slot s).pending = s.pending ∧ (hostReload slot s).now = s.now ∧ (hostReload slot s).mu = s.mu ∧ (hostReload slot s).cs = s.cs ∧
    (hostReload slot s).oc = s.oc := by
  simp [hostReload]

/-- `activationProbe` keeps the queue of commands, the clock, the MU, the store and the part state. -/
@[simp] theorem activationProbe_keeps (slot : Slot) (s : State) :
    (activationProbe slot s).pending = s.pending ∧ (activationProbe slot s).now = s.now ∧ (activationProbe slot s).mu = s.mu ∧ (activationProbe slot s).cs = s.cs ∧
    (activationProbe slot s).oc = s.oc := by
  simp [activationProbe]

/-- `setUpSlot` keeps the queue of commands, the clock, the MU, the store and the part state. -/
@[simp] theorem setUpSlot_keeps (part : PartState) (slot : Slot) (s : State) :
    (setUpSlot part slot s).pending = s.pending ∧ (setUpSlot part slot s).now = s.now ∧ (setUpSlot part slot s).mu = s.mu ∧ (setUpSlot part slot s).cs = s.cs ∧
    (setUpSlot part slot s).oc = s.oc := by
  unfold setUpSlot
  dsimp only
  (repeat' split) <;> simp

/-- `setUpSlots` keeps the queue of commands, the clock, the MU, the store and the part state. -/
@[simp] theorem setUpSlots_keeps (part : PartState) (ls : List Slot) (s : State) :
    (setUpSlots part ls s).pending = s.pending ∧ (setUpSlots part ls s).now = s.now ∧ (setUpSlots part ls s).mu = s.mu ∧ (setUpSlots part ls s).cs = s.cs ∧
    (setUpSlots part ls s).oc = s.oc := by
  induction ls generalizing s with
  | nil => simp [setUpSlots]
  | cons i ls ih => simp [setUpSlots, ih]

/-! ### Settling -/

/-- `manualOutcome` keeps the queue of commands, the clock, the MU, the store and the part state. -/
@[simp] theorem manualOutcome_keeps (t : Transfer) (out : BusOutcome) (bytes : List Byte) (s : State) :
    (manualOutcome t out bytes s).pending = s.pending ∧ (manualOutcome t out bytes s).now = s.now ∧ (manualOutcome t out bytes s).mu = s.mu ∧ (manualOutcome t out bytes s).cs = s.cs ∧
    (manualOutcome t out bytes s).oc = s.oc := by
  unfold manualOutcome
  (repeat' split) <;> simp

/-- `deliver` keeps the queue of commands, the clock, the MU, the store and the part state. -/
@[simp] theorem deliver_keeps (t : Transfer) (out : BusOutcome) (bytes : List Byte) (s : State) :
    (deliver t out bytes s).pending = s.pending ∧ (deliver t out bytes s).now = s.now ∧ (deliver t out bytes s).mu = s.mu ∧ (deliver t out bytes s).cs = s.cs ∧
    (deliver t out bytes s).oc = s.oc := by
  unfold deliver
  (repeat' split) <;> simp

/-- `finish` keeps the queue of commands, the clock, the MU, the store and the part state. -/
@[simp] theorem finish_keeps (t : Transfer) (out : BusOutcome) (bytes : List Byte) (s : State) :
    (finish t out bytes s).pending = s.pending ∧ (finish t out bytes s).now = s.now ∧ (finish t out bytes s).mu = s.mu ∧ (finish t out bytes s).cs = s.cs ∧
    (finish t out bytes s).oc = s.oc := by
  simp [finish]

/-- `startQuiet` keeps the queue of commands, the clock, the MU, the store and the part state. -/
@[simp] theorem startQuiet_keeps (t : Transfer) (s : State) :
    (startQuiet t s).pending = s.pending ∧ (startQuiet t s).now = s.now ∧ (startQuiet t s).mu = s.mu ∧ (startQuiet t s).cs = s.cs ∧
    (startQuiet t s).oc = s.oc := by
  unfold startQuiet
  (repeat' split) <;> simp

/-- `settle` keeps the queue of commands, the clock, the MU, the store and the part state. -/
@[simp] theorem settle_keeps (t : Transfer) (out : BusOutcome) (bytes : List Byte) (s : State) :
    (settle t out bytes s).pending = s.pending ∧ (settle t out bytes s).now = s.now ∧ (settle t out bytes s).mu = s.mu ∧ (settle t out bytes s).cs = s.cs ∧
    (settle t out bytes s).oc = s.oc := by
  unfold settle
  (repeat' split) <;> simp

/-- `oweStop` keeps the queue of commands, the clock, the MU, the store and the part state. -/
@[simp] theorem oweStop_keeps (out : BusOutcome) (s : State) :
    (oweStop out s).pending = s.pending ∧ (oweStop out s).now = s.now ∧ (oweStop out s).mu = s.mu ∧ (oweStop out s).cs = s.cs ∧
    (oweStop out s).oc = s.oc := by
  unfold oweStop
  (repeat' split) <;> simp

/-- `endTransaction` keeps the queue of commands, the clock, the MU, the store and the part state. -/
@[simp] theorem endTransaction_keeps (t : Transfer) (r : BusResponse) (s : State) :
    (endTransaction t r s).pending = s.pending ∧ (endTransaction t r s).now = s.now ∧ (endTransaction t r s).mu = s.mu ∧ (endTransaction t r s).cs = s.cs ∧
    (endTransaction t r s).oc = s.oc := by
  unfold endTransaction
  dsimp only
  split <;> simp

/-- `settleReleased` keeps the queue of commands, the clock, the MU, the store and the part state. -/
@[simp] theorem settleReleased_keeps (s : State) :
    (settleReleased s).pending = s.pending ∧ (settleReleased s).now = s.now ∧ (settleReleased s).mu = s.mu ∧ (settleReleased s).cs = s.cs ∧
    (settleReleased s).oc = s.oc := by
  unfold settleReleased
  (repeat' split) <;> simp

/-- `settleStuck` keeps the queue of commands, the clock, the MU, the store and the part state. -/
@[simp] theorem settleStuck_keeps (t : Transfer) (s : State) :
    (settleStuck t s).pending = s.pending ∧ (settleStuck t s).now = s.now ∧ (settleStuck t s).mu = s.mu ∧ (settleStuck t s).cs = s.cs ∧
    (settleStuck t s).oc = s.oc := by
  unfold settleStuck
  (repeat' split) <;> simp

/-- `faultManuals` keeps the queue of commands, the clock, the MU, the store and the part state. -/
@[simp] theorem faultManuals_keeps (s : State) :
    (faultManuals s).pending = s.pending ∧ (faultManuals s).now = s.now ∧ (faultManuals s).mu = s.mu ∧ (faultManuals s).cs = s.cs ∧
    (faultManuals s).oc = s.oc := by
  simp [faultManuals]

/-- `faultCondition` keeps the queue of commands, the clock, the MU, the store and the part state. -/
@[simp] theorem faultCondition_keeps (s : State) :
    (faultCondition s).pending = s.pending ∧ (faultCondition s).now = s.now ∧ (faultCondition s).mu = s.mu ∧ (faultCondition s).cs = s.cs ∧
    (faultCondition s).oc = s.oc := by
  simp [faultCondition]

/-- `enterBusFault` keeps the queue of commands, the clock, the MU, the store and the part state. -/
@[simp] theorem enterBusFault_keeps (s : State) :
    (enterBusFault s).pending = s.pending ∧ (enterBusFault s).now = s.now ∧ (enterBusFault s).mu = s.mu ∧ (enterBusFault s).cs = s.cs ∧
    (enterBusFault s).oc = s.oc := by
  unfold enterBusFault
  (repeat' split) <;> simp

/-- `leaveBusFault` keeps the queue of commands, the clock, the MU, the store and the part state. -/
@[simp] theorem leaveBusFault_keeps (s : State) :
    (leaveBusFault s).pending = s.pending ∧ (leaveBusFault s).now = s.now ∧ (leaveBusFault s).mu = s.mu ∧ (leaveBusFault s).cs = s.cs ∧
    (leaveBusFault s).oc = s.oc := by
  simp [leaveBusFault]

/-- `endRecovery` keeps the queue of commands, the clock, the MU, the store and the part state. -/
@[simp] theorem endRecovery_keeps (run : RecoveryRun) (s : State) :
    (endRecovery run s).pending = s.pending ∧ (endRecovery run s).now = s.now ∧ (endRecovery run s).mu = s.mu ∧ (endRecovery run s).cs = s.cs ∧
    (endRecovery run s).oc = s.oc := by
  unfold endRecovery
  dsimp only
  split <;> simp

end Sys2Proof.Machine
end

