-- ==== Sys2Proof/Laws/Ops.lean ====
section
/-! SUPPORT. One lemma for each shared operation that says all it can do: list operations, tables, the
enqueue, the grant decision, the transmitter's choice, the end of a pending request, dispatch, a step. -/

namespace Sys2Proof.Machine

/-! ### Lists and tables -/

/-- The least element of a list by a key is in the list and not above any element. -/
theorem leastBy_spec {α : Type} (key : α → Nat) (xs : List α) (x : α) (h : leastBy key xs = some x) :
    x ∈ xs ∧ ∀ y ∈ xs, key x ≤ key y := by
  induction xs generalizing x with
  | nil => cases h
  | cons a as ih =>
    simp only [leastBy] at h
    split at h
    · rename_i hn
      cases h
      cases as with
      | nil => simp
      | cons b bs =>
        exfalso
        simp only [leastBy] at hn
        split at hn
        · cases hn
        · split at hn <;> cases hn
    · rename_i y hy
      obtain ⟨hm, hl⟩ := ih y hy
      split at h <;> cases h
      · refine ⟨by simp, fun z hz => ?_⟩
        rcases List.mem_cons.mp hz with rfl | hz
        · exact Nat.le_refl _
        · have := hl z hz
          omega
      · refine ⟨by simp [hm], fun z hz => ?_⟩
        rcases List.mem_cons.mp hz with rfl | hz
        · omega
        · exact hl z hz

/-- Only an empty list has no least element. -/
theorem leastBy_eq_none {α : Type} (key : α → Nat) (xs : List α) : leastBy key xs = none ↔ xs = [] := by
  cases xs with
  | nil => simp [leastBy]
  | cons a as =>
    simp only [leastBy]
    split
    · simp
    · split <;> simp

/-- A changed table at an index. -/
@[simp] theorem mapTable_get {α : Type} {n : Nat} (f : Fin n → α → α) (v : Vector α n) (i : Fin n) :
    (mapTable f v)[i] = f i v[i] := by
  simp [mapTable]

/-- The first element that meets a test is changed in its place. -/
theorem changeFirst_append {α : Type} (p : α → Bool) (f : α → α) (before : List α) (x : α) (after : List α)
    (hb : ∀ y ∈ before, p y = false) (hx : p x = true) :
    changeFirst p f (before ++ x :: after) = before ++ f x :: after := by
  induction before with
  | nil => simp [changeFirst, hx]
  | cons a as ih =>
    have ha : p a = false := hb a (by simp)
    simp [changeFirst, ha, ih (fun y hy => hb y (by simp [hy]))]

/-- The first element that meets a test is dropped. -/
theorem dropFirst_append {α : Type} (p : α → Bool) (before : List α) (x : α) (after : List α)
    (hb : ∀ y ∈ before, p y = false) (hx : p x = true) : dropFirst p (before ++ x :: after) = before ++ after := by
  induction before with
  | nil => simp [dropFirst, hx]
  | cons a as ih =>
    have ha : p a = false := hb a (by simp)
    simp [dropFirst, ha, ih (fun y hy => hb y (by simp [hy]))]

/-- Changing elements keeps the length. -/
@[simp] theorem changeFirst_length {α : Type} (p : α → Bool) (f : α → α) (xs : List α) :
    (changeFirst p f xs).length = xs.length := by
  induction xs with
  | nil => rfl
  | cons a as ih => simp only [changeFirst]; split <;> simp [ih]

/-- Dropping at most one element. -/
theorem dropFirst_length {α : Type} (p : α → Bool) (xs : List α) : (dropFirst p xs).length ≤ xs.length := by
  induction xs with
  | nil => simp [dropFirst]
  | cons a as ih => simp only [dropFirst]; split <;> (simp; try omega)

/-! ### Contexts and shadows -/

/-- The context of a slot after it is replaced. -/
@[simp] theorem setCtx_get (slot i : Slot) (c : Ctx) (s : State) :
    (setCtx slot c s).ctxs[i] = if i = slot then c else s.ctxs[i] := by
  by_cases h : i = slot
  · subst h; simp [setCtx]
  · have hv : slot.val ≠ i.val := fun e => h (Fin.ext e.symm)
    simp [setCtx, h, hv]

/-- The shadow of a profile after it is replaced. -/
@[simp] theorem setShadow_get (id i : ProfileId) (sh : Shadow) (s : State) :
    (setShadow id sh s).ce.shadows[i] = if i = id then sh else s.ce.shadows[i] := by
  by_cases h : i = id
  · subst h; simp [setShadow]
  · have hv : id.val ≠ i.val := fun e => h (Fin.ext e.symm)
    simp [setShadow, h, hv]

/-! ### The queue and the arbiter -/

/-- When an enqueue is taken (R104). -/
theorem refuseEnqueue_eq_none (c : Class) (s : State) :
    refuseEnqueue c s = none ↔
      ¬ (c = .manual ∧ s.bm.cond = .fault) ∧ s.bm.queue.length < Config.queuePlaces
        ∧ (c = .compensate → countClass .compensate s.bm.queue < Config.compensatePlaces) := by
  unfold refuseEnqueue
  split
  · simp_all
  · split
    · simp_all
    · split <;> simp_all

/-- A grant decision changes nothing, or grants the arbiter's choice on an idle READY bus (R108). -/
theorem grantDecision_cases (s : State) :
    grantDecision s = s ∨ (busIdle s = true ∧ s.bm.cond = .ready
      ∧ ∃ t, arbiterChoice s.bm.starvation (eligibleTransfers s) = some t ∧ grantDecision s = grant t s) := by
  unfold grantDecision
  split
  · rename_i h
    split
    · exact .inl rfl
    · rename_i t ht
      exact .inr ⟨h.1, h.2, t, ht, rfl⟩
  · exact .inl rfl

/-! ### The link -/

/-- The transmitter's choice: it is busy or has nothing, or a reply goes, or a notice goes (R182). -/
theorem txChoose_cases (s : State) :
    txChoose s = s
      ∨ (s.hl.tx = none ∧ ∃ r rest, s.hl.replies = r :: rest
          ∧ (noticeEligible s.nu = false ∨ s.hl.fairness < 4) ∧ txChoose s = sendReply r rest s)
      ∨ (s.hl.tx = none ∧ noticeEligible s.nu = true ∧ (s.hl.replies = [] ∨ 4 ≤ s.hl.fairness) ∧ txChoose s = sendNotice s) := by
  unfold txChoose
  split
  · exact .inl rfl
  · rename_i ht
    have htx : s.hl.tx = none := by simpa using ht
    split
    · rename_i r rest hr
      split
      · rename_i h
        simp only [Bool.and_eq_true, decide_eq_true_eq] at h
        exact .inr (.inr ⟨htx, h.1, .inr h.2, rfl⟩)
      · rename_i h
        refine .inr (.inl ⟨htx, r, rest, hr, ?_, rfl⟩)
        cases hn : noticeEligible s.nu
        · exact .inl rfl
        · right; simp [hn] at h; omega
    · rename_i hr
      split
      · rename_i h
        exact .inr (.inr ⟨htx, h, .inl hr, rfl⟩)
      · exact .inl rfl

/-- The transmitter busy chooses nothing. -/
theorem txChoose_busy (s : State) (h : s.hl.tx.isSome = true) : txChoose s = s := by
  simp [txChoose, h]

/-- No ended operation waits: the reply queue is not filled (R180). -/
theorem fillReplies_settled (n : Nat) (s : State) (h : ∀ e ∈ s.hl.pend, e.ended = none) : fillReplies n s = s := by
  have hf : nextEnded s.hl.pend = none := by
    unfold nextEnded
    rw [leastBy_eq_none]
    simp only [List.filter_eq_nil_iff]
    intro e he
    simp [h e he]
  cases n with
  | zero => rfl
  | succ n =>
    unfold fillReplies
    split
    · rw [hf]
    · rfl

/-- A dispatch changes nothing, or takes the oldest frame of the intake and judges it (R176). -/
theorem dispatch_cases (names : Option Byte → Bool) (body : Frame → State → State) (s : State) :
    dispatch names body s = s ∨ ∃ f rest, s.hl.intake = f :: rest ∧ mayDispatch s = true ∧ names f.code = true
      ∧ dispatch names body s = judgeTag f body (setIntake rest s) := by
  unfold dispatch
  split
  · exact .inl rfl
  · rename_i f rest hf
    split
    · rename_i h
      simp only [Bool.and_eq_true] at h
      exact .inr ⟨f, rest, hf, h.1, h.2, rfl⟩
    · exact .inl rfl

/-- A taken frame is answered TAG_IN_USE, from the cache, or judged as a new request (R177). -/
theorem judgeTag_cases (f : Frame) (body : Frame → State → State) (s : State) :
    ((∃ e ∈ s.hl.pend, e.tag = f.tag)
        ∧ judgeTag f body s = appendReply ⟨f.tag, replyPayload f.code .tagInUse [], false⟩ s)
      ∨ (∃ e ∈ s.hl.cache, e.tag = f.tag ∧ e.code = f.code ∧ e.digest = digestOf f.payload
          ∧ judgeTag f body s = appendReply ⟨f.tag, e.payload, false⟩ s)
      ∨ judgeTag f body s = body f (evictTag f.tag s) ∨ judgeTag f body s = body f s := by
  unfold judgeTag
  split
  · rename_i h
    left
    simpa using h
  · split
    · rename_i e he
      have hm := List.mem_of_find?_eq_some he
      have ht : e.tag = f.tag := by simpa using List.find?_some he
      split
      · rename_i h
        exact .inr (.inl ⟨e, hm, ht, h.1, h.2, rfl⟩)
      · exact .inr (.inr (.inl rfl))
    · exact .inr (.inr (.inr rfl))

/-- The end of an operation answers nothing, answers at once, or waits in its entry (R179). -/
theorem endPending_cases (op : PendingOp) (payload : List Byte) (s : State) :
    endPending op payload s = s
      ∨ ∃ e ∈ s.hl.pend, e.op = op ∧ e.ended = none
        ∧ ((s.hl.replies.length < Config.replyPlaces
            ∧ endPending op payload s = answerNow e.tag (some e.code) e.digest payload false
              { s with hl := { s.hl with pend := s.hl.pend.filter (fun x => x.tag != e.tag) } })
          ∨ (Config.replyPlaces ≤ s.hl.replies.length
            ∧ endPending op payload s = { s with hl := { s.hl with
                pend := s.hl.pend.map (fun x => if x.tag = e.tag then { x with ended := some (s.hl.endedCount, payload) } else x)
                endedCount := s.hl.endedCount + 1 } })) := by
  unfold endPending
  split
  · exact .inl rfl
  · rename_i e he
    have hm := List.mem_of_find?_eq_some he
    have hp := List.find?_some he
    simp only [Bool.and_eq_true, beq_iff_eq, Option.isNone_iff_eq_none] at hp
    split
    · rename_i h
      exact .inr ⟨e, hm, hp.1, hp.2, .inl ⟨h, rfl⟩⟩
    · rename_i h
      exact .inr ⟨e, hm, hp.1, hp.2, .inr ⟨by omega, rfl⟩⟩

/-! ### Steps of a slot -/

/-- A step waits for its stale hold, waits for room, or is enqueued and awaited (R69, R82, R83). -/
theorem placeStep_cases (slot : Slot) (marks : Bool) (r : Request) (s : State) :
    (s.ctxs[slot].staleHold.isSome = true ∧ placeStep slot marks r s = s)
      ∨ (Config.queuePlaces ≤ s.bm.queue.length ∧ placeStep slot marks r s = modCtx slot (fun c => { c with roomMark := marks }) s)
      ∨ (s.ctxs[slot].staleHold = none ∧ s.bm.queue.length < Config.queuePlaces ∧ placeStep slot marks r s = enqueueStep slot r s) := by
  unfold placeStep
  split
  · rename_i h; exact .inl ⟨h, rfl⟩
  · rename_i h
    split
    · rename_i hq
      exact .inr (.inl ⟨by simpa [queueFull] using hq, rfl⟩)
    · rename_i hq
      refine .inr (.inr ⟨by simpa using h, ?_, rfl⟩)
      simpa [queueFull] using hq

/-- What an entry forgets and what the count of a load sets; neither touches the sequence itself (R66, R88). -/
@[simp] theorem forgetCounts_sequence (c : Ctx) :
    (forgetCounts c).state = c.state ∧ (forgetCounts c).cursor = c.cursor ∧ (forgetCounts c).awaited = c.awaited ∧
    (forgetCounts c).staleHold = c.staleHold ∧ (forgetCounts c).checkStep = c.checkStep := by
  simp [forgetCounts]

@[simp] theorem countSteps_sequence (s : State) (slot : Slot) (r : TargetRecord) (c : Ctx) :
    (countSteps s slot r c).state = c.state ∧ (countSteps s slot r c).cursor = c.cursor ∧
    (countSteps s slot r c).awaited = c.awaited ∧ (countSteps s slot r c).staleHold = c.staleHold ∧
    (countSteps s slot r c).probe = c.probe := by
  simp [countSteps]

/-- The identity read is placed for the check of the record in use, which the context then keeps; without
one nothing changes (R86). -/
theorem placeIdentity_cases (slot : Slot) (s : State) :
    placeIdentity slot s = s
      ∨ ∃ r c, recordInUse s slot = some r ∧ r.identity = some c ∧
          placeIdentity slot s = placeStep slot true (readRequest .identity slot r.addr c.reg)
            (modCtx slot (fun x => { x with probe := some c }) s) := by
  unfold placeIdentity
  split
  · exact .inl rfl
  · rename_i r hr
    split
    · exact .inl rfl
    · rename_i c hc
      exact .inr ⟨r, c, hr, hc, rfl⟩

/-- The record in use is the active one where there is one (R57). -/
theorem recordInUse_of_active {s : State} {slot : Slot} {r : TargetRecord} (h : activeRecord s slot = some r) :
    recordInUse s slot = some r := by
  simp [recordInUse, h]

/-- Activations of other slots and of images carry no record of the slot. -/
theorem replacedRecord_none (slot : Slot) (q : List TmActivation)
    (h : ∀ before after, TmActivation.record slot before after ∉ q) : replacedRecord slot q = none := by
  induction q with
  | nil => rfl
  | cons a as ih =>
    have hs := ih fun b c hm => h b c (List.mem_cons_of_mem _ hm)
    cases a with
    | image i p => exact hs
    | record i b c =>
      have hi : i ≠ slot := by
        rintro rfl
        exact h b c List.mem_cons_self
      simp [replacedRecord, hs, hi]

/-- Behind whatever changes of the record are outstanding, the latest removal of the slot says what the slot is run
on (log 13). -/
theorem replacedRecord_removal (slot : Slot) (r : TargetRecord) (before after : List TmActivation)
    (h : ∀ b c, TmActivation.record slot b c ∉ after) :
    replacedRecord slot (before ++ .record slot (some r) none :: after) = some r := by
  induction before with
  | nil => simp [replacedRecord, replacedRecord_none slot after h]
  | cons a as ih => cases a <;> simp [replacedRecord, ih]

/-! ### Commands -/

/-- What a command gives follows from what its answer is. -/
theorem gives_of_next {c : Instr} {s t : State} {p : State → Prop} (h : exec c s = .next t) (hp : p t) : Gives c s p :=
  ⟨t, h, hp⟩

/-- One next state decides what a command gives. -/
theorem gives_iff {c : Instr} {s t : State} {p : State → Prop} (h : exec c s = .next t) : Gives c s p ↔ p t := by
  constructor
  · rintro ⟨u, hu, hp⟩
    rw [h] at hu
    cases hu
    exact hp
  · exact gives_of_next h

end Sys2Proof.Machine
end

