-- ==== Sys2Proof/WellFormed.lean ====
section
/-! DEFINITION. Which commands are well formed: operands a sender could observe on the part's inputs.
The operand types already keep slots, pulses, straps and conversions in range. -/

namespace Sys2Proof

/-- A transaction sends at most 18 bytes that need an acknowledge (R113) and receives at most 16
(R102, R114), so at most 21 items stand on the wire before a clock is held. -/
def BusResponse.wellFormed : BusResponse → Bool
  | .complete acks data => decide (acks.length ≤ 18) && decide (data.length ≤ 16)
  | .clockHeld n acks data => decide (n ≤ 21) && decide (acks.length ≤ 18) && decide (data.length ≤ 16)
  | .lineStuck _ => true

/-- The checks on a command's operands: a copy is named at most once among the disturbed ones, and a
bus response holds no more than one transaction can show. -/
def Instr.wellFormed : Instr → Bool
  | .startUpScanEnd disturbed => decide disturbed.Nodup
  | .transactionEnd r _ => r.wellFormed
  | _ => true

end Sys2Proof
end

