-- ==== Sys2Proof/Tests/Slice0.lean ====
section
/-! SUPPORT. Tests: the well-formedness checks, worked examples of the spec, and for each statement with
hypotheses a concrete state and operands that meet them (witness_<its name>). -/

set_option Elab.async false

namespace Sys2Proof.Tests
open Sys2Proof Sys2Proof.Machine

/-! ### Well-formedness and decoding -/

theorem test_disturbed_twice_refused : (Instr.startUpScanEnd [(.settings, .a), (.settings, .a)]).wellFormed = false := by decide
theorem test_too_many_acks_refused : (Instr.transactionEnd (.complete (List.replicate 19 true) []) false).wellFormed = false := by
  decide
theorem test_too_much_data_refused : (Instr.transactionEnd (.complete [true] (List.replicate 17 0)) false).wellFormed = false := by
  decide
theorem test_late_clock_refused : (Instr.transactionEnd (.clockHeld 22 [] []) false).wellFormed = false := by decide
theorem test_well_formed_taken : (Instr.transactionEnd (.complete (List.replicate 18 true) []) true).wellFormed = true := by decide
theorem test_no_word_decodes (nbits w : Nat) : decodeTableWord nbits w = none := rfl
theorem test_fetch_word_changes_nothing (s : State) (nbits w : Nat) : s.withFetchWord nbits w = s := rfl

/-! ### Small states -/

/-- The state a command leaves. -/
def after (i : Instr) (s : State) : State := match exec i s with
  | .next t => t
  | _ => s

/-- A part in RUN with an empty store and Ti at 25 degrees. -/
def base : State := { State.reset with
  cs := { Cs.reset Store.manufactured with scanning := false, inEffect := .factory, scan := ⟨0, 0, 0, 0, []⟩ }
  oc := { Oc.reset .power 0 with part := .run, scanResult := some ⟨.factory, .run, ⟨0, 0, 0, 0, []⟩⟩, firstCompletion := true }
  mu := { Mu.reset with ti := some 400, tf := 400, reading := some ⟨400, .ok, 400, 3300⟩, nextStart := some 100 } }

/-- A record with identity check and marker, retry limit 2. -/
def record0 : TargetRecord := ⟨0x48, true, some ⟨0, 0xA5, 0xFF⟩, some ⟨0x10, 0x5A⟩, none, none, 10, 2⟩

/-- The LINEAR profile of 02's example: (400, 128) and (960, 90). -/
def profile0 : Profile := ⟨⟨true, 0, 0x20, .byte, .highFirst, 0, .linear, 0, 255, 4, some 100, .shift⟩, [⟨400, 128⟩, ⟨960, 90⟩]⟩

def withRecord (slot : Slot) (r : TargetRecord) (s : State) : State := { s with cs := { s.cs with
  store := { s.cs.store with targets := s.cs.store.targets.set slot ⟨.valid 1 r, .empty⟩ }
  dir := { s.cs.dir with targets := s.cs.dir.targets.set slot ⟨.valid 1, .empty, some .a⟩ } } }

def withProfile (id : ProfileId) (p : Profile) (s : State) : State := { s with cs := { s.cs with
  store := { s.cs.store with profiles := s.cs.store.profiles.set id ⟨.valid 1 p, .empty⟩ }
  dir := { s.cs.dir with profiles := s.cs.dir.profiles.set id ⟨.valid 1, .empty, some .a⟩ } } }

def withCtx (slot : Slot) (f : Ctx → Ctx) (s : State) : State := modCtx slot f s

/-- Slot 0 with its record in a target state. -/
def slot0 (st : TargetState) : State := withCtx 0 (fun c => { c with state := st }) (withRecord 0 record0 base)

/-- A part whose intake holds one request, TAG 7. -/
def asked (payload : List Byte) (s : State) : State := { s with hl := { s.hl with intake := [⟨7, payload⟩] } }

/-- A request of an otherwise idle link is dispatched as a new one. -/
theorem asked_of (payload : List Byte) (s : State) (h : s.hl = Hl.reset) (h1 : s.oc.held = false) (h2 : s.oc.restart = none) :
    Asked (asked payload s) ⟨7, payload⟩ [] := by
  constructor <;> simp [asked, h, Hl.reset, h1, h2]

/-- The payload of the newest reply in the cache. -/
def lastReply (s : State) : List Byte := (s.hl.cache.getLast?.map CacheEntry.payload).getD []

/-- A transfer of slot 0 on the bus. -/
def busTransfer (o : Origin) (d : Dir) : Transfer :=
  ⟨0, 0, o, some 0, 0x48, d, 0x20, match d with
    | .write => [5]
    | .read => [], match d with
    | .write => 0
    | .read => 1, 0, 0, true, false⟩

/-- A part with one transfer on the bus. -/
def onBus (t : Transfer) (s : State) : State := { s with bm := { s.bm with queue := [t], nextId := 1, nextAge := 1 } }

/-! ### Worked examples of the spec -/

/-- 02 R23: LINEAR between (400, 128) and (960, 90) at 540 is 119. -/
theorem test_linear_half_rounds_up : baseValue profile0 540 = 119 := by decide
/-- 02 R22: the staircase (-640, 3), (0, 5), (800, 7). -/
theorem test_step_staircase :
    ([-700, -640, -1, 0, 799, 800, 2000].map (baseValue ⟨{ profile0.header with interp := .step }, [⟨-640, 3⟩, ⟨0, 5⟩, ⟨800, 7⟩]⟩))
      = [3, 3, 3, 5, 5, 7, 7] := by decide
/-- 02 R29: 141 halved once and twice; R24: 60000 + 10000 at level 1. -/
theorem test_derate_halves : deratedValue .shift 1 141 = 70 ∧ deratedValue .shift 2 141 = 35
    ∧ deratedValue .shift 1 (trimmedValue 60000 10000) = 35000 := by decide
/-- 08 R141: 0 is newer than 65535. -/
theorem test_generation_wraps : newer 0 65535 = true ∧ newer 65535 0 = false ∧ newer 32768 0 = false := by decide
/-- 12: the ACK frame of number 51h. -/
theorem test_ack_frame : (frameBytes kindAck 0x51 []).take 4 = [0xA5, 0x02, 0x04, 0x51] := by decide
/-- 06 R125: a scan of an empty store starts with the factory settings. -/
theorem test_scan_of_empty_store : (after (.startUpScanEnd []) State.reset).cs.inEffect = .factory
    ∧ (after (.startUpScanEnd []) State.reset).mu.cycle = some ⟨0, 100⟩ := by decide +kernel
/-- 11: ALERT_N falls with a FAULT notice. -/
theorem test_alert_falls : (after .noticeAppend (postNotice .fault (.busFault 1 .manual none 0 0) base)).pins.alertN = false := by
  decide +kernel
/-- 10 R183, R184: IDENTIFY. -/
theorem test_identify : lastReply (after .identify (asked [0x01] base))
    = [0x01, 0x00, 0x3A, 0x17, 0x42, 0x08, 0x01, 0x08, 0x40, 0x18, 0x20, 0x20, 0x10] := by decide +kernel
/-- 09 R167: SET_MODE HOLD. -/
theorem test_set_mode_hold : lastReply (after .setMode (asked [0x10, 0x02] base)) = [0x10, 0x00, 0x01, 0x02]
    ∧ (after .setMode (asked [0x10, 0x02] base)).oc.part = .hold := by decide +kernel

/-! ### Witnesses: reset, start, measurement -/

theorem witness_StepRunsFrontCommand : base.pending = [] := rfl

/-- A part held in reset, and one whose RESTART reply is at the transmitter. -/
def heldPart : State := { base with oc := { base.oc with held := true } }
def restarting : State := { base with hl := { base.hl with tx := some ⟨frameBytes kindReply 7 [0x15, 0x00], true⟩ } }

theorem witness_ResetHoldsThePartAndItsEndBeginsStart :
    heldPart.oc.held = true ∧ base.oc.held = false
      ∧ ∃ fr, restarting.hl.tx = some fr ∧ fr.restart = true := ⟨rfl, rfl, _, rfl, rfl⟩

theorem witness_ShadowsUnknownAfterEveryReset :
    (heldPart.oc.held = true) ∧ ∃ fr, restarting.hl.tx = some fr ∧ fr.restart = true := ⟨rfl, _, rfl, rfl⟩

/-- A commit of TARGET 0 in copy A, EMPTY before, begun at 0, at a time. -/
def committing (now : Nat) : State := { base with
  now := now
  cs := { base.cs with
    session := .committing
    buffer := some ⟨.target 0, true, false, .target record0⟩
    commit := some ⟨.target 0, .a, 1, 0, 9, true⟩ } }

/-- R158: the first 4 ms leave EMPTY, later the copy is DAMAGED. -/
theorem witness_ResetCutsCommitInProgress :
    (after .pinReset (committing 3)).cs.store.copyAt (.target 0) .a = .empty
      ∧ (after .pinReset (committing 4)).cs.store.copyAt (.target 0) .a = .damaged
      ∧ (after .pinReset (committing 4)).cs.store.copyAt (.target 0) .b = .empty := by decide +kernel

/-- R141, R143: of two valid copies the newer, A when neither is newer, the valid one of two; a disturbed copy is
DAMAGED, one valid copy keeps the object, none leaves it absent by damage. -/
theorem witness_ScanFillsDirectoryAndAnnouncesSettings : State.reset.cs.scanning = true ∧ base.cs.scanning = false
    ∧ chooseActive (.valid 65535) (.valid 0) = some .b ∧ chooseActive (.valid 0) (.valid 32768) = some .a
    ∧ chooseActive (.valid 0) (.valid 32767) = some .b ∧ chooseActive .damaged (.removed 3) = some .b
    ∧ chooseActive .empty .damaged = none
    ∧ (after (.startUpScanEnd [(.settings, .b), (.profile 63, .a)]) State.reset).cs.inEffect = .factoryDamaged
    ∧ (after (.startUpScanEnd [(.settings, .b), (.profile 63, .a)]) State.reset).cs.scan
      = ⟨0, 0, 0, 2, [.settings, .profile 63]⟩ := by decide +kernel

/-- The end of START is due. -/
def startDue : State := { base with oc := { base.oc with part := .start } }

/-- The announcements of the end of START stand. -/
def announced : State := { slot0 .unconfigured with
  msgs := { Msgs.reset with endMu := true, endCs := true, endTm := some .run, endHl := true } }

theorem witness_EndOfStartChoosesPartStateAndReleasesNotices :
    startDue.oc.scanResult = some ⟨.factory, .run, ⟨0, 0, 0, 0, []⟩⟩ ∧ startDue.oc.part = .start
      ∧ startDue.oc.firstCompletion = true ∧ startDue.mu.ti = some 400
      ∧ announced.msgs.endMu = true ∧ announced.msgs.endCs = true ∧ announced.cs.scan = ⟨0, 0, 0, 0, []⟩
      ∧ announced.msgs.endHl = true := by decide +kernel

theorem witness_SlotSetUpEntersDisabledOrProbes :
    announced.msgs.endTm = some .run ∧ activeRecord announced 1 = none ∧ activeRecord announced 0 = some record0
      ∧ record0.autoStart = true := by decide +kernel

/-- A cycle is in progress, Ti known, the remote condition FAULTED with two valid readings in a row. -/
def measuring : State := { base with
  mu := { base.mu with cycle := some ⟨100, 100⟩, nextStart := some 200, remoteCond := .faulted, runCount := 2 } }

theorem witness_CompletionRecordsReadingsAndAnnounces : measuring.mu.cycle = some ⟨100, 100⟩ := rfl

/-- R6: the third valid reading recovers the sensor; 2400 is VALID, 2401 out of range. -/
theorem witness_RemoteConditionFollowsJudgement : measuring.mu.cycle.isSome = true
    ∧ measuring.mu.remoteCond = .faulted ∧ measuring.mu.runCount = 2
    ∧ (after (.cycleCompletion 400 (.ok 2400) 3300) measuring).mu.remoteCond = .good
    ∧ (after (.cycleCompletion 400 (.ok 2401) 3300) measuring).mu.runCount = 0 := by decide +kernel

theorem witness_IndexRestartsOrFilters : measuring.mu.cycle.isSome = true ∧ measuring.mu.tf = 400
    ∧ measuring.mu.ti = some 400 ∧ (activeSettings measuring).source = measuring.mu.sourceInUse := by decide +kernel

/-- A restart in the cycle in progress, the supply LOW. -/
def lowSupply : State := { measuring with mu := { measuring.mu with supply := .low, ti := none } }

/-- R10: -640 and 1520 lie inside the span, -641 and 1521 outside; R11: 2999 mV is below the floor of 3000 mV, 3000 mV
is not, and 3100 mV recovers, 3099 mV does not. -/
theorem witness_SpanAndSupplyJudgedWithHysteresis : measuring.mu.cycle.isSome = true ∧ lowSupply.mu.cycle.isSome = true
    ∧ [-641, -640, 1520, 1521].map (fun v => (after (.cycleCompletion v .short 3300) lowSupply).mu.span)
      = [.outside, .inside, .inside, .outside]
    ∧ [2999, 3000].map (fun v => (after (.cycleCompletion 400 .short v) measuring).mu.supply) = [.low, .normal]
    ∧ [3099, 3100].map (fun v => (after (.cycleCompletion 400 .short v) lowSupply).mu.supply) = [.low, .normal] := by
  decide +kernel

/-! ### Witnesses: evaluation and pass -/

/-- A STEP profile of two points. -/
def stepProfile : Profile := { profile0 with header := { profile0.header with interp := .step } }

theorem witness_StepCurveIsStaircase : stepProfile.header.interp = .step ∧ Rising stepProfile.points ∧ 2 ≤ stepProfile.points.length
    ∧ stepProfile.points.head? = some ⟨400, 128⟩ ∧ stepProfile.points = [] ++ ⟨400, 128⟩ :: [⟨960, 90⟩]
    ∧ (∀ q ∈ [(⟨960, 90⟩ : Point)], 959 < q.temp) := by unfold Rising; decide

theorem witness_LinearCurveRoundsHalfUp : profile0.header.interp = .linear ∧ Rising profile0.points
    ∧ profile0.points = [] ++ ⟨400, 128⟩ :: ⟨960, 90⟩ :: [] ∧ (400 : Int) ≤ 959 ∧ (959 : Int) < 960 := by unfold Rising; decide

/-- R31 to R34 at their edges: a move of exactly the step limit is whole, one more is cut; a start value above the
upper limit is held by stage 6. -/
theorem witness_StagesTwoToSixOfAnEvaluation : ((0 : Nat) : Int) + -1 < 0 ∧ (0 : Int) ≤ ((65535 : Nat) : Int) + 32767
    ∧ deratedValue .shift 2 3 < 1 ∧ profile0.header.lower ≤ profile0.header.upper ∧ 0 < profile0.header.stepLimit
    ∧ [124, 123].map (fun v => (evaluate profile0 400 0 0 (some v)).output) = [128, 127]
    ∧ [132, 133].map (fun v => (evaluate profile0 400 0 0 (some v)).output) = [128, 129]
    ∧ (evaluate { profile0 with header := { profile0.header with upper := 99 } } 400 0 0 none).output = 99
    ∧ (evaluate { profile0 with header := { profile0.header with upper := 99 } } 400 0 0 none).stages = ⟨true, true⟩ := by
  decide +kernel

/-- A part with a profile on slot 0 IN_SERVICE and the cycle complete announced. -/
def passing (first : Bool) : State := { withProfile 3 profile0 (slot0 .inService) with
  msgs := { Msgs.reset with ceMu := [.cycleComplete ⟨400, .ok, 400, 3300⟩ 400 .die .normal first] } }

theorem witness_PassServesOnlySlotsInService :
    (passing true).msgs.ceMu = .cycleComplete ⟨400, .ok, 400, 3300⟩ 400 .die .normal true :: []
    ∧ (passing false).msgs.ceMu = .cycleComplete ⟨400, .ok, 400, 3300⟩ 400 .die .normal false :: []
    ∧ (passing false).oc.part = .run ∧ (passing false).ce.supply = .normal
    ∧ (∀ i : Slot, (passing false).msgs.ceInvalidate[i] = false)
    ∧ (∀ slot : Slot, (passing false).ctxs[slot].state = .inService → profileServes (passing false) slot 4 = false) := by
  decide +kernel

/-- The pass's inputs, and what it leaves of the one profile it serves. -/
theorem witness_PassVisitsEveryServedProfile : (passing false).mu.ti = some 400
    ∧ (∀ i : Slot, (passing false).msgs.ceInvalidate[i] = false)
    ∧ ServedBy (passing false) 0 3 = true ∧ activeProfile (passing false) 3 = some profile0
    ∧ servedIds (passing false) = [3] ∧ needsWrite (passing false) 400 3 = true
    ∧ (passing false).bm.queue.length + 1 ≤ 32 ∧ countClass .compensate (passing false).bm.queue + 1 ≤ 24
    ∧ (runPass (passing false)).2.evaluated = 1 ∧ (runPass (passing false)).2.enqueued = 1
    ∧ (runPass (passing false)).1.ce.shadows[(3 : ProfileId)].reference = some 100 := by decide +kernel

/-- As `passing`, the record with a latch. -/
def latching (l : LatchState) (q : List Transfer) : State := { withRecord 0 { record0 with latch := some ⟨0x30, 1⟩ } (passing false) with
  ce := { Ce.reset with latches := Ce.reset.latches.set (0 : Slot) l }
  bm := { Bm.reset with queue := q, nextId := 40, nextAge := 40, recovering := true } }

/-- A latch of slot 0. -/
def latchTransfer (onBus : Bool) : Transfer := { busTransfer .latch .write with onBus := onBus }

/-- Some waiting COMPENSATE transfers of slot 1. -/
def compensates (n : Nat) : List Transfer :=
  (List.range n).map (fun k => { busTransfer (.profile 9) .write with id := k, age := k, slot := some 1, onBus := false })

/-- A latch-deferred slot without profiles whose latch already waits. -/
def latchAlone : State := { withRecord 0 { record0 with latch := some ⟨0x30, 1⟩ } (slot0 .inService) with
  ce := { Ce.reset with latches := Ce.reset.latches.set (0 : Slot) ⟨true, some 0, none⟩ }
  bm := { Bm.reset with queue := [latchTransfer false], nextId := 1, nextAge := 40 } }

/-- R46: enqueued behind the write, moved where one waits, deferred where the class is full; the DONE clears the
on-bus reference. -/
theorem witness_LatchIsEnqueuedMovedOrDeferred : (latching ⟨false, none, none⟩ []).mu.ti = some 400
    ∧ (∀ i : Slot, (latching ⟨false, none, none⟩ []).msgs.ceInvalidate[i] = false)
    ∧ (runPass (latching ⟨false, none, none⟩ [])).2.latchesEnqueued = 1
    ∧ ((runPass (latching ⟨false, none, none⟩ [])).1.bm.queue.map Transfer.origin) = [.profile 3, .latch]
    ∧ (runPass (latching ⟨false, some 0, none⟩ [latchTransfer false])).2.latchesMoved = 1
    ∧ (runPass (latching ⟨false, some 0, none⟩ [latchTransfer false])).1.ce.latches[(0 : Slot)].waiting = some 0
    ∧ (runPass (latching ⟨false, some 0, none⟩ [latchTransfer false])).1.bm.queue.head? = some { latchTransfer false with age := 41 }
    ∧ OneOnBus (latching ⟨false, some 0, none⟩ [latchTransfer false])
    ∧ (∀ (id : ProfileId), (latching ⟨false, some 0, none⟩ [latchTransfer false]).ce.shadows[id].waiting = none)
    ∧ (runPass latchAlone).1.bm.queue = [{ latchTransfer false with age := 40 }]
    ∧ (grantDecision (runPass latchAlone).1).ce.latches[(0 : Slot)] = ⟨true, none, some 0⟩
    ∧ (runPass (latching ⟨true, none, none⟩ (compensates 24))).2.latchesDeferred = 1
    ∧ (runPass (latching ⟨false, none, none⟩ (compensates 23))).1.ce.latches[(0 : Slot)].deferred = true
    ∧ (runPass (latching ⟨false, none, none⟩ (compensates 22))).1.ce.latches[(0 : Slot)].deferred = false
    ∧ onBusTransfer (latching ⟨false, none, some 0⟩ [latchTransfer true]) = some (latchTransfer true)
    ∧ (latching ⟨false, none, some 0⟩ [latchTransfer true]).ce.latches[(0 : Slot)].onBus = some (latchTransfer true).id
    ∧ (grant (latchTransfer false) (latching ⟨false, some 0, none⟩ [latchTransfer false])).ce.latches[(0 : Slot)] = ⟨false, none, some 0⟩
    ∧ (after (.transactionEnd (.complete [true, true, true] []) false)
        (onBus (latchTransfer true) { latching ⟨false, none, some 0⟩ [] with bm := Bm.reset })).ce.latches[(0 : Slot)] = ⟨false, none, none⟩
    ∧ OneOnBus (onBus (latchTransfer true) { latching ⟨false, none, some 0⟩ [] with bm := Bm.reset }) := by
  unfold OneOnBus; decide +kernel

theorem witness_PassVisitReplacesEnqueuesOrDefers : activeProfile (passing false) 3 = some profile0
    ∧ (passing false).ce.shadows[(3 : ProfileId)].waiting = none
    ∧ (passing false).bm.queue.length < 32 ∧ countClass .compensate (passing false).bm.queue < 24
    ∧ (passing false).mu.ti = some 400
    ∧ ((visitProfile 0 record0 3 (withProfile 3 { profile0 with header := { profile0.header with upper := 99 } } (passing false),
        PassAccount.none)).1.msgs.notices.map Notice.content) = [.limit 3 0 true ⟨true, true⟩ 99 99 0 99 400 false]
    ∧ (after (.cycleCompleteAtCe false) (passing false)).bm.queue.map Transfer.data = [[100]] := by decide +kernel

theorem witness_InvalidationClearsSlotShadows :
    (askInvalidation 7 base).msgs.ceInvalidate[(7 : Slot)] = true := by decide +kernel

/-- A profile announcement stands, with a waiting write of the profile queued. -/
def profileChanged (b a : Option Profile) : State := { passing false with
  msgs := { Msgs.reset with ceProfile := [⟨3, b, a⟩] }
  ce := { Ce.reset with shadows := Ce.reset.shadows.set (3 : ProfileId) ⟨some 5, none, some ⟨0, 5⟩, none, false, false⟩ }
  bm := { Bm.reset with queue := [{ busTransfer (.profile 3) .write with onBus := false }], nextId := 1 } }

theorem witness_ProfileActivationKeepsOrInvalidatesShadow :
    (profileChanged (some profile0) (some stepProfile)).msgs.ceProfile = ⟨3, some profile0, some stepProfile⟩ :: []
    ∧ profile0.header.slot = stepProfile.header.slot ∧ profile0.header.param = stepProfile.header.param
    ∧ profile0.header.width = stepProfile.header.width ∧ profile0.header.order = stepProfile.header.order
    ∧ (profileChanged (some profile0) none).msgs.ceProfile = ⟨3, some profile0, none⟩ :: []
    ∧ (profileChanged (some profile0) none).ce.shadows[(3 : ProfileId)].waiting = some ⟨0, 5⟩
    ∧ (profileChanged (some profile0) none).ce.shadows[(3 : ProfileId)].onBus = none
    ∧ (∀ x ∈ (profileChanged (some profile0) none).bm.queue, x.id = 0 → x.origin = .profile 3 ∧ x.onBus = false) := by
  decide +kernel

/-! ### Witnesses: slots -/

theorem witness_AdminRefusedOrNeedlessChangesNothing :
    Asked (asked [0x14, 0, 1] (slot0 .inService)) ⟨7, [0x14, 0, 1]⟩ [] ∧ adminArgs [0, 1] = some (0, .enable)
    ∧ (slot0 .inService).ctxs[(0 : Slot)].state = .inService ∧ (slot0 .disabled).ctxs[(0 : Slot)].state = .disabled :=
  ⟨asked_of _ _ rfl rfl rfl, by decide +kernel⟩

/-- SUSPEND, RELOAD, ENABLE, RESUME and DISABLE answer the states and the reason. -/
theorem witness_AdminActionMovesSlotAndAnswers :
    Asked (asked [0x14, 0, 3] (slot0 .inService)) ⟨7, [0x14, 0, 3]⟩ [] ∧ (slot0 .inService).oc.part ≠ .start
    ∧ (slot0 .inService).ctxs[(0 : Slot)].state = .inService ∧ activeRecord (slot0 .inService) 0 = some record0
    ∧ adminArgs [0, 3] = some (0, .suspend) ∧ automaticUse .faultHold = true
    ∧ lastReply (after (.targetAdmin false) (asked [0x14, 0, 3] (slot0 .inService))) = [0x14, 0, 0, 3, 4, 5, 0x0A]
    ∧ lastReply (after (.targetAdmin false) (asked [0x14, 0, 5] (slot0 .faultHold))) = [0x14, 0, 0, 5, 6, 2, 0x08]
    ∧ lastReply (after (.targetAdmin false) (asked [0x14, 0, 1] (slot0 .disabled))) = [0x14, 0, 0, 1, 1, 2, 0x06]
    ∧ lastReply (after (.targetAdmin false) (asked [0x14, 0, 4] (slot0 .suspended))) = [0x14, 0, 0, 4, 5, 2, 0x07]
    ∧ lastReply (after (.targetAdmin false) (asked [0x14, 0, 2] (slot0 .mismatch))) = [0x14, 0, 0, 2, 7, 1, 0x09] :=
  ⟨asked_of _ _ rfl rfl rfl, by decide +kernel⟩

/-- A record or image announcement stands for slot 0. -/
def storeAnnounced (a : TmActivation) (st : TargetState) : State := { slot0 st with msgs := { Msgs.reset with tmStore := [a] } }

/-- A change of the record and then its removal outstanding: the slot is run on the record the removal carries (log 13). -/
theorem test_removed_record_in_use : replacedRecord 0 [.record 0 (some { record0 with addr := 0x21 }) (some record0), .image 0 true,
    .record 1 (some { record0 with addr := 0x22 }) none, .record 0 (some record0) none] = some record0 := by decide +kernel

/-- Before the scan's end the settings in effect are FACTORY and the scan record counts nothing (log 8). -/
theorem test_scan_results_at_reset : State.reset.cs.inEffect = .factory ∧ State.reset.cs.scan = ⟨0, 0, 0, 0, []⟩ := by decide +kernel

theorem witness_RecordAndImageActivationActByState :
    (storeAnnounced (.record 0 none (some record0)) .unconfigured).msgs.tmStore = .record 0 none (some record0) :: []
    ∧ activeRecord (storeAnnounced (.record 0 none (some record0)) .unconfigured) 0 = some record0
    ∧ (storeAnnounced (.record 0 (some record0) none) .inService).msgs.tmStore = .record 0 (some record0) none :: []
    ∧ (storeAnnounced (.record 0 (some record0) none) .inService).ctxs[(0 : Slot)].state ≠ .unconfigured
    ∧ (storeAnnounced (.image 0 true) .mismatch).msgs.tmStore = .image 0 true :: []
    ∧ automaticUse (storeAnnounced (.image 0 true) .mismatch).ctxs[(0 : Slot)].state = true
    ∧ automaticUse (storeAnnounced (.image 0 true) .suspended).ctxs[(0 : Slot)].state = false
    ∧ (after (.imageActivation false) (storeAnnounced (.image 0 true) .mismatch)).ctxs[(0 : Slot)].state = .probing
    ∧ (after (.imageActivation false) (storeAnnounced (.image 0 false) .mismatch)).ctxs[(0 : Slot)].state = .mismatch := by decide +kernel

/-- A failure report stands for slot 0. -/
def reported (st : TargetState) : State := { slot0 st with msgs := { Msgs.reset with tmReports := [⟨0, .latch, .timeout⟩] } }

/-- The check timer of slot 0 IN_SERVICE runs, and the supply change is announced. -/
def checkDue : State := { withCtx 0 (fun c => { c with checkTimer := some 1000 }) (slot0 .inService) with
  msgs := { Msgs.reset with tmSupply := [.normal] } }

theorem witness_ChecksBeginAtExpiryAndSupplyRecovery : checkDue.ctxs[(0 : Slot)].checkTimer = some 1000
    ∧ activeRecord checkDue 0 = some record0 ∧ record0.marker = some ⟨0x10, 0x5A⟩ ∧ checkDue.ctxs[(0 : Slot)].staleHold = none
    ∧ checkDue.bm.queue.length < 32 ∧ checkDue.msgs.tmSupply = .normal :: [] ∧ checkDue.ctxs[(0 : Slot)].checkStep = .idle := by
  decide +kernel

/-- The hold timer of slot 0 in FAULT_HOLD runs, with a recovery count. -/
def holdDue (n : Nat) : State := withCtx 0 (fun c => { c with faultTimer := some 5000, recovery := n }) (slot0 .faultHold)

theorem witness_FaultHoldIsEnteredAndEnds : (reported .inService).msgs.tmReports = ⟨0, .latch, .timeout⟩ :: []
    ∧ (reported .inService).ctxs[(0 : Slot)].state = .inService ∧ (reported .loading).ctxs[(0 : Slot)].state ≠ .inService
    ∧ (holdDue 2).ctxs[(0 : Slot)].faultTimer = some 5000
    ∧ activeRecord (holdDue 2) 0 = some record0 ∧ (activeSettings (holdDue 2)).recoveryLimit = 3
    ∧ (after (.faultHoldTimerExpiry 0 false) (holdDue 2)).ctxs[(0 : Slot)].state = .probing
    ∧ (after (.faultHoldTimerExpiry 0 false) (holdDue 3)).ctxs[(0 : Slot)].state = .outOfService := by decide +kernel

/-- Slot 0 IN_SERVICE has a marker read waiting for room, and a departure stands. -/
def roomFreed : State := { withCtx 0 (fun c => { c with checkStep := .marker }) (slot0 .inService) with
  msgs := { Msgs.reset with departures := 1 } }

theorem witness_DepartureRetriesWaitingSteps : roomFreed.msgs.departures ≠ 0 ∧ waitsForRoom roomFreed 0 = true
    ∧ roomFreed.bm.queue.length + 8 ≤ 32 ∧ roomFreed.ctxs[(0 : Slot)].awaited = none ∧ roomFreed.ctxs[(0 : Slot)].checkStep = .marker ∧ activeRecord roomFreed 0 = some record0
    ∧ (∀ i : Slot, waitsForRoom (slot0 .inService) i = false)
    ∧ ((after (.queueDeparture false) roomFreed).bm.queue.map Transfer.origin) = [.checkMarker] := by decide +kernel

/-- Slot 0 in LOADING waits for room with a step, slot 1 IN_SERVICE with a status read, behind some queued transfers. -/
def roomWaited (n : Nat) (step : LoadStep) : State :=
  withCtx 0 (fun c => { c with state := .loading, cursor := step, roomMark := true, profileList := [3], markerStep := true })
    (withCtx 1 (fun c => { c with state := .inService, checkStep := .status })
      (withRecord 1 { record0 with addr := 0x49, status := some ⟨0x11, 1⟩ } { withProfile 3 profile0 (slot0 .loading) with
        msgs := { Msgs.reset with departures := 1 }
        bm := { Bm.reset with
          queue := (List.range n).map (fun k => { busTransfer (.image 0) .write with id := k, age := k, slot := some 2, onBus := false })
          nextId := n
          nextAge := n
          recovering := true } }))

/-- R83: with room both are placed, with one place left the first alone, in a full queue none. -/
theorem witness_DepartureStopsAtFullQueue : (∀ i : Slot, i < 0 → waitsForRoom (roomWaited 31 .marker) i = false)
    ∧ waitsForRoom (roomWaited 31 .marker) 0 = true ∧ waitsForRoom (roomWaited 31 .marker) 1 = true
    ∧ (∀ i : Slot, 0 < i → i < 1 → waitsForRoom (roomWaited 31 .marker) i = false)
    ∧ activeRecord (roomWaited 31 .marker) 0 = some record0 ∧ record0.marker.isSome = true
    ∧ ((after (.queueDeparture false) (roomWaited 24 .marker)).bm.queue.drop 24).map Transfer.origin = [.loadMarker, .checkStatus]
    ∧ ((after (.queueDeparture false) (roomWaited 31 (.profile 0))).bm.queue.drop 31).map Transfer.origin = [.loadProfile 3]
    ∧ (after (.queueDeparture false) (roomWaited 31 (.profile 0))).ctxs[(1 : Slot)].awaited = none
    ∧ (after (.queueDeparture false) (roomWaited 32 .marker)).bm = (roomWaited 32 .marker).bm
    ∧ (after (.queueDeparture false) (roomWaited 32 .marker)).ctxs[(0 : Slot)].roomMark = true := by decide +kernel

/-! ### Witnesses: the bus -/

/-- A waiting MANUAL transfer beside a waiting COMPENSATE one, with a starvation count. -/
def waiting (n : Nat) : State := { base with bm := { Bm.reset with
  starvation := n
  queue := [{ busTransfer (.profile 3) .write with onBus := false },
    { busTransfer (.request 9) .read with id := 1, age := 1, slot := none, onBus := false }]
  nextId := 2
  nextAge := 2 } }

/-- R109 grants MANUAL first; with the count at 8 R110 grants COMPENSATE. -/
theorem witness_GrantTakesHighestClassOldestOrStarved : busIdle (waiting 7) = true ∧ (waiting 7).bm.cond = .ready
    ∧ (∃ x ∈ (waiting 7).bm.queue, eligible (waiting 7) x = true)
    ∧ (onBusTransfer (grantDecision (waiting 7))).map Transfer.cls = some .manual
    ∧ (onBusTransfer (grantDecision (waiting 8))).map Transfer.cls = some .compensate
    ∧ busIdle (grantDecision (waiting 8)) = false := by decide +kernel

/-- A profile's write on the bus, named by the on-bus reference. -/
def writing : State := { onBus (busTransfer (.profile 3) .write) (slot0 .inService) with
  ce := { Ce.reset with shadows := Ce.reset.shadows.set (3 : ProfileId) ⟨some 5, none, none, some ⟨0, 5⟩, false, false⟩ } }

theorem witness_ReferenceFollowsItsTransfer :
    (profileChanged none none).ce.shadows[(3 : ProfileId)].waiting = some ⟨(busTransfer (.profile 3) .write).id, 5⟩
    ∧ OneOnBus writing ∧ onBusTransfer writing = some (busTransfer (.profile 3) .write) ∧ writing.bm.recovering = false
    ∧ (⟨none, some 5, none, none, false, false⟩ : Shadow).reference = some 5
    ∧ writing.ce.shadows[(3 : ProfileId)].onBus = some ⟨0, 5⟩ ∧ writing.ce.shadows[(3 : ProfileId)].waiting = none
    ∧ (∀ n, n < 3 → [true, true, true][n]? = some true)
    ∧ (after (.transactionEnd (.complete [true, true, true] []) false) writing).ce.shadows[(3 : ProfileId)].written = some 5 := by
  unfold OneOnBus; decide +kernel

/-- `writing` at the last attempt of the retry limit 2. -/
def lastAttempt (n : Nat) : State := { writing with bm := { writing.bm with queue := writing.bm.queue.map (fun t => { t with attempts := n }) } }

/-- A refusal at the attempt that the limit still retries, and at the one beyond it. -/
theorem witness_FailedAttemptIsRetriedThenFails : OneOnBus writing ∧ activeRecord writing 0 = some record0
    ∧ (busTransfer (.profile 3) .write).automatic = true
    ∧ transactionOutcome (busTransfer (.profile 3) .write) (.complete [true, false] []) = .nackData
    ∧ (busTransfer (.profile 3) .write).attempts + 1 ≤ record0.retryLimit
    ∧ ((after (.transactionEnd (.complete [true, false] []) false) writing).bm.queue.map Transfer.attempts) = [1]
    ∧ OneOnBus (lastAttempt 2) ∧ record0.retryLimit < 2 + 1
    ∧ ((after (.transactionEnd (.complete [true, false] []) false) (lastAttempt 1)).bm.queue.map Transfer.attempts) = [2]
    ∧ (after (.transactionEnd (.complete [true, false] []) false) (lastAttempt 2)).bm.queue = []
    ∧ (after (.transactionEnd (.complete [true, false] []) false) (lastAttempt 2)).msgs.tmReports = [⟨0, .profile 3, .nackData⟩]
    ∧ (after (.transactionEnd (.clockHeld 2 [true] []) false) (lastAttempt 2)).bm.owedStop = true := by
  unfold OneOnBus; decide +kernel

/-- Slot 0 in PROBING awaits its identity read on the bus. -/
def probing : State := onBus (busTransfer .identity .read) (withCtx 0 (fun c => { c with awaited := some 0, probe := some ⟨0, 0xA5, 0xFF⟩ }) (slot0 .probing))

theorem witness_IdentityReadDecidesProbe : OneOnBus probing ∧ QueueBounded probing
    ∧ onBusTransfer probing = some (busTransfer .identity .read)
    ∧ activeRecord probing 0 = some record0 ∧ probing.ctxs[(0 : Slot)].probe = some ⟨0, 0xA5, 0xFF⟩
    ∧ probing.ctxs[(0 : Slot)].state = .probing ∧ probing.msgs.ceInvalidate[(0 : Slot)] = false
    ∧ probing.ctxs[(0 : Slot)].awaited = some 0 ∧ probing.ctxs[(0 : Slot)].staleHold = none
    ∧ (∀ n, n < 3 → [true, true, true][n]? = some true)
    ∧ (after (.transactionEnd (.complete [true, true, true] [0xA5]) false) probing).ctxs[(0 : Slot)].state = .loading
    ∧ (after (.transactionEnd (.complete [true, true, true] [0xA4]) false) probing).ctxs[(0 : Slot)].state = .mismatch := by
  unfold OneOnBus QueueBounded; decide +kernel

/-- Slot 0 in LOADING at a step with a transfer of the load on the bus, profile 3 counted, with a marker to follow. -/
def loadingAt (step : LoadStep) (o : Origin) : State := { onBus { busTransfer o .write with delay := 7 } (withCtx 0 (fun c => { c with
    awaited := some 0, cursor := step, profileList := [3], markerStep := true }) (withProfile 3 profile0 (slot0 .loading))) with
  ce := { Ce.reset with shadows := Ce.reset.shadows.set (3 : ProfileId) ⟨some 5, none, none, some ⟨0, 5⟩, false, false⟩ }
  msgs := { Msgs.reset with ceProfile := [⟨3, some profile0, none⟩] } }

/-- The load goes IMAGE, PROFILE, MARKER, and completes; a withdrawn PROFILE step on the bus becomes the stale hold. -/
theorem witness_LoadStepsFollowTheCount : OneOnBus (loadingAt (.image 0) (.image 0)) ∧ QueueBounded (loadingAt (.image 0) (.image 0))
    ∧ onBusTransfer (loadingAt (.image 0) (.image 0)) = some { busTransfer (.image 0) .write with delay := 7 }
    ∧ activeRecord (loadingAt (.image 0) (.image 0)) 0 = some record0 ∧ (loadingAt (.image 0) (.image 0)).ctxs[(0 : Slot)].awaited = some 0
    ∧ (∀ n, n < 3 → [true, true, true][n]? = some true)
    ∧ ((after (.transactionEnd (.complete [true, true, true] []) false) (loadingAt (.image 0) (.image 0))).bm.queue.map Transfer.origin)
      = [.loadProfile 3]
    ∧ (after (.transactionEnd (.complete [true, true, true] []) false) (loadingAt (.image 0) (.image 0))).bm.quiet[(0 : Slot)] = some 7
    ∧ ((after (.transactionEnd (.complete [true, true, true] []) false) (loadingAt (.profile 0) (.loadProfile 3))).bm.queue.map Transfer.origin)
      = [.loadMarker]
    ∧ (after (.transactionEnd (.complete [true, true, true] []) false) (loadingAt .marker .loadMarker)).ctxs[(0 : Slot)].state = .inService
    ∧ (after (.transactionEnd (.complete [true, true, true] []) false) (loadingAt .marker .loadMarker)).ctxs[(0 : Slot)].checkTimer = some 1000
    ∧ (3 : ProfileId) ∉ (loadingAt (.profile 0) (.loadProfile 3)).ctxs[(0 : Slot)].profileList.drop 1
    ∧ (loadingAt (.profile 0) (.loadProfile 3)).msgs.ceProfile = ⟨3, some profile0, none⟩ :: []
    ∧ (after (.profileActivation false) (loadingAt (.profile 0) (.loadProfile 3))).ctxs[(0 : Slot)].staleHold = some 0
    ∧ (∀ y ∈ (loadingAt (.profile 0) (.loadProfile 3)).bm.queue, waitingRawWrite 0x48 y = false)
    ∧ (after (.profileActivation false) (withCtx 0 (fun c => { c with markerStep := false }) (loadingAt (.profile 0) (.loadProfile 3)))).ctxs[(0 : Slot)].state
      = .inService
    ∧ (after (.profileActivation false) (withCtx 0 (fun c => { c with markerStep := false }) (loadingAt (.profile 0) (.loadProfile 3)))).ctxs[(0 : Slot)].staleHold
      = some 0 := by
  unfold OneOnBus QueueBounded; decide +kernel

/-- Slot 0 IN_SERVICE awaits a check read on the bus; the record has a marker 5Ah and a status check of mask 01h. -/
def checking (step : CheckStep) (o : Origin) : State := onBus (busTransfer o .read)
  (withCtx 0 (fun c => { c with awaited := some 0, checkStep := step }) (withRecord 0 { record0 with status := some ⟨0x11, 1⟩ } (slot0 .inService)))

/-- R95, R96. -/
theorem witness_CheckReadsDecideOnMarkerAndStatus : OneOnBus (checking .marker .checkMarker) ∧ QueueBounded (checking .marker .checkMarker)
    ∧ onBusTransfer (checking .marker .checkMarker) = some (busTransfer .checkMarker .read)
    ∧ (checking .marker .checkMarker).ctxs[(0 : Slot)].state = .inService
    ∧ (checking .marker .checkMarker).ctxs[(0 : Slot)].awaited = some (busTransfer .checkMarker .read).id
    ∧ (∀ n, n < 3 → [true, true, true][n]? = some true)
    ∧ (after (.transactionEnd (.complete [true, true, true] [0x5A]) false) (checking .marker .checkMarker)).ctxs[(0 : Slot)].checkStep = .status
    ∧ (after (.transactionEnd (.complete [true, true, true] [0x5B]) false) (checking .marker .checkMarker)).ctxs[(0 : Slot)].losses = 1
    ∧ (after (.transactionEnd (.complete [true, true, true] [0xFE]) false) (checking .status .checkStatus)).ctxs[(0 : Slot)].checkTimer = some 1000
    ∧ (after (.transactionEnd (.complete [true, true, true] [0x03]) false) (checking .status .checkStatus)).ctxs[(0 : Slot)].detail
      = .byteRead 0x03 := by
  unfold OneOnBus QueueBounded; decide +kernel

/-- Slot 0 in PROBING waits for the stale transfer on the bus. -/
def holding : State := withCtx 0 (fun c => { c with staleHold := some 0 }) (onBus { busTransfer .checkMarker .read with stale := true } (slot0 .probing))

/-- R69: the end of the stale transfer, here a refusal, lets the identity read be placed. -/
theorem witness_StaleOutcomesReleaseTheHold : OneOnBus holding ∧ QueueBounded holding
    ∧ onBusTransfer holding = some { busTransfer .checkMarker .read with stale := true }
    ∧ transactionOutcome (busTransfer .checkMarker .read) (.complete [false] []) = .nackAddress
    ∧ holding.ctxs[(0 : Slot)].staleHold = some 0 ∧ holding.ctxs[(0 : Slot)].awaited = none ∧ activeRecord holding 0 = some record0
    ∧ (after (.transactionEnd (.complete [false] []) false) holding).bm.queue.map Transfer.origin = [.identity]
    ∧ ({ holding with bm := { holding.bm with recovering := true } } : State).bm.cond = .ready
    ∧ (after (.recoverySequenceEnd (.sdaHighAfter 0) false) { holding with bm := { holding.bm with recovering := true } }).bm.queue.map Transfer.id
      = [1] := by
  unfold OneOnBus QueueBounded; decide +kernel

/-- A manual read on the bus with its pending entry. -/
def manualOnBus : State := { onBus { busTransfer (.request 9) .read with slot := none } base with
  hl := { Hl.reset with pend := [⟨9, 0x20, 0, .transfer 0, none⟩] } }

theorem witness_ManualTransferEndAnswersRequest : OneOnBus manualOnBus ∧ TagsDiffer manualOnBus ∧ EndedWaitForRoom manualOnBus
    ∧ onBusTransfer manualOnBus = some { busTransfer (.request 9) .read with slot := none }
    ∧ (⟨9, 0x20, 0, .transfer 0, none⟩ : PendingEntry) ∈ manualOnBus.hl.pend
    ∧ (∀ e ∈ manualOnBus.hl.pend, e.op = .transfer 0 → e = ⟨9, 0x20, 0, .transfer 0, none⟩)
    ∧ manualOnBus.hl.replies.length < 4
    ∧ lastReply (after (.transactionEnd (.complete [true, true, true] [0x77]) false) manualOnBus)
      = [0x20, 0x00, 0xFF, 0x48, 0x20, 0x01, 0x77]
    ∧ lastReply (after (.transactionEnd (.complete [false] []) false) manualOnBus) = [0x20, 0x0D, 0xFF, 0x48, 0x20, 0x01] := by
  unfold OneOnBus TagsDiffer EndedWaitForRoom; decide +kernel

/-- A recovery in progress on a bus in a condition. -/
def recovering (c : BusCond) : State := { manualOnBus with
  bm := { manualOnBus.bm with recovering := true, cond := c, queue := [busTransfer .identity .read] } }

/-- A bus in FAULT with its recovery timer running. -/
def faulted : State := { base with bm := { Bm.reset with cond := .fault, attempts := 1, recoveryTimer := some 1000 } }

theorem witness_RecoveryReleasesRetriesOrFaults : onBusTransfer manualOnBus ≠ none ∧ manualOnBus.bm.recovering = false
    ∧ faulted.bm.cond = .fault ∧ faulted.bm.recoveryTimer = some 1000 ∧ faulted.bm.recovering = false
    ∧ (recovering .fault).bm.cond = .fault ∧ (recovering .fault).bm.recovering = true
    ∧ (after .recoveryTimerExpiry faulted).bm.attempts = 2
    ∧ (after (.transactionEnd (.lineStuck true) false) manualOnBus).bm.wire = [.startCond, .sent 0x90 true, .sent 0x20 true]
    ∧ OneOnBus (recovering .ready) ∧ (recovering .ready).bm.recovering = true
    ∧ (recovering .ready).bm.cond = .ready ∧ onBusTransfer (recovering .ready) = some (busTransfer .identity .read)
    ∧ (busTransfer .identity .read).stale = false ∧ (busTransfer .identity .read).origin = .identity
    ∧ (after (.recoverySequenceEnd .stillLow false) (recovering .ready)).bm.cond = .fault
    ∧ (after (.recoverySequenceEnd (.sdaHighAfter 8) false) (recovering .fault)).bm.cond = .ready
    ∧ [3000, 3999].map (fun t => (after (.recoverySequenceEnd (.sdaHighAfter 8) false)
        { recovering .fault with now := t, bm := { (recovering .fault).bm with faultSince := some 1000 } }).msgs.notices.map Notice.content)
      = [[.busReady 0 2], [.busReady 0 2]] := by
  unfold OneOnBus; decide +kernel

/-- A pass's write of profile 3 met the stuck bus; a newer one waits behind it, or none does. -/
def stuckWrite (newer : Bool) : State := { writing with
  ce := { Ce.reset with shadows := Ce.reset.shadows.set (3 : ProfileId) ⟨some 5, none, if newer then some ⟨1, 6⟩ else none, some ⟨0, 5⟩, false, false⟩ }
  bm := { writing.bm with
    queue := if newer then writing.bm.queue ++ [{ busTransfer (.profile 3) .write with id := 1, age := 1, onBus := false }] else writing.bm.queue
    nextId := 2
    recovering := true } }

/-- R51 after a released stuck bus and at the entry into FAULT (log 41): the waiting write stands in the place of the
one that returns; without one the transfer returns with its reference. The same for a latch. -/
theorem witness_StuckWriteReturnsOrGivesWay : OneOnBus (stuckWrite true) ∧ OneOnBus (stuckWrite false)
    ∧ onBusTransfer (stuckWrite true) = some (busTransfer (.profile 3) .write) ∧ (stuckWrite true).bm.cond = .ready
    ∧ (after (.recoverySequenceEnd .stillLow false) (stuckWrite true)).bm.queue.map Transfer.id = [1]
    ∧ (after (.recoverySequenceEnd .stillLow false) (stuckWrite true)).ce.shadows[(3 : ProfileId)].waiting = some ⟨1, 6⟩
    ∧ (after (.recoverySequenceEnd .stillLow false) (stuckWrite false)).ce.shadows[(3 : ProfileId)].waiting = some ⟨0, 5⟩
    ∧ (after (.recoverySequenceEnd (.sdaHighAfter 0) false) (stuckWrite true)).ce.shadows[(3 : ProfileId)].onBus = some ⟨1, 6⟩
    ∧ (after (.recoverySequenceEnd .stillLow false)
        { latching ⟨false, none, some 0⟩ [latchTransfer true] with msgs := Msgs.reset }).ce.latches[(0 : Slot)] = ⟨false, some 0, none⟩ := by
  unfold OneOnBus; decide +kernel

/-- A load whose last step, of a profile no longer active, waits for the stale read that met the stuck bus; a raw write
to the slot's address 48h and one to 49h wait. -/
def stuckStale : State :=
  let s := withCtx 0 (fun c => { c with state := .loading, cursor := .profile 0, profileList := [9], staleHold := some 0 })
    (onBus { busTransfer .checkMarker .read with stale := true } (slot0 .loading))
  { s with
    hl := { Hl.reset with pend := [⟨9, 0x21, 0, .transfer 1, none⟩, ⟨10, 0x21, 0, .transfer 2, none⟩] }
    bm := { s.bm with
      queue := s.bm.queue ++ [{ busTransfer (.request 9) .write with id := 1, age := 1, slot := none, onBus := false },
        { busTransfer (.request 10) .write with id := 2, age := 2, slot := none, addr := 0x49, onBus := false }]
      nextId := 3
      recovering := true } }

/-- R120, R121: the raw write purged as the load completes is CANCELLED, and the notice counts the other one alone. -/
theorem witness_StuckStaleTransferCompletesLoad : OneOnBus stuckStale
    ∧ onBusTransfer stuckStale = some { busTransfer .checkMarker .read with stale := true } ∧ stuckStale.bm.cond = .ready
    ∧ activeRecord stuckStale 0 = some record0
    ∧ (stuckStale.bm.queue.filter (waitingRawWrite record0.addr)).length = 1
    ∧ (after (.recoverySequenceEnd .stillLow false) stuckStale).ctxs[(0 : Slot)].state = .inService
    ∧ (after (.recoverySequenceEnd .stillLow false) stuckStale).bm.queue = []
    ∧ (after (.recoverySequenceEnd .stillLow false) stuckStale).msgs.notices.map Notice.content
      = [.target 0 .loading .inService .loaded .absent 0x48 0 1 0 0, .busFault 1 .check (some 0) 0x48 1]
    ∧ (after (.recoverySequenceEnd .stillLow false) stuckStale).hl.cache.map (fun e => e.payload.take 2)
      = [[0x21, 0x0C], [0x21, 0x0D]] := by
  unfold OneOnBus; decide +kernel

/-- Every scheduled happening of the statement stands. -/
def scheduled : State := { base with
  bm := { Bm.reset with quiet := Bm.reset.quiet.set (5 : Slot) (some 50), owedStop := true }
  hl := { Hl.reset with rx := .length, gap := some 5 }
  cs := { base.cs with session := .opened, buffer := some ⟨.target 0, true, false, .target record0⟩, editTimer := some 30000 }
  msgs := { Msgs.reset with ceMu := [.supplyChange .low], bmSupply := [.low, .normal] } }

theorem witness_ScheduledHappeningsChangeWhatTheyName : scheduled.mu.nextStart = some 100 ∧ scheduled.mu.cycle = none
    ∧ scheduled.msgs.ceMu = .supplyChange .low :: [] ∧ scheduled.msgs.bmSupply = .low :: [.normal]
    ∧ (after .supplyChangeAtBm scheduled).msgs.bmSupply = .normal :: [] ∧ scheduled.bm.quiet[(5 : Slot)] = some 50
    ∧ scheduled.bm.owedStop = true ∧ base.bm.owedStop = false ∧ scheduled.hl.gap = some 5
    ∧ scheduled.cs.editTimer = some 30000 ∧ scheduled.cs.buffer = some ⟨.target 0, true, false, .target record0⟩
    ∧ scheduled.cs.session = .opened := by decide +kernel

/-- A WRITE refused at its data, a READ of two bytes, and a READ refused at each of its three bytes. -/
theorem witness_TransactionsOnTheWire : (busTransfer (.profile 3) .write).dir = .write ∧ (busTransfer .identity .read).dir = .read
    ∧ (∀ n, n < 3 → [true, true, true][n]? = some true)
    ∧ transactionWire (busTransfer (.profile 3) .write) (.complete [true, true, false] [])
      = [.startCond, .sent 0x90 true, .sent 0x20 true, .sent 5 false, .stopCond]
    ∧ transactionWire { busTransfer .identity .read with readLen := 2 } (.complete [true, true, true] [7, 8])
      = [.startCond, .sent 0x90 true, .sent 0x20 true, .startCond, .sent 0x91 true, .received 7 true, .received 8 false, .stopCond]
    ∧ [[false], [true, false], [true, true, false]].map (fun a => transactionOutcome (busTransfer .identity .read) (.complete a []))
      = [.nackAddress, .nackData, .nackAddress]
    ∧ transactionWire (busTransfer .identity .read) (.clockHeld 2 [true] []) = [.startCond, .sent 0x90 true] := by decide

/-! ### Witnesses: the store -/

/-- A commit in progress with its EDIT_COMMIT pending. -/
def programming : State := { committing 0 with hl := { Hl.reset with pend := [⟨9, 0x37, 0, .commit, none⟩] } }

/-- As `programming`, with a manual request pending beside it. -/
def besideManual : State := { programming with hl := { Hl.reset with
  pend := [⟨8, 0x20, 0, .transfer 0, none⟩, ⟨9, 0x37, 0, .commit, none⟩] } }

theorem witness_VerifiedCommitActivatesCopy : programming.cs.commit = some ⟨.target 0, .a, 1, 0, 9, true⟩
    ∧ programming.cs.buffer = some ⟨.target 0, true, false, .target record0⟩
    ∧ (⟨.target 0, true, false, .target record0⟩ : EditBuffer).fits = true
    ∧ programming.hl.pend = [⟨9, 0x37, 0, .commit, none⟩] ∧ programming.hl.replies.length < 4
    ∧ besideManual.hl.pend.map PendingEntry.tag = [8, 9]
    ∧ (after (.commitEnd true) besideManual).hl.pend.map PendingEntry.tag = [8]
    ∧ ((after (.commitEnd false) { besideManual with hl := { besideManual.hl with tx := some ⟨[0], false⟩, replies := List.replicate 4 ⟨1, [1, 0], false⟩ } }).hl.pend.map
        (fun e => e.ended.isSome)) = [false, true]
    ∧ lastReply (after (.commitEnd true) programming) = [0x37, 0x00, 0x01, 0x00, 0x00, 0x00, 0x01, 0x00] := by decide +kernel

/-- The first commit of SETTINGS in progress. -/
def firstSettings : State := { programming with cs := { programming.cs with
  buffer := some ⟨.settings, true, false, .settings factorySettings⟩
  commit := some ⟨.settings, .a, 1, 0, 9, true⟩ } }

theorem witness_FailedCommitKeepsActiveCopy : programming.cs.commit = some ⟨.target 0, .a, 1, 0, 9, true⟩
    ∧ programming.cs.buffer = some ⟨.target 0, true, false, .target record0⟩
    ∧ lastReply (after (.commitEnd false) programming) = [0x37, 0x09, 0x01, 0x00, 0x00, 0x00, 0x01]
    ∧ firstSettings.cs.commit = some ⟨.settings, .a, 1, 0, 9, true⟩ ∧ firstSettings.cs.dir.settings.active = none
    ∧ (after (.commitEnd false) firstSettings).cs.inEffect = .factoryDamaged := by decide +kernel

/-- An edit session on an object. -/
def editing0 (obj : ObjId) (c : BufferContent) : State := { base with cs := { base.cs with
  session := .opened
  buffer := some ⟨obj, true, false, c⟩
  editTimer := some 30000 } }

theorem witness_EditSessionOpensAndCloses : Asked (asked [0x30, 3, 63] base) ⟨7, [0x30, 3, 63]⟩ [] ∧ base.oc.part ≠ .start
    ∧ base.cs.session = .closed ∧ [3, 63] = [objKind (.profile 63), objIdByte (.profile 63)]
    ∧ lastReply (after .editOpen (asked [0x30, 3, 63] base)) = [0x30, 0x00, 3, 63, 1, 0, 0, 0]
    ∧ lastReply (after .editOpen (asked [0x30, 3, 64] base)) = [0x30, 0x02]
    ∧ lastReply (after .editOpen (asked [0x30, 0, 0] scheduled)) = [0x30, 0x03]
    ∧ lastReply (after .editAbandon (asked [0x38] scheduled)) = [0x38, 0x00] :=
  ⟨asked_of _ _ rfl rfl rfl, by decide +kernel⟩

/-- The reply to one EDIT_FIELD on a buffer. -/
def fieldReply (args : List Byte) (s : State) : List Byte := lastReply (after .editField (asked (0x31 :: args) s))

def targetOpen : State := editing0 (.target 0) (.target record0)
def profileOpen : State := editing0 (.profile 3) (defaultContent (.profile 3))
def settingsOpen : State := editing0 .settings (.settings factorySettings)

/-- R149, R195: each kind set, cleared and refused; at the first and last field number, and past it. -/
theorem witness_EditFieldSetsOrClearsOneField : Asked (asked [0x31, 1, 1, 0x48] targetOpen) ⟨7, [0x31, 1, 1, 0x48]⟩ []
    ∧ [[1, 1, 0x48], [4, 1, 0x10, 0x5A], [4, 0], [8, 1, 7], [9, 1, 7], [1, 0], [2, 1, 2], [1, 1], [0, 0], [1, 2, 0], [1], []].map
        (fun a => fieldReply a targetOpen)
      = [[0x31, 0, 1, 0x48], [0x31, 0, 4, 1, 0x10, 0x5A], [0x31, 0, 4, 0, 0, 0], [0x31, 0, 8, 7], [0x31, 2], [0x31, 2], [0x31, 2],
        [0x31, 2], [0x31, 2], [0x31, 2], [0x31, 2], [0x31, 2]]
    ∧ [[8, 1, 0xFF, 0xFF], [0x0B, 1, 1, 2], [0x0B, 0], [0x0C, 1, 1], [0x0C, 1, 2], [0x0D, 1, 0]].map (fun a => fieldReply a profileOpen)
      = [[0x31, 0, 8, 0xFF, 0xFF], [0x31, 0, 0x0B, 1, 1, 2], [0x31, 0, 0x0B, 0, 0, 0], [0x31, 0, 0x0C, 1], [0x31, 2], [0x31, 2]]
    ∧ [[5, 1, 0xFD, 0x80], [0x0D, 1, 2], [0x0D, 1, 0], [0x0D, 1, 3], [0x0E, 1, 1]].map (fun a => fieldReply a settingsOpen)
      = [[0x31, 0, 5, 0xFD, 0x80], [0x31, 0, 0x0D, 2], [0x31, 2], [0x31, 2], [0x31, 2]]
    ∧ fieldReply [1, 1, 0] (editing0 (.image 0) (defaultContent (.image 0))) = [0x31, 2]
    ∧ base.cs.session = .closed ∧ base.cs.buffer = none
    ∧ [[1, 0], [1], [], [1, 2]].map (fun a => fieldReply a base) = [[0x31, 7], [0x31, 7], [0x31, 7], [0x31, 2]]
    ∧ fieldReply [1] startDue = [0x31, 5, 0]
    ∧ [[4, 0], [9, 0], [1, 1]].map (fun a => fieldReply a (committing 0)) = [[0x31, 3], [0x31, 3], [0x31, 2]] :=
  ⟨asked_of _ _ rfl rfl rfl, by decide +kernel⟩

/-- R150 at the capacity: position 23 takes a point, position 24 is refused. -/
theorem witness_EditListsCountRemovalAndShow :
    Asked (asked [0x32, 23, 1, 0, 1, 0, 2] (editing0 (.profile 3) (defaultContent (.profile 3)))) ⟨7, [0x32, 23, 1, 0, 1, 0, 2]⟩ []
    ∧ [23, 1, 0, 1, 0, 2] = (23 : Byte) :: byteOf 1 :: [(⟨1, 2⟩ : Point)].flatMap pointBytes
    ∧ lastReply (after .editPoints (asked [0x32, 23, 1, 0, 1, 0, 2] (editing0 (.profile 3) (defaultContent (.profile 3)))))
      = [0x32, 0, 0, 23, 1]
    ∧ lastReply (after .editPoints (asked [0x32, 24, 1, 0, 1, 0, 2] (editing0 (.profile 3) (defaultContent (.profile 3))))) = [0x32, 2]
    ∧ lastReply (after .editEntries (asked [0x33, 31, 1, 9, 0, 0, 1, 0] (editing0 (.image 0) (defaultContent (.image 0)))))
      = [0x33, 0, 0, 31, 1]
    ∧ lastReply (after .editEntries (asked [0x33, 32, 1, 9, 0, 0, 1, 0] (editing0 (.image 0) (defaultContent (.image 0))))) = [0x33, 2]
    ∧ lastReply (after .editCount (asked [0x34, 255] (editing0 (.image 0) (defaultContent (.image 0))))) = [0x34, 0, 255, 0, 0]
    ∧ lastReply (after .editCount (asked [0x34, 1] (editing0 (.target 0) (.target record0)))) = [0x34, 2]
    ∧ lastReply (after .editRemove (asked [0x35] (editing0 (.target 0) (.target record0)))) = [0x35, 0]
    ∧ lastReply (after .editRemove (asked [0x35] (editing0 .settings (.settings factorySettings)))) = [0x35, 2]
    ∧ lastReply (after .editShow (asked [0x36] (editing0 (.target 0) (.target defaultRecord))))
      = [0x36, 0, 1, 1, 0, 1, 0] ++ (List.replicate 19 0 ++ [0, 0, 0x75, 0x30, 0, 0, 0])
    ∧ (lastReply (after .editShow (asked [0x36] profileOpen))).length = 32
    ∧ lastReply (after .editShow (asked [0x36] (committing 0))) = [0x36, 0, 2, 1, 0, 1, 0] ++ (recordBytes record0 ++ [0, 0, 0, 0, 0, 0, 0, 1])
    ∧ lastReply (after .editCount (asked [0x34, 1] (committing 0))) = [0x34, 3]
    ∧ lastReply (after .editPoints (asked [0x32, 0, 25] profileOpen)) = [0x32, 2]
    ∧ lastReply (after .editShow (asked [0x36] base)) = [0x36, 7] :=
  ⟨asked_of _ _ rfl rfl rfl, by decide +kernel⟩

/-- A removal of TARGET 0. -/
def removing (s : State) : State := { s with cs := { s.cs with
  session := .opened
  buffer := some ⟨.target 0, false, true, .target record0⟩
  editTimer := some 30000 } }

theorem witness_EditCommitValidatesThenPrograms :
    Asked (asked [0x37] (editing0 (.target 0) (.target record0))) ⟨7, [0x37]⟩ []
    ∧ validate (editing0 (.target 0) (.target record0)) ⟨.target 0, true, false, .target record0⟩ = none
    ∧ (after .editCommit (asked [0x37] (editing0 (.target 0) (.target record0)))).cs.commit = some ⟨.target 0, .a, 1, 0, 9, true⟩
    ∧ (after .editCommit (asked [0x37] (removing (slot0 .disabled)))).cs.commit = some ⟨.target 0, .b, 2, 0, 9, true⟩
    ∧ lastReply (after .editCommit (asked [0x37] (removing base))) = [0x37, 0, 0, 0, 0]
    ∧ lastReply (after .editCommit (asked [0x37] (editing0 (.target 0) (.target defaultRecord)))) = [0x37, 8, 7, 0, 0]
    ∧ lastReply (after .editCommit (asked [0x37] base)) = [0x37, 7]
    ∧ lastReply (after .editCommit (asked [0x37] (committing 0))) = [0x37, 3] :=
  ⟨asked_of _ _ rfl rfl rfl, by decide +kernel⟩

theorem witness_ValidationPassesWhatTheChecksAsk :
    validate base ⟨.profile 3, true, false, .profile profile0.header 2 profile0.points⟩ = none
    ∧ validate base ⟨.profile 3, true, false, .profile profile0.header 1 profile0.points⟩ = some ⟨0x02, 1⟩
    ∧ validate base ⟨.target 0, true, false, .target { record0 with addr := 0x77 }⟩ = none
    ∧ validate base ⟨.target 0, true, false, .target { record0 with addr := 0x78 }⟩ = some ⟨0x07, 0x78⟩
    ∧ validate (slot0 .disabled) ⟨.target 1, true, false, .target record0⟩ = some ⟨0x08, 0⟩
    ∧ validate (passing false) ⟨.profile 4, true, false, .profile profile0.header 2 profile0.points⟩ = some ⟨0x06, 3⟩
    ∧ [[⟨5, 0⟩, ⟨4, 0⟩], [⟨5, 0⟩, ⟨5, 0⟩], [⟨4, 0⟩, ⟨5, 256⟩], [⟨4, 0⟩, ⟨5, 255⟩]].map (fun ps =>
        validate base ⟨.profile 3, true, false, .profile profile0.header 2 ps⟩)
      = [some ⟨0x03, 1⟩, some ⟨0x03, 1⟩, some ⟨0x04, 1⟩, none]
    ∧ [{ profile0.header with lower := 256 }, { profile0.header with upper := 256 }, { profile0.header with start := some 256 },
        { profile0.header with stepLimit := 256 }, { profile0.header with stepLimit := 255 }].map (fun h =>
        validate base ⟨.profile 3, true, false, .profile h 2 profile0.points⟩)
      = [some ⟨0x04, 0x08⟩, some ⟨0x04, 0x09⟩, some ⟨0x04, 0x0B⟩, some ⟨0x04, 0x0A⟩, none]
    ∧ [{ record0 with checkPeriod := 601 }, { record0 with checkPeriod := 600 }, { record0 with retryLimit := 8 }].map (fun r =>
        validate base ⟨.target 0, true, false, .target r⟩) = [some ⟨0x01, 0x07⟩, none, some ⟨0x01, 0x08⟩]
    ∧ [{ factorySettings with k := 5 }, { factorySettings with h := 65 }, { factorySettings with holdTime := 61 },
        { factorySettings with recoveryLimit := 16 }, { factorySettings with deratePin := 3 }].map (fun x =>
        validate base ⟨.settings, true, false, .settings x⟩)
      = [some ⟨0x01, 0x03⟩, some ⟨0x01, 0x04⟩, some ⟨0x01, 0x0A⟩, some ⟨0x01, 0x0B⟩, some ⟨0x01, 0x0C⟩]
    ∧ [32, 33].map (fun n => validate base ⟨.image 0, true, false, .image n []⟩) = [none, some ⟨0x09, 33⟩]
    ∧ validate base ⟨.image 0, true, false, .image 1 [⟨0, .byte, 256, 0⟩]⟩ = some ⟨0x04, 0⟩
    ∧ [20, 10, 1000, 1010].map (fun p => validate base ⟨.settings, true, false, .settings { factorySettings with period := p }⟩)
      = [none, some ⟨0x01, 0x01⟩, none, some ⟨0x01, 0x01⟩]
    ∧ validate base ⟨.settings, true, false, .settings { factorySettings with high := -640 }⟩ = some ⟨0x0A, 0⟩
    ∧ [5500, 5501].map (fun v => validate base ⟨.settings, true, false, .settings { factorySettings with floor := v }⟩)
      = [none, some ⟨0x0B, 0x07⟩]
    ∧ [500, 501].map (fun v => validate base ⟨.settings, true, false, .settings { factorySettings with margin := v }⟩)
      = [none, some ⟨0x0B, 0x08⟩] := by decide +kernel

/-! ### Witnesses: the line and the requests -/

theorem witness_FrameBytesReachIntake : (List.replicate 248 (0 : Byte)).length ≤ 248 ∧ base.oc.held = false ∧ base.hl.rx = .hunt
    ∧ base.hl.intake.length < 2
    ∧ (after (.characterReceived 250 false) scheduled).hl.rx = .body 250 []
    ∧ (after (.characterReceived 251 false) scheduled).hl.rx = .length
    ∧ (after (.invalidFrame 251 false) scheduled).hl.rx = .hunt
    ∧ (after (.requestFrameReceived ((frameBytes kindRequest 0x51 [0x01]).getLastD 0))
        (receive (frameBytes kindRequest 0x51 [0x01]).dropLast base)).hl.intake = [⟨0x51, [0x01]⟩] := by decide +kernel

/-- The transmitter is busy and the two CRC bytes of an ACK of number 18 have not both come. -/
def ackArriving : State := { base with
  hl := { Hl.reset with
    tx := some ⟨[0], false⟩
    rx := .check 2 [kindAck, 18] (some ((crc16 [2, kindAck, 18]).extractLsb' 8 8)) }
  nu := { Nu.reset with
    queue := [⟨.info, .busReady 1 0, 1, false, true, some 17, 0, false⟩, ⟨.warn, .busReady 1 0, 1, false, true, some 18, 0, false⟩,
      ⟨.warn, .busReady 1 0, 1, false, true, some 19, 8, false⟩]
    nextSeq := 20
    timer := some 200 } }

theorem witness_FramesAcknowledgeOrAreDiscarded : ackArriving.hl.tx.isSome = true
    ∧ crc16 [2, kindAck, 18] = (crc16 [2, kindAck, 18]).extractLsb' 8 8 ++ (crc16 [2, kindAck, 18]).extractLsb' 0 8
    ∧ ackArriving.nu.stalled = false ∧ AlertShown ackArriving
    ∧ (after (.ackReceived ((crc16 [2, kindAck, 18]).extractLsb' 0 8)) ackArriving).nu.queue.map Entry.seq = [some 19]
    ∧ (after (.ackReceived ((crc16 [2, kindAck, 18]).extractLsb' 0 8)) ackArriving).nu.timer = some 200
    ∧ (acknowledge 30 20 ackArriving.nu) = ackArriving.nu
    ∧ (after (.ackReceived ((crc16 [2, kindAck, 18]).extractLsb' 0 8)) { ackArriving with nu := { ackArriving.nu with stalled := true } }).nu.queue.map Entry.due
      = [true]
    ∧ (after (.invalidFrame 0 true) { ackArriving with nu := { ackArriving.nu with stalled := true } }).nu.stalled = true
    ∧ ackArriving.hl.rx ≠ .hunt := by unfold AlertShown; decide +kernel

/-- A busy transmitter and a notice handed over, with a queue. -/
def appending (n : Notice) (q : List Entry) : State := { base with
  hl := { Hl.reset with tx := some ⟨[0], false⟩ }
  nu := { Nu.reset with queue := q }
  msgs := { Msgs.reset with notices := [n] } }

/-- Sixteen untransmitted entries of one severity. -/
def sixteen (sv : Severity) : List Entry := (List.finRange 16).map (fun i => ⟨sv, .limit ⟨i.val, by omega⟩ 0 true ⟨true, false⟩ 0 0 0 0 0 false, 1, false, false, none, 0, false⟩)

/-- R187: merge, room, displace and drop. -/
theorem witness_NoticeMergesJoinsDisplacesOrIsDropped : (appending ⟨.warn, .busReady 1 0⟩ []).hl.tx.isSome = true
    ∧ (after .noticeAppend (appending ⟨.warn, .busReady 2 0⟩ [⟨.fault, .busFault 1 .manual none 0 0, 255, true, false, none, 0, false⟩])).nu.queue
      = [⟨.fault, .busReady 2 0, 255, true, false, none, 0, false⟩]
    ∧ (after .noticeAppend (appending ⟨.warn, .busReady 2 0⟩ (sixteen .info).tail)).nu.queue.length = 16
    ∧ (after .noticeAppend (appending ⟨.warn, .busReady 2 0⟩ (sixteen .info))).nu.queue.map Entry.lost
      = List.replicate 15 false ++ [true]
    ∧ (after .noticeAppend (appending ⟨.info, .busReady 2 0⟩ (sixteen .info))).nu.lostPending = true := by decide +kernel

/-- The transmitter ends a frame with a reply and a notice waiting. -/
def sending (fairness : Nat) : State := { appending ⟨.info, .busReady 1 0⟩ [⟨.info, .busReady 1 0, 1, false, false, none, 0, false⟩] with
  hl := { Hl.reset with tx := some ⟨[0], false⟩, replies := [⟨7, [1, 0], false⟩], fairness := fairness } }

/-- The reply queue is full and two operations have ended, the later entry first. -/
def fullReplies : State := { base with hl := { Hl.reset with
  tx := some ⟨[0], false⟩
  replies := List.replicate 4 ⟨1, [1, 0], false⟩
  pend := [⟨21, 0x20, 0, .transfer 0, some (5, [0x20, 1])⟩, ⟨22, 0x20, 0, .transfer 1, some (4, [0x20, 2])⟩] } }

theorem witness_TransmitterAlternatesAndRetransmits : (sending 3).hl.tx = some ⟨[0], false⟩ ∧ noticeEligible (sending 3).nu = true
    ∧ (∀ x ∈ (sending 4).nu.queue, x.due = false) ∧ outstandingCount (sending 4).nu.queue < 4 ∧ AlertShown (sending 4)
    ∧ (after (.frameSent 0) (sending 3)).hl.fairness = 4 ∧ (after (.frameSent 0) (sending 4)).hl.fairness = 0
    ∧ ackArriving.nu.timer = some 200
    ∧ fullReplies.hl.tx = some ⟨[0], false⟩ ∧ (fullReplies.hl.pend.map PendingEntry.ended) = [some (5, [0x20, 1]), some (4, [0x20, 2])]
    ∧ (after (.frameSent 0) fullReplies).hl.replies.getLast? = some ⟨22, [0x20, 2], false⟩
    ∧ (after (.frameSent 0) fullReplies).hl.pend.map PendingEntry.tag = [21]
    ∧ (after (.frameSent 0) { ackArriving with nu := { ackArriving.nu with queue := ackArriving.nu.queue.map (fun e => { e with due := e.seq != some 17 }) } }).nu.queue.map Entry.due
      = [false, false, true]
    ∧ (after .retransmitTimerExpiry ackArriving).nu.queue.map Entry.retrans = [1, 1, 9]
    ∧ (retransmitExpiry { ackArriving.nu with queue := ackArriving.nu.queue.drop 2 }).stalled = true := by
  unfold AlertShown; decide +kernel

/-- The reply to a request. -/
def answer (c : Instr) (payload : List Byte) (s : State) : List Byte := lastReply (after c (asked payload s))

/-- R165, R195, R196: WRONG_STATE in START, and BAD_ARGUMENT for what does not fit its encoding. -/
theorem witness_RefusedForStateOrEncoding : Asked (asked [0x11, 63, 0x80, 0x00] startDue) ⟨7, [0x11, 63, 0x80, 0x00]⟩ []
    ∧ startDue.oc.part = .start
    ∧ [(Instr.setTrim, [0x11, 63, 0x80, 0x00]), (.setDerate true, [0x12, 3]), (.restart, [0x15]), (.editOpen, [0x30, 3, 64]),
        (.editPoints, [0x32, 0, 1, 0, 1, 0, 2]), (.editEntries, [0x33, 31, 1, 9, 0, 0, 1, 0]), (.editCount, [0x34, 1]),
        (.editRemove, [0x35]), (.editShow, [0x36]), (.editCommit, [0x37]), (.editAbandon, [0x38])].map
        (fun x => (answer x.1 x.2 startDue).tail) = List.replicate 11 [0x05, 0x00]
    ∧ [(Instr.setTrim, [0x11, 63, 0x80]), (.setDerate true, [0x12]), (.passNow true, [0x13, 0]), (.restart, [0x15, 0]), (.editOpen, [0x30, 4, 0]),
        (.editPoints, [0x32, 0, 25]), (.editEntries, [0x33, 31, 1, 9, 2, 0, 1, 0]), (.editCount, [0x34]),
        (.editRemove, [0x35, 0]), (.editShow, [0x36, 0]), (.editCommit, [0x37, 0]), (.editAbandon, [0x38, 0])].map
        (fun x => (answer x.1 x.2 startDue).tail) = List.replicate 12 [0x02]
    ∧ answer .setMode [0x10, 4] base = [0x10, 0x02, 1, 1]
    ∧ answer (.targetAdmin false) [0x14, 8, 1] base = [0x14, 0x02, 8, 1, 0xFF, 0xFF, 0]
    ∧ answer (.targetAdmin false) [0x14, 7] base = [0x14, 0x02, 7, 0xFF, 0xFF, 0xFF, 0]
    ∧ answer (.targetAdmin false) [0x14, 7, 6] base = [0x14, 0x02, 7, 6, 0xFF, 0xFF, 0]
    ∧ [[0x20, 0xFE, 0x48, 3, 1], [0x20, 8, 0x48, 3, 1], [0x20, 7]].map (fun x => answer .manualRead x startDue)
      = [[0x20, 0x02, 0xFE, 0x48, 3], [0x20, 0x02, 8, 0x48, 3], [0x20, 0x02, 7, 0xFF, 0xFF]]
    ∧ answer .manualWrite [0x21, 0xFF, 0x48, 3, 2, 9] base = [0x21, 0x02, 0xFF, 0x48, 3]
    ∧ (after .editShow (asked [0x36, 0] { scheduled with now := 5 })).cs.editTimer = some 30005
    ∧ (after .editCommit (asked [0x37, 0] { scheduled with now := 5 })).cs.editTimer = some 30000 :=
  ⟨asked_of _ _ rfl rfl rfl, by decide +kernel⟩

theorem witness_DispatchJudgesTagThenEncodingAndPartState : requestCode .setTrim = some 0x11
    ∧ (asked [0x11] manualOnBus).hl.intake = ⟨7, [0x11]⟩ :: [] ∧ (⟨7, [0x11]⟩ : Frame).code = some 0x11
    ∧ lastReply (after .identify (asked [0x02] base)) = []
    ∧ (after .identify (asked [0x01] (after .identify (asked [0x01] base)))).hl.cache.length = 1
    ∧ (after .editCommit (asked [0x37] { programming with hl := { programming.hl with pend := [⟨7, 0x37, 0, .commit, none⟩] } })).hl.tx
      = some ⟨frameBytes kindReply 7 [0x37, 0x04], false⟩ := by decide +kernel

theorem witness_ReportsAnswerAndChangeNothing : Asked (asked [0x07, 0, 31, 32] base) ⟨7, [0x07, 0, 31, 32]⟩ []
    ∧ base.oc.part ≠ .start ∧ startDue.oc.part = .start ∧ (0x3F : Byte) ∉ requestCodes
    ∧ (∀ i : Slot, base.msgs.ceInvalidate[i] = false)
    ∧ lastReply (after .unknownRequest (asked [0x3F] base)) = [0x3F, 0x01]
    ∧ lastReply (after .unknownRequest (asked [] base)) = [0x00, 0x01]
    ∧ lastReply (after .getImage (asked [0x07, 0, 32, 1] base)) = [0x07, 0x02]
    ∧ base.mu.reading = some ⟨400, .ok, 400, 3300⟩ ∧ base.mu.ti = some 400 ∧ base.cs.inEffect = .factory
    ∧ (lastReply (after .getMeasurements (asked [0x03] base))).take 6 = [0x03, 0x00, 0, 0, 0x01, 0x90]
    ∧ (lastReply (after .getTarget (asked [0x04, 7] base))).length = 59
    ∧ lastReply (after .getTarget (asked [0x04, 8] base)) = [0x04, 0x02]
    ∧ (lastReply (after .getProfile (asked [0x05, 3] (passing false)))).take 13 = [0x05, 0x00, 1, 0, 0, 1, 0, 0, 0, 1, 0, 1, 0]
    ∧ (lastReply (after .getShadow (asked [0x06, 3] (passing false)))).take 7 = [0x06, 0x00, 3, 1, 1, 0, 0x20]
    ∧ lastReply (after (.getStatus true) (asked [0x02, 0] base)) = [0x02, 0x02]
    ∧ lastReply (after .getShadow (asked [0x06, 3] startDue)) = [0x06, 0x05, 0x00]
    ∧ lastReply (after .getImage (asked [0x07, 0, 31, 32] base)) = [0x07, 0x00, 0, 0, 0, 0, 0, 0, 0xFF, 0, 0, 0]
    ∧ lastReply (after .getSettings (asked [0x08] startDue)) = [0x08, 0x05, 0x00] :=
  ⟨asked_of _ _ rfl rfl rfl, by decide +kernel⟩

theorem witness_ControlRequestsTakeEffectAtDispatch : Asked (asked [0x11, 63, 0x80, 0x00] base) ⟨7, [0x11, 63, 0x80, 0x00]⟩ []
    ∧ lastReply (after .setTrim (asked [0x11, 63, 0x80, 0x00] base)) = [0x11, 0x00, 63, 0, 0, 0x80, 0x00]
    ∧ lastReply (after .setTrim (asked [0x11, 64, 0x80, 0x00] base)) = [0x11, 0x02]
    ∧ lastReply (after (.setDerate true) (asked [0x12, 0] base)) = [0x12, 0x00, 0, 0, 1]
    ∧ lastReply (after (.setDerate true) (asked [0x12, 3] base)) = [0x12, 0x02]
    ∧ lastReply (after (.passNow false) (asked [0x13] (passing false))) = [0x13, 0, 0, 1, 0x01, 0x90, 0, 1, 1, 0, 0, 0, 0, 0]
    ∧ lastReply (after .setMode (asked [0x10, 0x03] base)) = [0x10, 0x02, 1, 1]
    ∧ lastReply (after .restart (asked [0x15] programming)) = [0x15, 0x03, 1]
    ∧ (after .restart (asked [0x15] base)).oc.restart = some 7 :=
  ⟨asked_of _ _ rfl rfl rfl, by decide +kernel⟩

theorem witness_ManualRequestsAreQueuedOrRefused : Asked (asked [0x20, 0, 0, 0x20, 16] (slot0 .inService)) ⟨7, [0x20, 0, 0, 0x20, 16]⟩ []
    ∧ activeRecord (slot0 .inService) 0 = some record0 ∧ (slot0 .inService).hl.pend.length < 4
    ∧ (slot0 .inService).bm.cond = .ready ∧ (slot0 .inService).bm.queue.length < 32
    ∧ (after .manualRead (asked [0x20, 0, 0, 0x20, 16] (slot0 .inService))).bm.queue.map Transfer.addr = [0x48]
    ∧ lastReply (after .manualRead (asked [0x20, 0, 0, 0x20, 17] (slot0 .inService))) = [0x20, 0x02, 0, 0, 0x20]
    ∧ lastReply (after .manualWrite (asked [0x21, 0, 0, 0x20, 1, 9] (slot0 .inService))) = [0x21, 0x06, 0, 0, 0x20, 0, 4]
    ∧ lastReply (after .manualWrite (asked [0x21, 0xFF, 0x48, 0x20, 1, 9] (slot0 .inService))) = [0x21, 0x0A, 0xFF, 0x48, 0x20, 0, 4]
    ∧ (after .manualWrite (asked [0x21, 0xFF, 0x48, 0x20, 1, 9] (slot0 .unconfigured))).bm.queue.map Transfer.addr = [0x48]
    ∧ lastReply (after .manualRead (asked [0x20, 0xFF, 0x78, 0x20, 1] base)) = [0x20, 0x02, 0xFF, 0x78, 0x20]
    ∧ (after .manualRead (asked [0x20, 0xFF, 0x77, 0x20, 1] base)).bm.queue.map Transfer.addr = [0x77]
    ∧ lastReply (after .manualRead (asked [0x20, 0xFF, 0x48, 0x20, 1] faulted)) = [0x20, 0x0D, 0xFF, 0x48, 0x20, 5]
    ∧ lastReply (after .manualRead (asked [0x20, 0, 0, 0x20, 1] base)) = [0x20, 0x06, 0, 0, 0x20, 0, 0]
    ∧ lastReply (after .manualRead (asked [0x20, 0, 0, 0x20, 1] startDue)) = [0x20, 0x05, 0, 0, 0x20, 0] :=
  ⟨asked_of _ _ rfl rfl rfl, by decide +kernel⟩

/-! ### Witnesses: the invariants -/

theorem witness_EveryStepKeepsQueueBounds : QueueBounded writing ∧ OneOnBus writing := by
  unfold QueueBounded OneOnBus; decide +kernel

theorem witness_EveryStepKeepsLinkAndNotices : NoticesBounded (sending 3) ∧ AlertShown (sending 3) ∧ LinkBounded (sending 3)
    ∧ EndedWaitForRoom (sending 3) ∧ TagsDiffer (sending 3) ∧ CacheTagsDiffer (sending 3) ∧ ReadyShown (sending 3)
    ∧ WindowKept (sending 3) := by
  refine ⟨?_, ?_, ?_, ?_, ?_, ?_, ?_, ?_, [], (sending 3).nu.queue, ?_, ?_, ?_⟩ <;>
    (try simp only [NoticesBounded, AlertShown, LinkBounded, EndedWaitForRoom, TagsDiffer, CacheTagsDiffer, ReadyShown]) <;> decide +kernel

theorem witness_EveryStepKeepsStoreLaw : StoreLaw (editing0 (.target 0) (.target record0)) := by
  constructor
  · intro c h; cases h
  · intro h; cases h
  · intro b h; cases h; decide
  · intro h; cases h
  · intro obj n h
    cases obj <;> simp [editing0, base, Directory.entry, Cs.reset, Directory.reset, DirEntry.unknown] at h

/-- A write of profile 3 waiting under its shadow's waiting reference, slot 0 IN_SERVICE; beside it the slot's latch is
on the bus under its own reference; a removal of profile 3 is being programmed. -/
def named : State := { latching ⟨false, none, some 1⟩ [{ busTransfer (.profile 3) .write with onBus := false }, { latchTransfer true with id := 1 }] with
  ce := { Ce.reset with
    shadows := Ce.reset.shadows.set (3 : ProfileId) ⟨some 5, none, some ⟨0, 5⟩, none, false, false⟩
    latches := Ce.reset.latches.set (0 : Slot) ⟨false, none, some 1⟩ }
  msgs := Msgs.reset
  cs := { (passing false).cs with
    session := .committing
    buffer := some ⟨.profile 3, false, true, .profile profile0.header 2 profile0.points⟩
    commit := some ⟨.profile 3, .b, 2, 0, 9, true⟩ } }

theorem named_storeLaw : StoreLaw named := by
  constructor
  · intro c h; cases h; exact ⟨rfl, by decide +kernel, _, rfl, rfl⟩
  · intro _; rfl
  · intro b h; cases h; rfl
  · intro h; cases h
  · intro obj n
    cases obj <;> cases n <;> (try rename_i i; revert i) <;> decide +kernel

theorem named_slotLaw : SlotLaw named := by
  constructor
  · intro x h _ _
    simp only [named, latching, List.mem_cons, List.not_mem_nil, or_false] at h
    rcases h with rfl | rfl <;> exact ⟨0, rfl, by change named.ctxs[(0 : Slot)].state = .inService; decide +kernel⟩
  all_goals decide +kernel

theorem named_oneOnBus : OneOnBus named := by unfold OneOnBus; decide +kernel

theorem named_latchLaw : LatchLaw named := by
  intro x h o _
  simp only [named, latching, List.mem_cons, List.not_mem_nil, or_false] at h
  rcases h with rfl | rfl
  · cases o
  · exact ⟨0, rfl, by decide +kernel, by decide +kernel, by decide +kernel⟩

theorem named_writeLaw : WriteLaw named := by
  intro x h id o _
  simp only [named, latching, List.mem_cons, List.not_mem_nil, or_false] at h
  rcases h with rfl | rfl
  · cases o
    exact ⟨0, profile0, rfl, by decide +kernel, by decide +kernel, rfl, fun _ => ⟨5, by decide +kernel⟩, fun b => by cases b⟩
  · cases o

theorem witness_EveryStepKeepsSlotAndLatchLaws : OneOnBus named ∧ SlotLaw named ∧ LatchLaw named :=
  ⟨named_oneOnBus, named_slotLaw, named_latchLaw⟩

theorem witness_WritesStayNamedByTheirShadows : OneOnBus named ∧ SlotLaw named ∧ StoreLaw named ∧ WriteLaw named
    ∧ named.cs.scanning = false ∧ named.msgs.ceProfile = [] ∧ (after .noticeAppend named).msgs.ceProfile = []
    ∧ (after (.profileActivation false) (after (.commitEnd true) named)).bm.queue.map Transfer.origin = [.latch] :=
  ⟨named_oneOnBus, named_slotLaw, named_storeLaw, named_writeLaw, by decide +kernel⟩

/-! ### Witnesses at the boundaries of clauses -/

/-- A queue of some waiting transfers of one origin for slot 1. -/
def queued (n : Nat) (o : Origin) (s : State) : State := { s with bm := { s.bm with
  queue := (List.range n).map (fun k => { busTransfer o .write with id := k, age := k, slot := some 1, onBus := false })
  nextId := n
  nextAge := n
  recovering := true } }

/-- R45, R104: with 23 COMPENSATE transfers a pass enqueues the 24th, with 24 it defers. -/
theorem witness_pass_room : (after (.cycleCompleteAtCe false) (queued 23 (.profile 9) (passing false))).bm.queue.length = 24
    ∧ (after (.cycleCompleteAtCe false) (queued 24 (.profile 9) (passing false))).bm.queue.length = 24
    ∧ (after (.cycleCompleteAtCe false) (queued 24 (.profile 9) (passing false))).ce.shadows[(3 : ProfileId)].deferred = true := by
  decide +kernel

/-- R43, R44: an output equal to the reference writes nothing; a waiting write is replaced in place. -/
theorem witness_pass_replaces :
    (after (.cycleCompleteAtCe false) { profileChanged none none with msgs := (passing false).msgs }).bm.queue.map Transfer.data = [[9]]
    ∧ ({ profileChanged none none with msgs := (passing false).msgs }).ce.shadows[(3 : ProfileId)].reference = some 5 := by
  decide +kernel

/-- R104, R129: 31 transfers leave room for a manual one, 32 do not; 4 pending requests are BUSY. -/
theorem witness_manual_room :
    (after .manualRead (asked [0x20, 0xFF, 0x50, 0x20, 1] (queued 31 (.image 0) base))).bm.queue.length = 32
    ∧ lastReply (after .manualRead (asked [0x20, 0xFF, 0x50, 0x20, 1] (queued 32 (.image 0) base))) = [0x20, 0x0B, 0xFF, 0x50, 0x20]
    ∧ lastReply (after .manualRead { asked [0x20, 0xFF, 0x50, 0x20, 1] base with
        hl := { Hl.reset with
          intake := [⟨7, [0x20, 0xFF, 0x50, 0x20, 1]⟩]
          pend := (List.range 4).map (fun k => ⟨byteOf (k + 20), 0x20, 0, .transfer k, none⟩) } }) = [0x20, 0x03, 0xFF, 0x50, 0x20] := by
  decide +kernel

/-- R71: TARGET_ADMIN in START, in a state that does not take it, and where it changes nothing. -/
theorem witness_admin_refusals :
    lastReply (after (.targetAdmin false) (asked [0x14, 0, 3] startDue)) = [0x14, 0x05, 0, 3, 0, 0, 0]
    ∧ lastReply (after (.targetAdmin false) (asked [0x14, 0, 1] (slot0 .inService))) = [0x14, 0x06, 0, 1, 4, 4, 0]
    ∧ lastReply (after (.targetAdmin false) (asked [0x14, 0, 2] (slot0 .disabled))) = [0x14, 0x00, 0, 2, 1, 1, 0] := by decide +kernel

/-- R176: with 4 replies queued no request is taken, with 3 one is. -/
theorem witness_dispatch_room :
    (after .identify { asked [0x01] base with hl := { Hl.reset with
      intake := [⟨7, [0x01]⟩], tx := some ⟨[0], false⟩, replies := List.replicate 4 ⟨1, [1, 0], false⟩ } }).hl.intake = [⟨7, [0x01]⟩]
    ∧ (after .identify { asked [0x01] base with hl := { Hl.reset with
      intake := [⟨7, [0x01]⟩], tx := some ⟨[0], false⟩, replies := List.replicate 3 ⟨1, [1, 0], false⟩ } }).hl.intake = [] := by
  decide +kernel

/-- R78: RECORD_ACTIVATION of an UNCONFIGURED slot with auto-start goes through DISABLED to its probe. -/
theorem witness_record_added :
    (after (.recordActivation false) (storeAnnounced (.record 0 none (some record0)) .unconfigured)).ctxs[(0 : Slot)].state = .probing
    ∧ (after (.recordActivation false) (storeAnnounced (.record 0 none (some record0)) .unconfigured)).msgs.notices.length = 2 := by
  decide +kernel

end Sys2Proof.Tests
end

section
/-! The base value of a rising curve at Ti. Both interpolation modes find the last point at or below Ti, so the search
is settled once (`neighbours_of_split`, `baseValue_eq_curveValue`); STEP then reads the point off, and LINEAR rests on
the bounds of the rounded quotient. -/

namespace Sys2Proof.Machine

/-! ### The rounded quotient -/

theorem lt_two_mul_roundedQuotient {num den : Int} (hden : 0 < den) :
    2 * num - den < 2 * roundedQuotient num den * den := by
  have hfloor : 2 * num + den < (roundedQuotient num den + 1) * (2 * den) :=
    Int.lt_ediv_add_one_mul_self _ (by omega)
  linarith

theorem two_mul_roundedQuotient_le {num den : Int} (hden : 0 < den) :
    2 * roundedQuotient num den * den ≤ 2 * num + den := by
  have hfloor : roundedQuotient num den * (2 * den) ≤ 2 * num + den := Int.ediv_mul_le _ (by omega)
  linarith

theorem le_roundedQuotient {a num den : Int} (hden : 0 < den) (h : a * den ≤ num) :
    a ≤ roundedQuotient num den :=
  (Int.le_ediv_iff_mul_le (by omega)).2 (by linarith)

theorem roundedQuotient_le {b num den : Int} (hden : 0 < den) (h : num ≤ b * den) :
    roundedQuotient num den ≤ b :=
  Int.lt_add_one_iff.1 ((Int.ediv_lt_iff_lt_mul (by omega)).2 (by linarith))

/-- A part `x` of the way `den` covers no more than the whole difference, upward or downward. -/
theorem roundedQuotient_mul_mem {d x den : Int} (hx : 0 ≤ x) (hlt : x < den) :
    min 0 d ≤ roundedQuotient (d * x) den ∧ roundedQuotient (d * x) den ≤ max 0 d := by
  have hden : 0 < den := by omega
  rcases le_total 0 d with hd | hd
  · rw [min_eq_left hd, max_eq_right hd]
    have hnonneg : 0 * den ≤ d * x := by simpa using mul_nonneg hd hx
    exact ⟨le_roundedQuotient hden hnonneg, roundedQuotient_le hden (mul_le_mul_of_nonneg_left hlt.le hd)⟩
  · rw [min_eq_right hd, max_eq_left hd]
    have hnonpos : d * x ≤ 0 * den := by simpa using mul_nonpos_of_nonpos_of_nonneg hd hx
    exact ⟨le_roundedQuotient hden (mul_le_mul_of_nonpos_left hlt.le hd), roundedQuotient_le hden hnonpos⟩

/-! ### LINEAR interpolation between two points -/

/-- The sum of R23 is never negative, so nothing is cut where it becomes a value. -/
theorem linearBetween_toInt {lo hi : Point} {ti : Int} (hlo : lo.temp ≤ ti) (hhi : ti < hi.temp) :
    (linearBetween lo hi ti : Int) =
      lo.value + roundedQuotient (((hi.value : Int) - lo.value) * (ti - lo.temp)) (hi.temp - lo.temp) := by
  have hq := roundedQuotient_mul_mem (d := (hi.value : Int) - lo.value)
    (x := ti - lo.temp) (den := hi.temp - lo.temp) (by omega) (by omega)
  exact Int.toNat_of_nonneg (by omega)

theorem linearBetween_mem {lo hi : Point} {ti : Int} (hlo : lo.temp ≤ ti) (hhi : ti < hi.temp) :
    min lo.value hi.value ≤ linearBetween lo hi ti ∧ linearBetween lo hi ti ≤ max lo.value hi.value := by
  have hq := roundedQuotient_mul_mem (d := (hi.value : Int) - lo.value)
    (x := ti - lo.temp) (den := hi.temp - lo.temp) (by omega) (by omega)
  have hval := linearBetween_toInt hlo hhi
  omega

theorem linearBetween_at_lower {lo hi : Point} {ti : Int} (hti : ti = lo.temp) (hhi : ti < hi.temp) :
    linearBetween lo hi ti = lo.value := by
  have hden : 0 < hi.temp - lo.temp := by omega
  have hq : roundedQuotient 0 (hi.temp - lo.temp) = 0 :=
    le_antisymm (roundedQuotient_le hden (by simp)) (le_roundedQuotient hden (by simp))
  simp [linearBetween, hti, hq]

/-! ### The last point at or below Ti -/

theorem neighbours_cons_cons_of_le {ti : Int} {q : Point} (p : Point) (rest : List Point) (hq : q.temp ≤ ti) :
    neighbours ti (p :: q :: rest) = neighbours ti (q :: rest) := by
  rw [neighbours, if_pos hq]

theorem neighbours_cons_of_lt {ti : Int} {lo : Point} {after : List Point} (hlo : lo.temp ≤ ti)
    (hafter : ∀ q ∈ after, ti < q.temp) : neighbours ti (lo :: after) = some (lo, after.head?) := by
  cases after with
  | nil => simp [neighbours, hlo]
  | cons hi rest =>
    have hhi : ¬ hi.temp ≤ ti := not_le.2 (hafter hi List.mem_cons_self)
    simp [neighbours, hlo, hhi]

/-- On a rising curve the search finds the last point at or below Ti, wherever it stands. -/
theorem neighbours_of_split {ti : Int} {before after : List Point} {lo : Point}
    (hrising : Rising (before ++ lo :: after)) (hlo : lo.temp ≤ ti) (hafter : ∀ q ∈ after, ti < q.temp) :
    neighbours ti (before ++ lo :: after) = some (lo, after.head?) := by
  induction before with
  | nil => exact neighbours_cons_of_lt hlo hafter
  | cons p before ih =>
    obtain ⟨-, htail⟩ := List.pairwise_cons.1 hrising
    cases before with
    | nil => exact (neighbours_cons_cons_of_le p after hlo).trans (ih htail)
    | cons q before =>
      have hq : q.temp < lo.temp := (List.pairwise_cons.1 htail).1 lo (by simp)
      exact (neighbours_cons_cons_of_le p _ (by omega)).trans (ih htail)

/-! ### The base value -/

/-- The value a mode gives from the last point at or below Ti and the point after it, if there is one. -/
def curveValue (ti : Int) (lo : Point) : Option Point → Interpolation → Nat
  | none, _ => lo.value
  | some _, .step => lo.value
  | some hi, .linear => linearBetween lo hi ti

theorem curveValue_step (ti : Int) (lo : Point) (next : Option Point) : curveValue ti lo next .step = lo.value := by
  cases next <;> rfl

theorem curveValue_at_lower {ti : Int} {lo : Point} (mode : Interpolation) {next : Option Point}
    (hti : ti = lo.temp) (hnext : ∀ q ∈ next, ti < q.temp) : curveValue ti lo next mode = lo.value := by
  cases mode with
  | step => exact curveValue_step ti lo next
  | linear =>
    cases next with
    | none => rfl
    | some hi => exact linearBetween_at_lower hti (hnext hi rfl)

theorem baseValue_of_le_first {p : Profile} {ti : Int} {first : Point} {rest : List Point}
    (hp : p.points = first :: rest) (hti : ti ≤ first.temp) : baseValue p ti = first.value := by
  simp [baseValue, hp, hti]

theorem baseValue_of_neighbours {p : Profile} {ti : Int} {first lo : Point} {rest : List Point} {next : Option Point}
    (hp : p.points = first :: rest) (hti : first.temp < ti) (hn : neighbours ti p.points = some (lo, next)) :
    baseValue p ti = curveValue ti lo next p.header.interp := by
  rw [hp] at hn
  have habove : ¬ ti ≤ first.temp := not_le.2 hti
  cases next with
  | none => simp [baseValue, curveValue, hp, habove, hn]
  | some hi => cases hmode : p.header.interp <;> simp [baseValue, curveValue, hp, habove, hn, hmode]

/-- R21 to R23 in one: where Ti is the first point's own temperature, R21's end value and the interpolated value agree. -/
theorem baseValue_eq_curveValue {p : Profile} {ti : Int} {before after : List Point} {lo : Point}
    (hrising : Rising p.points) (hp : p.points = before ++ lo :: after) (hlo : lo.temp ≤ ti)
    (hafter : ∀ q ∈ after, ti < q.temp) : baseValue p ti = curveValue ti lo after.head? p.header.interp := by
  have hn : neighbours ti p.points = some (lo, after.head?) := by
    rw [hp] at hrising ⊢
    exact neighbours_of_split hrising hlo hafter
  cases before with
  | nil =>
    rcases hlo.eq_or_lt with heq | hlt
    · have hnext : ∀ q ∈ after.head?, ti < q.temp := fun q hq => hafter q (List.mem_of_mem_head? hq)
      rw [baseValue_of_le_first hp heq.ge, curveValue_at_lower _ heq.symm hnext]
    · exact baseValue_of_neighbours hp hlt hn
  | cons first before =>
    rw [hp] at hrising
    have hfirst : first.temp < lo.temp := (List.pairwise_cons.1 hrising).1 lo (by simp)
    exact baseValue_of_neighbours hp (by omega) hn

/-- R23: on a LINEAR curve Ti between two neighbouring points, the upper one excluded, is interpolated between them. -/
theorem baseValue_of_linear {p : Profile} {ti : Int} {before after : List Point} {lo hi : Point}
    (hmode : p.header.interp = .linear) (hrising : Rising p.points) (hp : p.points = before ++ lo :: hi :: after)
    (hlo : lo.temp ≤ ti) (hhi : ti < hi.temp) : baseValue p ti = linearBetween lo hi ti := by
  have habove : ∀ q ∈ hi :: after, ti < q.temp := by
    rw [hp] at hrising
    obtain ⟨-, hrest, -⟩ := List.pairwise_append.1 hrising
    obtain ⟨hhiAfter, -⟩ := List.pairwise_cons.1 (List.pairwise_cons.1 hrest).2
    exact List.forall_mem_cons.2 ⟨hhi, fun q hq => hhi.trans (hhiAfter q hq)⟩
  rw [baseValue_eq_curveValue hrising hp hlo habove, hmode]
  rfl

/-- Settles O12: the first clause is R21's end value, the second the search's result under STEP. -/
theorem stepCurveIsStaircase : Obligations.StepCurveIsStaircase := by
  intro p ti hmode hrising _
  constructor
  · intro first hfirst hti
    obtain ⟨rest, hp⟩ := List.head?_eq_some_iff.1 hfirst
    exact baseValue_of_le_first hp hti
  · intro before lo after hp hlo hafter
    rw [baseValue_eq_curveValue hrising hp hlo hafter, hmode, curveValue_step]

/-- Settles O13: the quotient of the statement is the model's rounded quotient, and its bounds are those of the floor
it is taken by. -/
theorem linearCurveRoundsHalfUp : Obligations.LinearCurveRoundsHalfUp := by
  intro p ti before after lo hi hmode hrising hp hlo hhi
  have hden : 0 < hi.temp - lo.temp := by omega
  obtain ⟨hmin, hmax⟩ := linearBetween_mem hlo hhi
  rw [baseValue_of_linear hmode hrising hp hlo hhi, mul_assoc 2 ((hi.value : Int) - lo.value)]
  exact ⟨_, linearBetween_toInt hlo hhi, lt_two_mul_roundedQuotient hden, two_mul_roundedQuotient_le hden,
    fun hti => linearBetween_at_lower hti hhi, hmin, hmax, fun hl hh => hmax.trans (max_le hl hh)⟩

end Sys2Proof.Machine
end

section
/-! What the four resets leave behind. Each of them answers a part held in reset or a part whose reset has ended, and in
both the volatile state is lost, so the CE and the BM stand at their reset values. -/

namespace Sys2Proof.Machine

/-! ### The answers of the four resets -/

theorem exec_powerOnReset (s : State) : exec .powerOnReset s = .next (holdInReset .power s) := rfl

theorem exec_pinReset (s : State) : exec .pinReset s =
    .next (holdInReset (if s.oc.held = true ∧ s.oc.cause = .power then .power else .pin) s) := rfl

theorem exec_resetRelease_of_held {s : State} (straps : BitVec 2) (hheld : s.oc.held = true) :
    exec (.resetRelease straps) s = .next (resetEnded s.oc.cause straps s) := by
  change execResetRelease straps s = _
  simp [execResetRelease, hheld]

theorem exec_frameSent_of_restart {s : State} {fr : TxFrame} (straps : BitVec 2) (htx : s.hl.tx = some fr)
    (hrestart : fr.restart = true) : exec (.frameSent straps) s = .next (resetEnded .request straps s) := by
  change execFrameSent straps s = _
  simp [execFrameSent, htx, hrestart]

/-! ### What is lost -/

theorem volatileLost_holdInReset (cause : ResetCause) (s : State) : VolatileLost (holdInReset cause s) where
  mu := rfl
  ce := rfl
  ctxs _ := Vector.getElem_replicate _
  bm := rfl
  hl := rfl
  nu := rfl
  msgs := rfl
  alertN := rfl
  session := ⟨rfl, rfl, rfl, rfl⟩

theorem volatileLost_resetEnded (cause : ResetCause) (straps : BitVec 2) (s : State) :
    VolatileLost (resetEnded cause straps s) where
  mu := rfl
  ce := rfl
  ctxs _ := Vector.getElem_replicate _
  bm := rfl
  hl := rfl
  nu := rfl
  msgs := rfl
  alertN := rfl
  session := ⟨rfl, rfl, rfl, rfl⟩

/-! ### The CE's reset values (R39) -/

@[simp] theorem Ce.reset_shadows_getElem (id : ProfileId) : Ce.reset.shadows[id] = Shadow.reset :=
  Vector.getElem_replicate _

@[simp] theorem Ce.reset_latches_getElem (slot : Slot) : Ce.reset.latches[slot] = LatchState.reset :=
  Vector.getElem_replicate _

theorem VolatileLost.shadow {t : State} (h : VolatileLost t) (id : ProfileId) : t.ce.shadows[id] = Shadow.reset := by
  rw [h.ce, Ce.reset_shadows_getElem]

theorem VolatileLost.latch {t : State} (h : VolatileLost t) (slot : Slot) : t.ce.latches[slot] = LatchState.reset := by
  rw [h.ce, Ce.reset_latches_getElem]

theorem VolatileLost.supply {t : State} (h : VolatileLost t) : t.ce.supply = .normal := by
  rw [h.ce, Ce.reset]

theorem VolatileLost.passCount {t : State} (h : VolatileLost t) : t.ce.passCount = 0 := by
  rw [h.ce, Ce.reset]

theorem VolatileLost.queue {t : State} (h : VolatileLost t) : t.bm.queue = [] := by
  rw [h.bm, Bm.reset]

/-- Settles O3: each of the four resets loses the volatile state, in which R39's values stand. -/
theorem shadowsUnknownAfterEveryReset : Obligations.ShadowsUnknownAfterEveryReset := by
  intro straps s c hreset
  have hlost : Gives c s VolatileLost := by
    obtain rfl | rfl | ⟨rfl, hheld⟩ | ⟨rfl, fr, htx, hrestart⟩ := hreset
    · exact gives_of_next (exec_powerOnReset s) (volatileLost_holdInReset ..)
    · exact gives_of_next (exec_pinReset s) (volatileLost_holdInReset ..)
    · exact gives_of_next (exec_resetRelease_of_held straps hheld) (volatileLost_resetEnded ..)
    · exact gives_of_next (exec_frameSent_of_restart straps htx hrestart) (volatileLost_resetEnded ..)
  obtain ⟨t, ht, hvol⟩ := hlost
  exact gives_of_next ht ⟨hvol.shadow, hvol.latch, hvol.supply, hvol.passCount, hvol.queue⟩

end Sys2Proof.Machine
end

section
/-! The arbiter. `byPriority` asks the classes in the order of their places, so its choice is the oldest of the first
class that has a transfer (`leads_of_oldestOf`); the starvation count then decides only whether COMPENSATE is asked
ahead of them. -/

namespace Sys2Proof.Machine

/-! ### Eligibility (R107) -/

/-- Settles O27, by what the transfer's slot and that slot's quiet time are. -/
theorem eligibleForGrant : Obligations.EligibleForGrant := by
  intro s t
  unfold eligible
  cases t.slot with
  | none => simp
  | some slot => cases hquiet : s.bm.quiet[slot] <;> simp [-Fin.getElem_fin, hquiet, and_assoc]

theorem mem_eligibleTransfers {s : State} {t : Transfer} :
    t ∈ eligibleTransfers s ↔ t ∈ s.bm.queue ∧ eligible s t = true :=
  List.mem_filter

/-! ### The oldest of a class -/

theorem oldestOf_eq_none {c : Class} {ts : List Transfer} : oldestOf c ts = none ↔ ∀ x ∈ ts, x.cls ≠ c := by
  simp [oldestOf, oldest, leastBy_eq_none]

theorem oldestOf_isSome {c : Class} {ts : List Transfer} :
    (oldestOf c ts).isSome = true ↔ ∃ x ∈ ts, x.cls = c := by
  simp [Option.isSome_iff_ne_none, oldestOf_eq_none]

theorem oldestOf_spec {c : Class} {ts : List Transfer} {g : Transfer} (h : oldestOf c ts = some g) :
    g ∈ ts ∧ g.cls = c ∧ ∀ x ∈ ts, x.cls = c → g.age ≤ x.age := by
  obtain ⟨hmem, hleast⟩ := leastBy_spec _ _ _ h
  obtain ⟨hg, hcls⟩ := List.mem_filter.1 hmem
  exact ⟨hg, by simpa using hcls, fun x hx hxc => hleast x (List.mem_filter.2 ⟨hx, by simpa using hxc⟩)⟩

/-! ### The choice by class and age (R109) -/

theorem Class.place_injective : Function.Injective Class.place := by
  intro c d h
  cases c <;> cases d <;> simp_all [Class.place]

/-- R109: the transfer stands in the highest class present, and is the oldest there. -/
def Leads (ts : List Transfer) (g : Transfer) : Prop :=
  ∀ x ∈ ts, g.cls.place < x.cls.place ∨ (g.cls = x.cls ∧ g.age ≤ x.age)

theorem leads_of_oldestOf {c : Class} {ts : List Transfer} {g : Transfer} (h : oldestOf c ts = some g)
    (habove : ∀ d : Class, d.place < c.place → oldestOf d ts = none) : g ∈ ts ∧ Leads ts g := by
  obtain ⟨hg, rfl, hage⟩ := oldestOf_spec h
  refine ⟨hg, fun x hx => ?_⟩
  rcases lt_trichotomy g.cls.place x.cls.place with hlt | heq | hgt
  · exact .inl hlt
  · have hcls : g.cls = x.cls := Class.place_injective heq
    exact .inr ⟨hcls, hage x hx hcls.symm⟩
  · exact absurd rfl (oldestOf_eq_none.1 (habove _ hgt) x hx)

theorem byPriority_spec {ts : List Transfer} {g : Transfer} (h : byPriority ts = some g) : g ∈ ts ∧ Leads ts g := by
  simp only [byPriority, Option.or_eq_some_iff, Option.or_eq_none_iff] at h
  obtain ((hfirst | ⟨hnoManual, hfirst⟩) | ⟨⟨hnoManual, hnoCheck⟩, hfirst⟩)
    | ⟨⟨⟨hnoManual, hnoCheck⟩, hnoRestore⟩, hfirst⟩ := h
  all_goals
    refine leads_of_oldestOf hfirst fun d hd => ?_
    cases d <;> simp_all [Class.place]

theorem byPriority_eq_none {ts : List Transfer} : byPriority ts = none ↔ ts = [] := by
  constructor
  · intro h
    simp only [byPriority, Option.or_eq_none_iff, oldestOf_eq_none] at h
    obtain ⟨⟨⟨hmanual, hcheck⟩, hrestore⟩, hcompensate⟩ := h
    refine List.eq_nil_iff_forall_not_mem.2 fun x hx => ?_
    cases hcls : x.cls with
    | manual => exact hmanual x hx hcls
    | check => exact hcheck x hx hcls
    | restore => exact hrestore x hx hcls
    | compensate => exact hcompensate x hx hcls
  · rintro rfl
    rfl

/-! ### The choice with the starvation count (R110) -/

theorem arbiterChoice_of_starved {n : Nat} {ts : List Transfer} (hn : 8 ≤ n) (h : ∃ x ∈ ts, x.cls = .compensate) :
    arbiterChoice n ts = oldestOf .compensate ts := by
  obtain ⟨g, hg⟩ := Option.isSome_iff_exists.1 (oldestOf_isSome.2 h)
  simp [arbiterChoice, hn, hg]

theorem arbiterChoice_of_not_starved {n : Nat} {ts : List Transfer}
    (h : n < 8 ∨ ∀ x ∈ ts, x.cls ≠ .compensate) : arbiterChoice n ts = byPriority ts := by
  unfold arbiterChoice
  split
  · rename_i hn
    have hnone : oldestOf .compensate ts = none := oldestOf_eq_none.2 (h.resolve_left (by omega))
    rw [hnone, Option.none_or]
  · rfl

theorem arbiterChoice_eq_none {n : Nat} {ts : List Transfer} : arbiterChoice n ts = none ↔ ts = [] := by
  unfold arbiterChoice
  split
  · rw [Option.or_eq_none_iff, byPriority_eq_none]
    exact and_iff_right_of_imp (by rintro rfl; rfl)
  · exact byPriority_eq_none

theorem mem_of_arbiterChoice {n : Nat} {ts : List Transfer} {g : Transfer} (h : arbiterChoice n ts = some g) :
    g ∈ ts := by
  unfold arbiterChoice at h
  split at h
  · rcases Option.or_eq_some_iff.1 h with hcompensate | ⟨-, hpriority⟩
    · exact (oldestOf_spec hcompensate).1
    · exact (byPriority_spec hpriority).1
  · exact (byPriority_spec h).1

/-! ### The grant -/

@[simp] theorem grant_queue (t : Transfer) (s : State) :
    (grant t s).bm.queue = s.bm.queue.map (fun x => if x.id = t.id then { x with onBus := true } else x) := by
  simp [grant, modTransfer]

@[simp] theorem grant_starvation (t : Transfer) (s : State) :
    (grant t s).bm.starvation = starvationAfter s.bm.starvation (eligibleTransfers s) t := by
  simp [grant, modTransfer]

theorem starvationAfter_eligible (n : Nat) (s : State) (g : Transfer) :
    starvationAfter n (eligibleTransfers s) g =
      (if g.cls = .compensate then 0
       else if s.bm.queue.any (fun x => eligible s x && x.cls == .compensate) then min 8 (n + 1) else 0) := by
  have hany : (oldestOf .compensate (eligibleTransfers s)).isSome
      = s.bm.queue.any (fun x => eligible s x && x.cls == .compensate) := by
    rw [Bool.eq_iff_iff, oldestOf_isSome]
    simp [mem_eligibleTransfers, and_assoc]
  rw [starvationAfter, hany]

theorem grantDecision_of_choice {s : State} {g : Transfer} (hidle : busIdle s = true) (hready : s.bm.cond = .ready)
    (hg : arbiterChoice s.bm.starvation (eligibleTransfers s) = some g) : grantDecision s = grant g s := by
  simp [grantDecision, hidle, hready, hg]

theorem grantDecision_unchanged {s : State}
    (h : busIdle s = false ∨ s.bm.cond = .fault ∨ ∀ x ∈ s.bm.queue, eligible s x = false) : grantDecision s = s := by
  rcases grantDecision_cases s with hsame | ⟨hidle, hready, t, ht, -⟩
  · exact hsame
  · obtain ⟨hmem, helig⟩ := mem_eligibleTransfers.1 (mem_of_arbiterChoice ht)
    rcases h with hbusy | hfault | hnone
    · simp [hbusy] at hidle
    · simp [hfault] at hready
    · simp [hnone t hmem] at helig

/-- Settles O28: the granted transfer is the arbiter's choice among the eligible ones. -/
theorem grantTakesHighestClassOldestOrStarved : Obligations.GrantTakesHighestClassOldestOrStarved := by
  refine ⟨rfl, fun s => ⟨grantDecision_unchanged, fun hidle hready ⟨e, he, helig⟩ => ?_⟩⟩
  have hne : eligibleTransfers s ≠ [] := List.ne_nil_of_mem (mem_eligibleTransfers.2 ⟨he, helig⟩)
  obtain ⟨g, hg⟩ := Option.ne_none_iff_exists'.1 (mt arbiterChoice_eq_none.1 hne)
  obtain ⟨hmem, hgelig⟩ := mem_eligibleTransfers.1 (mem_of_arbiterChoice hg)
  rw [grantDecision_of_choice hidle hready hg]
  refine ⟨g, hmem, hgelig, grant_queue g s, ?_, ?_, ?_⟩
  · rintro hstarved ⟨x, hx, hxelig, hcls⟩
    rw [arbiterChoice_of_starved hstarved ⟨x, mem_eligibleTransfers.2 ⟨hx, hxelig⟩, hcls⟩] at hg
    obtain ⟨-, hgcls, hage⟩ := oldestOf_spec hg
    exact ⟨hgcls, fun y hy hyelig => hage y (mem_eligibleTransfers.2 ⟨hy, hyelig⟩)⟩
  · intro hnot x hx hxelig
    have hchoice : s.bm.starvation < 8 ∨ ∀ y ∈ eligibleTransfers s, y.cls ≠ .compensate :=
      hnot.imp_right fun h y hy => h y (mem_eligibleTransfers.1 hy).1 (mem_eligibleTransfers.1 hy).2
    rw [arbiterChoice_of_not_starved hchoice] at hg
    exact (byPriority_spec hg).2 x (mem_eligibleTransfers.2 ⟨hx, hxelig⟩)
  · rw [grant_starvation, starvationAfter_eligible]

end Sys2Proof.Machine
end

section
/-! What an operation of the Target Manager, of the CE or of the delivery of an outcome can do to the rest of the part,
said once: `Evolves S s t` says that `t` comes from `s` by updates that leave the Bus Master's queue and the Host Link
alone and touch the contexts of the slots in `S` alone, by enqueues with room, by changes of queued transfers, by
departures and by the ends of pending requests. -/

namespace Sys2Proof.Machine

/-! ### Single updates -/

/-- An update beside the queue, the link and the contexts outside `S`. -/
structure Aside (S : Set Slot) (s t : State) : Prop where
  pending : t.pending = s.pending
  now : t.now = s.now
  mu : t.mu = s.mu
  cs : t.cs = s.cs
  oc : t.oc = s.oc
  hl : t.hl = s.hl
  nu : t.nu = s.nu
  pins : t.pins = s.pins
  bm : t.bm = { s.bm with nextAge := t.bm.nextAge }
  ce : t.ce = { s.ce with shadows := t.ce.shadows, latches := t.ce.latches }
  ctxs : ∀ i ∉ S, t.ctxs[i] = s.ctxs[i]
  msgs : t.msgs = { s.msgs with notices := t.msgs.notices, ceInvalidate := t.msgs.ceInvalidate }
  notices : s.msgs.notices <+: t.msgs.notices

/-- A change of a queued transfer that leaves what it was enqueued as and puts nothing on the bus. -/
structure TransferKept (x y : Transfer) : Prop where
  id : y.id = x.id
  origin : y.origin = x.origin
  slot : y.slot = x.slot
  addr : y.addr = x.addr
  dir : y.dir = x.dir
  onBus : y.onBus = true → x.onBus = true

/-- One update of `Evolves`. -/
inductive Touch (S : Set Slot) : State → State → Prop
  | aside {s t : State} (h : Aside S s t) : Touch S s t
  | enqueue (r : Request) (s : State) (h : refuseEnqueue r.origin.cls s = none) : Touch S s (addTransfer r s)
  | change (f : Transfer → Transfer) (s : State) (h : ∀ x, TransferKept x (f x)) :
      Touch S s { s with bm := { s.bm with queue := s.bm.queue.map f } }
  | leave (p : Transfer → Bool) (s : State) : Touch S s (departWhere p s)
  | answer (op : PendingOp) (payload : List Byte) (s : State) : Touch S s (endPending op payload s)

/-- A sequence of such updates. -/
def Evolves (S : Set Slot) : State → State → Prop := Relation.ReflTransGen (Touch S)

section Rules
variable {S : Set Slot} {s t u : State}

@[refl] theorem Evolves.refl (s : State) : Evolves S s s := Relation.ReflTransGen.refl

theorem Evolves.trans (h : Evolves S s t) (h' : Evolves S t u) : Evolves S s u := Relation.ReflTransGen.trans h h'

theorem Touch.evolves (h : Touch S s t) : Evolves S s t := Relation.ReflTransGen.single h

theorem Aside.evolves (h : Aside S s t) : Evolves S s t := (Touch.aside h).evolves

theorem Aside.mono {S' : Set Slot} (hS : S ⊆ S') (h : Aside S s t) : Aside S' s t :=
  { h with ctxs := fun i hi => h.ctxs i fun hm => hi (hS hm) }

theorem Touch.mono {S' : Set Slot} (hS : S ⊆ S') (h : Touch S s t) : Touch S' s t := by
  cases h with
  | aside h => exact .aside (h.mono hS)
  | enqueue r s h => exact .enqueue r s h
  | change f s h => exact .change f s h
  | leave p s => exact .leave p s
  | answer op payload s => exact .answer op payload s

theorem Evolves.mono {S' : Set Slot} (hS : S ⊆ S') (h : Evolves S s t) : Evolves S' s t :=
  Relation.ReflTransGen.mono (fun _ _ => Touch.mono hS) _ _ h

/-- An invariant that every single update keeps is kept by any sequence of them. -/
theorem Evolves.keeps {I : State → Prop} (hI : ∀ s t, Touch S s t → I s → I t) (h : Evolves S s t) (hs : I s) : I t := by
  induction h with
  | refl => exact hs
  | tail _ htouch ih => exact hI _ _ htouch ih

end Rules

/-! ### What the updates keep -/

/-- What `Evolves` leaves as it was. -/
structure Framed (S : Set Slot) (s t : State) : Prop where
  pending : t.pending = s.pending
  now : t.now = s.now
  mu : t.mu = s.mu
  cs : t.cs = s.cs
  oc : t.oc = s.oc
  hrdy : t.pins.hrdy = s.pins.hrdy
  derate : t.pins.derate = s.pins.derate
  bm : t.bm = { s.bm with queue := t.bm.queue, nextId := t.bm.nextId, nextAge := t.bm.nextAge }
  ce : t.ce = { s.ce with shadows := t.ce.shadows, latches := t.ce.latches }
  ctxs : ∀ i ∉ S, t.ctxs[i] = s.ctxs[i]
  msgs : t.msgs = { s.msgs with
    notices := t.msgs.notices, ceInvalidate := t.msgs.ceInvalidate, departures := t.msgs.departures }
  notices : s.msgs.notices <+: t.msgs.notices
  intake : t.hl.intake = s.hl.intake

theorem Framed.refl (S : Set Slot) (s : State) : Framed S s s :=
  ⟨rfl, rfl, rfl, rfl, rfl, rfl, rfl, rfl, rfl, fun _ _ => rfl, rfl, List.prefix_refl _, rfl⟩

theorem Framed.trans {S : Set Slot} {s t u : State} (h : Framed S s t) (h' : Framed S t u) : Framed S s u where
  pending := h'.pending.trans h.pending
  now := h'.now.trans h.now
  mu := h'.mu.trans h.mu
  cs := h'.cs.trans h.cs
  oc := h'.oc.trans h.oc
  hrdy := h'.hrdy.trans h.hrdy
  derate := h'.derate.trans h.derate
  bm := by rw [h'.bm, h.bm]
  ce := by rw [h'.ce, h.ce]
  ctxs i hi := (h'.ctxs i hi).trans (h.ctxs i hi)
  msgs := by rw [h'.msgs, h.msgs]
  notices := h.notices.trans h'.notices
  intake := h'.intake.trans h.intake

@[simp] theorem fillReplies_intake (n : Nat) (s : State) : (fillReplies n s).hl.intake = s.hl.intake := by
  induction n generalizing s with
  | zero => rfl
  | succ n ih =>
    unfold fillReplies
    split
    · split
      · rfl
      · rw [ih]
        simp [admitEnded, cacheReply]
    · rfl

@[simp] theorem txChoose_intake (s : State) : (txChoose s).hl.intake = s.hl.intake := by
  rcases txChoose_cases s with h | ⟨-, r, rest, -, -, h⟩ | ⟨-, -, -, h⟩
  · rw [h]
  · simp [h, sendReply]
  · rw [h]
    unfold sendNotice
    split <;> simp

@[simp] theorem answerNow_intake (tag : Byte) (code : Option Byte) (d : Word16) (p : List Byte) (b : Bool) (s : State) :
    (answerNow tag code d p b s).hl.intake = s.hl.intake := by
  simp [answerNow, cacheReply]

@[simp] theorem txChoose_pins (s : State) :
    (txChoose s).pins.hrdy = s.pins.hrdy ∧ (txChoose s).pins.derate = s.pins.derate := by
  rcases txChoose_cases s with h | ⟨-, r, rest, -, -, h⟩ | ⟨-, -, -, h⟩
  · simp [h]
  · simp [h]
  · rw [h]
    unfold sendNotice
    split <;> simp

@[simp] theorem answerNow_pins (tag : Byte) (code : Option Byte) (d : Word16) (p : List Byte) (b : Bool) (s : State) :
    (answerNow tag code d p b s).pins.hrdy = s.pins.hrdy ∧ (answerNow tag code d p b s).pins.derate = s.pins.derate := by
  simp [answerNow]

theorem framed_endPending (S : Set Slot) (op : PendingOp) (payload : List Byte) (s : State) :
    Framed S s (endPending op payload s) := by
  obtain ⟨hpins, hpins', hintake⟩ : (endPending op payload s).pins.hrdy = s.pins.hrdy
      ∧ (endPending op payload s).pins.derate = s.pins.derate ∧ (endPending op payload s).hl.intake = s.hl.intake := by
    rcases endPending_cases op payload s with h | ⟨e, -, -, -, ⟨-, h⟩ | ⟨-, h⟩⟩ <;> rw [h] <;> simp
  exact ⟨by simp, by simp, by simp, by simp, by simp, hpins, hpins', by simp, by simp, fun _ _ => by simp, by simp,
    by simp, hintake⟩

theorem Touch.framed {S : Set Slot} {s t : State} (h : Touch S s t) : Framed S s t := by
  cases h with
  | aside h =>
    exact ⟨h.pending, h.now, h.mu, h.cs, h.oc, by rw [h.pins], by rw [h.pins], by rw [h.bm], h.ce, h.ctxs,
      by rw [h.msgs], h.notices, by rw [h.hl]⟩
  | enqueue r s h => constructor <;> simp
  | change f s h => constructor <;> simp
  | leave p s => constructor <;> simp
  | answer op payload s => exact framed_endPending S op payload s

theorem Evolves.framed {S : Set Slot} {s t : State} (h : Evolves S s t) : Framed S s t := by
  induction h with
  | refl => exact .refl S s
  | tail _ htouch ih => exact ih.trans htouch.framed

/-! ### Where queued transfers come from -/

/-- Every transfer in the queue was there under its handle, as what it was enqueued as, or has a new handle. -/
def QueueFrom (s t : State) : Prop :=
  s.bm.nextId ≤ t.bm.nextId
    ∧ ∀ y ∈ t.bm.queue, (∃ x ∈ s.bm.queue, TransferKept x y) ∨ (s.bm.nextId ≤ y.id ∧ y.id < t.bm.nextId ∧ y.onBus = false)

theorem TransferKept.refl (x : Transfer) : TransferKept x x := ⟨rfl, rfl, rfl, rfl, rfl, fun h => h⟩

theorem TransferKept.trans {x y z : Transfer} (h : TransferKept x y) (h' : TransferKept y z) : TransferKept x z :=
  ⟨h'.id.trans h.id, h'.origin.trans h.origin, h'.slot.trans h.slot, h'.addr.trans h.addr, h'.dir.trans h.dir,
    fun hz => h.onBus (h'.onBus hz)⟩

theorem QueueFrom.refl (s : State) : QueueFrom s s := ⟨Nat.le_refl _, fun y hy => .inl ⟨y, hy, .refl y⟩⟩

theorem QueueFrom.trans {s t u : State} (h : QueueFrom s t) (h' : QueueFrom t u) : QueueFrom s u := by
  refine ⟨h.1.trans h'.1, fun z hz => ?_⟩
  rcases h'.2 z hz with ⟨y, hy, hyz⟩ | ⟨hid, hlt, hbus⟩
  · rcases h.2 y hy with ⟨x, hx, hxy⟩ | ⟨hid, hlt, hbus⟩
    · exact .inl ⟨x, hx, hxy.trans hyz⟩
    · refine .inr ⟨hyz.id ▸ hid, hyz.id ▸ hlt.trans_le h'.1, ?_⟩
      by_contra hne
      simp [hyz.onBus (by simpa using hne)] at hbus
  · exact .inr ⟨h.1.trans hid, hlt, hbus⟩

theorem Touch.queueFrom {S : Set Slot} {s t : State} (h : Touch S s t) : QueueFrom s t := by
  cases h with
  | aside h => rw [QueueFrom, h.bm]; exact QueueFrom.refl s
  | enqueue r s h =>
    refine ⟨by simp, fun y hy => ?_⟩
    simp only [addTransfer_fields, List.mem_append, List.mem_singleton] at hy
    rcases hy with hy | rfl
    · exact .inl ⟨y, hy, .refl y⟩
    · simp [Request.record]
  | change f s h =>
    refine ⟨Nat.le_refl _, fun y hy => ?_⟩
    obtain ⟨x, hx, rfl⟩ := List.mem_map.1 hy
    exact .inl ⟨x, hx, h x⟩
  | leave p s =>
    refine ⟨by simp, fun y hy => ?_⟩
    simp only [departWhere_fields, List.mem_filter] at hy
    exact .inl ⟨y, hy.1, .refl y⟩
  | answer op payload s =>
    have hbm := (endPending_keeps op payload s).2.2.2.2.2.2.1
    rw [QueueFrom, hbm]
    exact QueueFrom.refl s

theorem Evolves.queueFrom {S : Set Slot} {s t : State} (h : Evolves S s t) : QueueFrom s t := by
  induction h with
  | refl => exact .refl s
  | tail _ htouch ih => exact ih.trans htouch.queueFrom

/-- A handle that no queued transfer has and that is not new names no transfer later on. -/
theorem Evolves.gone {S : Set Slot} {s t : State} (h : Evolves S s t) {id : Nat} (hid : id < s.bm.nextId)
    (hgone : ∀ x ∈ s.bm.queue, x.id ≠ id) : ∀ y ∈ t.bm.queue, y.id ≠ id := by
  rintro y hy rfl
  rcases h.queueFrom.2 y hy with ⟨x, hx, hxy⟩ | ⟨hnew, -⟩
  · exact hgone x hx hxy.id.symm
  · omega

/-! ### The bounds of the queue (R104) -/

/-- The queue within its bounds, its transfers under handles of their own, one at most on the bus. -/
def QueueInv (s : State) : Prop := QueueBounded s ∧ OneOnBus s

theorem oneOnBus_of_bm {s t : State} (hq : t.bm.queue = s.bm.queue) (hid : t.bm.nextId = s.bm.nextId) (h : OneOnBus s) :
    OneOnBus t := by
  simpa [OneOnBus, hq, hid] using h

theorem oneOnBus_addTransfer {s : State} (r : Request) (h : OneOnBus s) : OneOnBus (addTransfer r s) := by
  obtain ⟨hids, hlt, hbus⟩ := h
  have hnew : (r.record s.bm.nextId s.bm.nextAge).id = s.bm.nextId := rfl
  refine ⟨?_, ?_, ?_⟩
  · simp only [addTransfer_fields, List.pairwise_append, List.mem_singleton, forall_eq, List.pairwise_singleton, true_and]
    exact ⟨hids, fun x hx => by rw [hnew]; exact (hlt x hx).ne⟩
  · simp only [addTransfer_fields, List.mem_append, List.mem_singleton]
    rintro x (hx | rfl)
    · exact Nat.lt_succ_of_lt (hlt x hx)
    · exact Nat.lt_succ_self _
  · simpa [List.filter_append, Request.record] using hbus

theorem oneOnBus_change {s : State} {f : Transfer → Transfer} (hf : ∀ x, TransferKept x (f x)) (h : OneOnBus s) :
    OneOnBus { s with bm := { s.bm with queue := s.bm.queue.map f } } := by
  obtain ⟨hids, hlt, hbus⟩ := h
  refine ⟨?_, ?_, ?_⟩
  · simpa [List.pairwise_map, (hf _).id] using hids
  · simpa [(hf _).id] using hlt
  · refine le_trans ?_ hbus
    simp only [List.filter_map, List.length_map]
    exact (List.monotone_filter_right s.bm.queue fun x hx => (hf x).onBus hx).length_le

theorem oneOnBus_departWhere {s : State} (p : Transfer → Bool) (h : OneOnBus s) : OneOnBus (departWhere p s) := by
  obtain ⟨hids, hlt, hbus⟩ := h
  have hsub : (s.bm.queue.filter fun t => !p t).Sublist s.bm.queue := List.filter_sublist
  exact ⟨hids.sublist hsub, fun x hx => hlt x (hsub.mem (by simpa using hx)), (hsub.filter _).length_le.trans hbus⟩

theorem Evolves.oneOnBus {S : Set Slot} {s t : State} (h : Evolves S s t) (hs : OneOnBus s) : OneOnBus t := by
  refine h.keeps (fun s t htouch hs => ?_) hs
  cases htouch with
  | aside h => exact oneOnBus_of_bm (by rw [h.bm]) (by rw [h.bm]) hs
  | enqueue r s h => exact oneOnBus_addTransfer r hs
  | change f s h => exact oneOnBus_change h hs
  | leave p s => exact oneOnBus_departWhere p hs
  | answer op payload s => exact oneOnBus_of_bm (by simp) (by simp) hs

theorem queueBounded_addTransfer {s : State} (r : Request) (hroom : refuseEnqueue r.origin.cls s = none)
    (h : QueueBounded s) : QueueBounded (addTransfer r s) := by
  obtain ⟨hlen, hcomp⟩ := h
  obtain ⟨-, hlt32, hlt24⟩ := (refuseEnqueue_eq_none _ _).1 hroom
  refine ⟨?_, ?_⟩
  · simp
    omega
  · by_cases hc : r.origin.cls = .compensate
    · have := hlt24 hc
      simp only [countClass, addTransfer_fields, List.filter_append, List.length_append] at this ⊢
      have hone := List.length_filter_le (fun t => t.cls == .compensate) [r.record s.bm.nextId s.bm.nextAge]
      simp only [List.length_singleton] at hone
      omega
    · have hskip : (r.record s.bm.nextId s.bm.nextAge).cls ≠ .compensate := hc
      simpa [countClass, List.filter_append, hskip] using hcomp

theorem queueBounded_change {s : State} {f : Transfer → Transfer} (hf : ∀ x, TransferKept x (f x)) (h : QueueBounded s) :
    QueueBounded { s with bm := { s.bm with queue := s.bm.queue.map f } } := by
  have hcls : ∀ x, (f x).cls = x.cls := fun x => congrArg Origin.cls (hf x).origin
  exact ⟨by simpa using h.1, by simpa [countClass, List.filter_map, Function.comp_def, hcls] using h.2⟩

theorem queueBounded_departWhere {s : State} (p : Transfer → Bool) (h : QueueBounded s) : QueueBounded (departWhere p s) := by
  have hsub : (s.bm.queue.filter fun t => !p t).Sublist s.bm.queue := List.filter_sublist
  exact ⟨hsub.length_le.trans h.1, (hsub.filter _).length_le.trans h.2⟩

theorem queueInv_of_bm {s t : State} (hq : t.bm.queue = s.bm.queue) (hid : t.bm.nextId = s.bm.nextId) (h : QueueInv s) :
    QueueInv t :=
  ⟨by simpa [QueueBounded, hq] using h.1, oneOnBus_of_bm hq hid h.2⟩

theorem Evolves.queueInv {S : Set Slot} {s t : State} (h : Evolves S s t) (hs : QueueInv s) : QueueInv t := by
  refine ⟨h.keeps (fun s t htouch hs => ?_) hs.1, h.oneOnBus hs.2⟩
  cases htouch with
  | aside h =>
    rw [QueueBounded, h.bm]
    exact hs
  | enqueue r s h => exact queueBounded_addTransfer r h hs
  | change f s h => exact queueBounded_change h hs
  | leave p s => exact queueBounded_departWhere p hs
  | answer op payload s => simpa [QueueBounded] using hs

end Sys2Proof.Machine
end

section
/-! Every shared operation of the blocks evolves the part. -/

namespace Sys2Proof.Machine

variable {S : Set Slot}

/-! ### Plain updates -/

/-- The context of a slot after one of a slot is changed. -/
theorem modCtx_get (slot i : Slot) (f : Ctx → Ctx) (s : State) :
    (modCtx slot f s).ctxs[i] = if i = slot then f s.ctxs[slot] else s.ctxs[i] :=
  setCtx_get slot i (f s.ctxs[slot]) s

theorem modCtx_get_self (slot : Slot) (f : Ctx → Ctx) (s : State) : (modCtx slot f s).ctxs[slot] = f s.ctxs[slot] :=
  (modCtx_get slot slot f s).trans (if_pos rfl)

theorem modCtx_get_ne {slot i : Slot} (h : i ≠ slot) (f : Ctx → Ctx) (s : State) :
    (modCtx slot f s).ctxs[i] = s.ctxs[i] :=
  (modCtx_get slot i f s).trans (if_neg h)

theorem aside_modCtx (slot : Slot) (f : Ctx → Ctx) (s : State) : Aside {slot} s (modCtx slot f s) :=
  ⟨rfl, rfl, rfl, rfl, rfl, rfl, rfl, rfl, rfl, rfl, fun _ hi => modCtx_get_ne hi f s, rfl, List.prefix_refl _⟩

theorem evolves_modCtx (slot : Slot) (f : Ctx → Ctx) (s : State) : Evolves {slot} s (modCtx slot f s) :=
  (aside_modCtx slot f s).evolves

theorem evolves_setCtx (slot : Slot) (c : Ctx) (s : State) : Evolves {slot} s (setCtx slot c s) :=
  evolves_modCtx slot (fun _ => c) s

theorem evolves_setShadow (id : ProfileId) (sh : Shadow) (s : State) : Evolves S s (setShadow id sh s) :=
  Aside.evolves ⟨rfl, rfl, rfl, rfl, rfl, rfl, rfl, rfl, rfl, rfl, fun _ _ => rfl, rfl, List.prefix_refl _⟩

theorem evolves_modShadow (id : ProfileId) (f : Shadow → Shadow) (s : State) : Evolves S s (modShadow id f s) :=
  evolves_setShadow id _ s

theorem evolves_setLatch (slot : Slot) (l : LatchState) (s : State) : Evolves S s (setLatch slot l s) :=
  Aside.evolves ⟨rfl, rfl, rfl, rfl, rfl, rfl, rfl, rfl, rfl, rfl, fun _ _ => rfl, rfl, List.prefix_refl _⟩

theorem evolves_postNotice (v : Severity) (c : NoticeContent) (s : State) : Evolves S s (postNotice v c s) :=
  Aside.evolves ⟨rfl, rfl, rfl, rfl, rfl, rfl, rfl, rfl, rfl, rfl, fun _ _ => rfl, rfl, List.prefix_append _ _⟩

theorem evolves_askInvalidation (slot : Slot) (s : State) : Evolves S s (askInvalidation slot s) :=
  Aside.evolves ⟨rfl, rfl, rfl, rfl, rfl, rfl, rfl, rfl, rfl, rfl, fun _ _ => rfl, rfl, List.prefix_refl _⟩

theorem evolves_drawFree (s : State) : Evolves S s (drawFree s) :=
  Aside.evolves ⟨rfl, rfl, rfl, rfl, rfl, rfl, rfl, rfl, rfl, rfl, fun _ _ => rfl, rfl, List.prefix_refl _⟩

theorem evolves_invalidateSlot (slot : Slot) (s : State) : Evolves S s (invalidateSlot slot s) :=
  Aside.evolves ⟨rfl, rfl, rfl, rfl, rfl, rfl, rfl, rfl, rfl, rfl, fun _ _ => rfl, rfl, List.prefix_refl _⟩

theorem evolves_settleInvalidation (slot : Slot) (s : State) : Evolves S s (settleInvalidation slot s) := by
  unfold settleInvalidation
  split
  · exact evolves_invalidateSlot slot s
  · rfl

theorem evolves_settleInvalidations (slots : List Slot) (s : State) : Evolves S s (settleInvalidations slots s) := by
  induction slots generalizing s with
  | nil => rfl
  | cons i is ih => exact (evolves_settleInvalidation i s).trans (ih _)

theorem evolves_recordEvaluation (id : ProfileId) (p : Profile) (e : Evaluation) (isLoad : Bool) (s : State) :
    Evolves S s (recordEvaluation id p e isLoad s) := by
  unfold recordEvaluation
  dsimp only
  split
  · exact evolves_modShadow id _ s
  · exact (evolves_modShadow id _ s).trans (evolves_postNotice _ _ _)

/-! ### The queue -/

theorem evolves_change {f : Transfer → Transfer} (hf : ∀ x, TransferKept x (f x)) (s : State) :
    Evolves S s { s with bm := { s.bm with queue := s.bm.queue.map f } } :=
  (Touch.change f s hf).evolves

theorem evolves_modTransfer {f : Transfer → Transfer} (hf : ∀ x, TransferKept x (f x)) (id : Nat) (s : State) :
    Evolves S s (modTransfer id f s) := by
  refine evolves_change (fun x => ?_) s
  split
  · exact hf x
  · exact .refl x

theorem evolves_backToWaiting (id : Nat) (s : State) : Evolves S s (backToWaiting id s) :=
  evolves_modTransfer (f := fun t => { t with onBus := false }) (fun _ => ⟨rfl, rfl, rfl, rfl, rfl, fun h => by simp at h⟩) id s

theorem evolves_replaceData (id : Nat) (data : List Byte) (s : State) : Evolves S s (replaceData id data s) :=
  evolves_modTransfer (f := fun t => { t with data := data }) (fun _ => ⟨rfl, rfl, rfl, rfl, rfl, fun h => h⟩) id s

theorem evolves_renewAge (id : Nat) (s : State) : Evolves S s (renewAge id s) :=
  (evolves_modTransfer (f := fun t => { t with age := s.bm.nextAge }) (fun _ => ⟨rfl, rfl, rfl, rfl, rfl, fun h => h⟩)
    id s).trans (Aside.evolves
      ⟨rfl, rfl, rfl, rfl, rfl, rfl, rfl, rfl, rfl, rfl, fun _ _ => rfl, rfl, List.prefix_refl _⟩)

theorem evolves_markStale (id : Nat) (s : State) : Evolves S s (markStale id s) := by
  refine evolves_modTransfer (fun x => ?_) id s
  split
  · exact ⟨rfl, rfl, rfl, rfl, rfl, fun h => h⟩
  · exact .refl x

theorem evolves_markSlotStale (slot : Slot) (s : State) : Evolves S s (markSlotStale slot s) := by
  refine evolves_change (fun x => ?_) s
  split
  · exact ⟨rfl, rfl, rfl, rfl, rfl, fun h => h⟩
  · exact .refl x

theorem evolves_departWhere (p : Transfer → Bool) (s : State) : Evolves S s (departWhere p s) :=
  (Touch.leave p s).evolves

theorem evolves_depart (id : Nat) (s : State) : Evolves S s (depart id s) := evolves_departWhere _ s

theorem evolves_purgeAutomatic (slot : Slot) (s : State) : Evolves S s (purgeAutomatic slot s) := evolves_departWhere _ s

theorem evolves_endPending (op : PendingOp) (payload : List Byte) (s : State) : Evolves S s (endPending op payload s) :=
  (Touch.answer op payload s).evolves

theorem evolves_endManual (t : Transfer) (r : Result) (content : List Byte) (s : State) :
    Evolves S s (endManual t r content s) := evolves_endPending _ _ s

theorem evolves_cancelAll (cause : CancelCause) (ts : List Transfer) (s : State) : Evolves S s (cancelAll cause ts s) := by
  induction ts generalizing s with
  | nil => rfl
  | cons t ts ih => exact (evolves_endManual _ _ _ s).trans (ih _)

theorem evolves_faultAll (ts : List Transfer) (s : State) : Evolves S s (faultAll ts s) := by
  induction ts generalizing s with
  | nil => rfl
  | cons t ts ih => exact (evolves_endManual _ _ _ s).trans (ih _)

theorem evolves_purgeManual (p : Transfer → Bool) (cause : CancelCause) (s : State) : Evolves S s (purgeManual p cause s) :=
  (evolves_departWhere p s).trans (evolves_cancelAll _ _ _)

theorem evolves_purgeSlotManual (slot : Slot) (cause : CancelCause) (s : State) :
    Evolves S s (purgeSlotManual slot cause s) := evolves_purgeManual _ _ s

theorem evolves_purgeRawWrites (slot : Slot) (s : State) : Evolves S s (purgeRawWrites slot s) := by
  unfold purgeRawWrites
  split
  · exact evolves_purgeManual _ _ s
  · rfl

theorem evolves_addTransfer {r : Request} {s : State} (h : refuseEnqueue r.origin.cls s = none) :
    Evolves S s (addTransfer r s) := (Touch.enqueue r s h).evolves

/-! ### Outcomes and returns at the CE -/

theorem evolves_failShadow (id : ProfileId) (s : State) : Evolves S s (failShadow id s) := by
  unfold failShadow
  dsimp only
  split
  · exact (evolves_setShadow id _ s).trans (evolves_depart _ _)
  · exact evolves_setShadow id _ s

theorem evolves_profileOutcome (id : ProfileId) (tid : Nat) (stale : Bool) (out : BusOutcome) (s : State) :
    Evolves S s (profileOutcome id tid stale out s).1 := by
  unfold profileOutcome
  split
  · rfl
  · split
    · exact evolves_modShadow id _ s
    · exact evolves_failShadow id s

theorem evolves_latchOutcome (slot : Slot) (tid : Nat) (stale : Bool) (out : BusOutcome) (s : State) :
    Evolves S s (latchOutcome slot tid stale out s).1 := by
  unfold latchOutcome
  dsimp only
  split
  · rfl
  · split
    · exact evolves_setLatch slot _ s
    · split
      · exact (evolves_setLatch slot _ s).trans (evolves_depart _ _)
      · exact evolves_setLatch slot _ s

/-- The outcome of a COMPENSATE transfer evolves the part; at a failure the report follows. -/
theorem compensateOutcome_cases (t : Transfer) (out : BusOutcome) (s : State) :
    ∃ u, Evolves S s u ∧ (compensateOutcome t out s = u ∨ ∃ slot, compensateOutcome t out s = reportFailure slot t.origin out u) := by
  unfold compensateOutcome
  split
  · rename_i slot id _ _
    refine ⟨_, evolves_profileOutcome id t.id t.stale out s, ?_⟩
    split <;> rename_i u hu <;> rw [hu]
    · exact .inr ⟨slot, rfl⟩
    · exact .inl rfl
  · rename_i slot _ _
    refine ⟨_, evolves_latchOutcome slot t.id t.stale out s, ?_⟩
    split <;> rename_i u hu <;> rw [hu]
    · exact .inr ⟨slot, rfl⟩
    · exact .inl rfl
  · exact ⟨s, .refl s, .inl rfl⟩

theorem evolves_returnProfile (id : ProfileId) (tid : Nat) (s : State) : Evolves S s (returnProfile id tid s) := by
  unfold returnProfile
  dsimp only
  split
  · exact evolves_backToWaiting tid s
  · split
    · exact evolves_backToWaiting tid s
    · split
      · exact (evolves_setShadow id _ s).trans (evolves_depart _ _)
      · exact (evolves_setShadow id _ s).trans (evolves_backToWaiting _ _)

theorem evolves_returnLatch (slot : Slot) (tid : Nat) (s : State) : Evolves S s (returnLatch slot tid s) := by
  unfold returnLatch
  dsimp only
  split
  · exact evolves_backToWaiting tid s
  · split
    · exact (evolves_setLatch slot _ s).trans (evolves_depart _ _)
    · exact (evolves_setLatch slot _ s).trans (evolves_backToWaiting _ _)

theorem evolves_returnLoadStep (id : ProfileId) (tid : Nat) (s : State) : Evolves S s (returnLoadStep id tid s) :=
  (evolves_modShadow id _ s).trans (evolves_backToWaiting _ _)

theorem evolves_returnTransfer (t : Transfer) (s : State) : Evolves S s (returnTransfer t s) := by
  unfold returnTransfer
  split
  · exact evolves_returnProfile _ _ s
  · exact evolves_returnLoadStep _ _ s
  · exact evolves_returnLatch _ _ s
  · exact evolves_backToWaiting _ s

/-! ### Entries -/

theorem evolves_postTarget (slot : Slot) (before : TargetState) (s : State) : Evolves S s (postTarget slot before s) := by
  unfold postTarget
  dsimp only
  split
  · exact evolves_postNotice _ _ s
  · exact (evolves_postNotice _ _ s).trans (evolves_drawFree _)

theorem evolves_entryActions (slot : Slot) (s : State) : Evolves {slot} s (entryActions slot s) :=
  (((evolves_purgeAutomatic slot s).trans (evolves_markSlotStale slot _)).trans (evolves_askInvalidation slot _)).trans
    (evolves_modCtx slot _ _)

theorem evolves_beginEntry (slot : Slot) (st : TargetState) (r : Reason) (d : Detail) (s : State) :
    Evolves {slot} s (beginEntry slot st r d s) := by
  have hclean (u : State) : Evolves {slot} u (if cleanEntry st then entryActions slot u else u) := by
    split
    · exact evolves_entryActions slot u
    · rfl
  have hmanual (u : State) :
      Evolves {slot} u (if st = .disabled ∨ st = .unconfigured then purgeSlotManual slot .slotState u else u) := by
    split
    · exact evolves_purgeSlotManual slot _ u
    · rfl
  have hraw (u : State) : Evolves {slot} u (if automaticUse st then purgeRawWrites slot u else u) := by
    split
    · exact evolves_purgeRawWrites slot u
    · rfl
  exact (((evolves_modCtx slot _ s).trans (hclean _)).trans (hmanual _)).trans (hraw _)

theorem evolves_enterPlain (slot : Slot) (st : TargetState) (r : Reason) (d : Detail) (s : State) :
    Evolves {slot} s (enterPlain slot st r d s) :=
  (evolves_beginEntry slot st r d s).trans (evolves_postTarget _ _ _)

theorem evolves_enterFaultHold (slot : Slot) (r : Reason) (d : Detail) (s : State) :
    Evolves {slot} s (enterFaultHold slot r d s) :=
  ((evolves_beginEntry slot _ r d s).trans (evolves_modCtx _ _ _)).trans (evolves_postTarget _ _ _)

theorem evolves_enterInService (slot : Slot) (s : State) : Evolves {slot} s (enterInService slot s) :=
  ((evolves_beginEntry slot _ _ _ s).trans (evolves_modCtx _ _ _)).trans (evolves_postTarget _ _ _)

/-! ### Steps -/

/-- A step's enqueue meets the full queue alone (R104). -/
theorem refuseEnqueue_of_step {c : Class} {s : State} (hc : c = .restore ∨ c = .check)
    (hroom : s.bm.queue.length < Config.queuePlaces) : refuseEnqueue c s = none := by
  rw [refuseEnqueue_eq_none]
  rcases hc with rfl | rfl <;> simpa using hroom

theorem evolves_enqueueStep {slot : Slot} {r : Request} {s : State} (hc : r.origin.cls = .restore ∨ r.origin.cls = .check)
    (hroom : s.bm.queue.length < Config.queuePlaces) : Evolves {slot} s (enqueueStep slot r s) :=
  (evolves_addTransfer (refuseEnqueue_of_step hc hroom)).trans (evolves_modCtx slot _ _)

theorem evolves_placeStep (slot : Slot) (marks : Bool) {r : Request} (s : State)
    (hc : r.origin.cls = .restore ∨ r.origin.cls = .check) : Evolves {slot} s (placeStep slot marks r s) := by
  rcases placeStep_cases slot marks r s with ⟨-, h⟩ | ⟨-, h⟩ | ⟨-, hroom, h⟩ <;> rw [h]
  · exact evolves_modCtx slot _ s
  · exact evolves_enqueueStep hc hroom

theorem evolves_placeIdentity (slot : Slot) (s : State) : Evolves {slot} s (placeIdentity slot s) := by
  rcases placeIdentity_cases slot s with h | ⟨r, c, -, -, h⟩ <;> rw [h]
  exact (evolves_modCtx slot _ s).trans (evolves_placeStep slot _ _ (.inl rfl))

theorem evolves_placeCheck (slot : Slot) (s : State) : Evolves {slot} s (placeCheck slot s) := by
  unfold placeCheck
  split
  · rfl
  · split
    · rfl
    · split
      · rfl
      · exact evolves_placeStep slot _ s (.inr rfl)
    · split
      · rfl
      · exact evolves_placeStep slot _ s (.inr rfl)

/-- A PROFILE step waits for its stale hold, waits for room, or is evaluated and enqueued (R52, R69, R83). -/
theorem placeProfile_cases (slot : Slot) (r : TargetRecord) (id : ProfileId) (p : Profile) (s : State) :
    (s.ctxs[slot].staleHold.isSome = true ∧ placeProfile slot r id p s = s)
      ∨ (Config.queuePlaces ≤ s.bm.queue.length ∧ placeProfile slot r id p s = modCtx slot (fun c => { c with roomMark := true }) s)
      ∨ (s.ctxs[slot].staleHold = none ∧ s.bm.queue.length < Config.queuePlaces ∧ ∃ e, e = evaluateNow (settleInvalidation slot s) id p ∧
        placeProfile slot r id p s =
          enqueueStep slot (writeRequest (.loadProfile id) slot r.addr p.header.param (profileData p e.output) 0)
            (modShadow id (fun sh => { sh with waiting := some ⟨s.bm.nextId, e.output⟩ })
              (recordEvaluation id p e true (settleInvalidation slot s)))) := by
  unfold placeProfile
  split
  · rename_i h
    exact .inl ⟨h, rfl⟩
  · rename_i h
    split
    · rename_i hq
      exact .inr (.inl ⟨by simpa [queueFull] using hq, rfl⟩)
    · rename_i hq
      exact .inr (.inr ⟨by simpa using h, by simpa [queueFull] using hq, _, rfl, rfl⟩)

theorem evolves_placeProfile (slot : Slot) (r : TargetRecord) (id : ProfileId) (p : Profile) (s : State) :
    Evolves {slot} s (placeProfile slot r id p s) := by
  rcases placeProfile_cases slot r id p s with ⟨-, h⟩ | ⟨-, h⟩ | ⟨-, hroom, e, -, h⟩ <;> rw [h]
  · exact evolves_modCtx slot _ s
  · refine (((evolves_settleInvalidation slot s).trans (evolves_recordEvaluation id p e true _)).trans
      (evolves_modShadow id _ _)).trans (evolves_enqueueStep (.inl rfl) ?_)
    simpa using hroom

theorem evolves_placeLoadStep (slot : Slot) (r : TargetRecord) (step : LoadStep) (s : State) :
    Evolves {slot} s (placeLoadStep slot r step s) := by
  unfold placeLoadStep
  split
  case h_1 => rfl
  case h_6 => rfl
  case h_3 =>
    split
    · rfl
    · split
      · rfl
      · exact evolves_placeProfile slot r _ _ s
  all_goals
    split
    · rfl
    · exact evolves_placeStep slot _ s (.inl rfl)

/-! ### The load, the probe and the checks -/

theorem evolves_goToStep (slot : Slot) (r : TargetRecord) (step : LoadStep) (s : State) :
    Evolves {slot} s (goToStep slot r step s) := by
  unfold goToStep
  dsimp only
  split
  · exact (evolves_modCtx slot _ s).trans (evolves_enterInService slot _)
  · exact (evolves_modCtx slot _ s).trans (evolves_placeLoadStep slot r step _)

theorem evolves_enterLoading (slot : Slot) (s : State) : Evolves {slot} s (enterLoading slot s) := by
  unfold enterLoading
  split
  · rfl
  · rename_i r _
    have hcounted := (evolves_beginEntry slot .loading .probed .absent s).trans
      (evolves_modCtx slot (countSteps (beginEntry slot .loading .probed .absent s) slot r) _)
    dsimp only
    split
    · exact (hcounted.trans (evolves_postTarget _ _ _)).trans (evolves_goToStep slot r _ _)
    · exact (hcounted.trans (evolves_goToStep slot r _ _)).trans (evolves_postTarget _ _ _)

theorem evolves_enterProbing (slot : Slot) (reason : Reason) (d : Detail) (s : State) :
    Evolves {slot} s (enterProbing slot reason d s) := by
  have hentry := evolves_beginEntry slot .probing reason d s
  unfold enterProbing
  dsimp only
  split
  · exact hentry.trans (evolves_postTarget _ _ _)
  · split
    · exact (hentry.trans (evolves_placeIdentity slot _)).trans (evolves_postTarget _ _ _)
    · exact (hentry.trans (evolves_postTarget _ _ _)).trans (evolves_enterLoading slot _)

theorem evolves_resumeLoad (slot : Slot) (s : State) : Evolves {slot} s (resumeLoad slot s) := by
  unfold resumeLoad
  split
  · rfl
  · exact evolves_goToStep slot _ _ s

theorem evolves_advanceLoad (slot : Slot) (s : State) : Evolves {slot} s (advanceLoad slot s) := by
  unfold advanceLoad
  split
  · rfl
  · exact evolves_goToStep slot _ _ s

theorem evolves_resumeStep (slot : Slot) (s : State) : Evolves {slot} s (resumeStep slot s) := by
  unfold resumeStep
  split
  · rfl
  · split
    · exact evolves_placeIdentity slot s
    · exact evolves_resumeLoad slot s
    · exact evolves_placeCheck slot s
    · rfl

theorem evolves_cleanCheck (slot : Slot) (s : State) : Evolves {slot} s (cleanCheck slot s) := evolves_modCtx slot _ s

theorem evolves_identityRead (slot : Slot) (b : Byte) (s : State) : Evolves {slot} s (identityRead slot b s) := by
  unfold identityRead
  split
  · rfl
  · split
    · exact evolves_enterLoading slot s
    · exact evolves_enterPlain slot _ _ _ s

theorem evolves_markerRead (slot : Slot) (b : Byte) (s : State) : Evolves {slot} s (markerRead slot b s) := by
  unfold markerRead
  split
  · rfl
  · split
    · rfl
    · split
      · split
        · exact (evolves_modCtx slot _ s).trans (evolves_placeCheck slot _)
        · exact evolves_cleanCheck slot s
      · exact (evolves_modCtx slot _ s).trans (evolves_enterProbing slot _ _ _)

theorem evolves_statusRead (slot : Slot) (b : Byte) (s : State) : Evolves {slot} s (statusRead slot b s) := by
  unfold statusRead
  split
  · rfl
  · split
    · exact evolves_enterFaultHold slot _ _ s
    · exact evolves_cleanCheck slot s

theorem evolves_stepDone (slot : Slot) (o : Origin) (bytes : List Byte) (s : State) :
    Evolves {slot} s (stepDone slot o bytes s) := by
  unfold stepDone
  split
  · exact evolves_identityRead slot _ s
  · exact evolves_markerRead slot _ s
  · exact evolves_statusRead slot _ s
  · exact evolves_advanceLoad slot s

theorem evolves_passToCe (t : Transfer) (out : BusOutcome) (s : State) : Evolves S s (passToCe t out s) := by
  unfold passToCe
  split
  · exact evolves_profileOutcome _ _ _ _ s
  · rfl

theorem evolves_stepOutcome (t : Transfer) (slot : Slot) (out : BusOutcome) (bytes : List Byte) (s : State) :
    Evolves {slot} s (stepOutcome t slot out bytes s) := by
  unfold stepOutcome
  dsimp only
  split
  · exact (evolves_setCtx slot _ s).trans (evolves_resumeStep slot _)
  · split
    · rfl
    · have hpassed := (evolves_setCtx slot { s.ctxs[slot] with awaited := none } s).trans (evolves_passToCe t out _)
      split
      · exact hpassed.trans (evolves_stepDone slot _ _ _)
      · exact hpassed.trans (evolves_enterFaultHold slot _ _ _)

theorem evolves_stepWithdrawn (t : Transfer) (s : State) : Evolves Set.univ s (stepWithdrawn t s) := by
  unfold stepWithdrawn
  split
  · rename_i slot _ _
    split
    · exact ((evolves_modCtx slot _ s).trans (evolves_advanceLoad slot _)).mono (Set.subset_univ _)
    · rfl
  · rfl

theorem evolves_startCheck (slot : Slot) (s : State) : Evolves {slot} s (startCheck slot s) := by
  unfold startCheck
  split
  · rfl
  · exact (evolves_modCtx slot _ s).trans (evolves_placeCheck slot _)

theorem evolves_recoveryChecks (slots : List Slot) (s : State) : Evolves {i | i ∈ slots} s (recoveryChecks slots s) := by
  induction slots generalizing s with
  | nil => rfl
  | cons i is ih =>
    refine Evolves.trans ?_ ((ih _).mono fun j hj => List.mem_cons_of_mem i hj)
    split
    · exact (evolves_startCheck i s).mono (by simp)
    · rfl

theorem evolves_retrySteps (slots : List Slot) (s : State) : Evolves {i | i ∈ slots} s (retrySteps slots s) := by
  induction slots generalizing s with
  | nil => rfl
  | cons i is ih =>
    have hrest (u : State) := (ih u).mono (S' := {j | j ∈ i :: is}) fun j hj => List.mem_cons_of_mem i hj
    unfold retrySteps
    dsimp only
    split
    · have hstep := (evolves_resumeStep i s).mono (S' := {j | j ∈ i :: is}) (by simp)
      split
      · exact hstep
      · exact hstep.trans (hrest _)
    · exact hrest s

theorem evolves_setUpSlot (part : PartState) (slot : Slot) (s : State) : Evolves {slot} s (setUpSlot part slot s) := by
  unfold setUpSlot
  split
  · rfl
  · dsimp only
    split
    · exact (evolves_enterPlain slot _ _ _ s).trans (evolves_enterProbing slot _ _ _)
    · exact evolves_enterPlain slot _ _ _ s

theorem evolves_setUpSlots (part : PartState) (slots : List Slot) (s : State) :
    Evolves {i | i ∈ slots} s (setUpSlots part slots s) := by
  induction slots generalizing s with
  | nil => rfl
  | cons i is ih =>
    exact ((evolves_setUpSlot part i s).mono (by simp)).trans ((ih _).mono fun j hj => List.mem_cons_of_mem i hj)

/-! ### Host administration and activations -/

theorem evolves_actOn (a : Action) (slot : Slot) (s : State) : Evolves {slot} s (actOn a slot s) := by
  cases a with
  | enable => exact evolves_enterProbing slot _ _ s
  | disable => exact evolves_enterPlain slot _ _ _ s
  | suspend => exact evolves_enterPlain slot _ _ _ s
  | resume => exact (evolves_purgeSlotManual slot _ s).trans (evolves_enterProbing slot _ _ _)
  | reload => exact (evolves_modCtx slot _ s).trans (evolves_enterProbing slot _ _ _)

theorem evolves_activationProbe (slot : Slot) (s : State) : Evolves {slot} s (activationProbe slot s) :=
  (evolves_modCtx slot _ s).trans (evolves_enterProbing slot _ _ _)

theorem evolves_takeRecord (slot : Slot) (before : Option TargetRecord) (after : TargetRecord) (s : State) :
    Evolves {slot} s (takeRecord slot before after s) := by
  unfold takeRecord
  split
  · unfold recordAdded
    dsimp only
    split
    · exact (evolves_enterPlain slot _ _ _ s).trans (evolves_enterProbing slot _ _ _)
    · exact evolves_enterPlain slot _ _ _ s
  · have hchange : Evolves {slot} s (addressChange slot before after s) := by
      unfold addressChange
      split
      · split
        · rfl
        · exact evolves_purgeSlotManual slot _ s
      · rfl
    dsimp only
    split
    · exact hchange.trans (evolves_activationProbe slot _)
    · exact hchange

theorem evolves_takeRemoval (slot : Slot) (s : State) : Evolves {slot} s (takeRemoval slot s) := by
  unfold takeRemoval
  split
  · rfl
  · exact (evolves_modCtx slot _ s).trans (evolves_enterPlain slot _ _ _ _)

theorem evolves_holdExpired (slot : Slot) (s : State) : Evolves {slot} s (holdExpired slot s) := by
  unfold holdExpired
  dsimp only
  split
  · exact evolves_enterPlain slot _ _ _ s
  · exact (evolves_modCtx slot _ s).trans (evolves_enterProbing slot _ _ _)

/-! ### Profile activations -/

theorem evolves_withdraw (r : Option Ref) (s : State) : Evolves Set.univ s (withdraw r s) := by
  unfold withdraw
  split
  · rfl
  · split
    · rfl
    · refine Evolves.trans ?_ (evolves_stepWithdrawn _ _)
      split
      · exact evolves_markStale _ s
      · exact evolves_depart _ s

theorem evolves_invalidateProfile (id : ProfileId) (s : State) : Evolves Set.univ s (invalidateProfile id s) :=
  ((evolves_setShadow id _ s).trans (evolves_withdraw _ _)).trans (evolves_withdraw _ _)

theorem evolves_keepProfile (id : ProfileId) (after : Option Profile) (s : State) :
    Evolves S s (keepProfile id after s) := by
  unfold keepProfile
  split
  · split
    · rfl
    · exact evolves_modShadow id _ s
  · rfl

/-! ### The pass -/

theorem evolves_enqueueProfile (id : ProfileId) (slot : Slot) (r : TargetRecord) (p : Profile) (v : Nat)
    (x : State × PassAccount) : Evolves S x.1 (enqueueProfile id slot r p v x).1 := by
  unfold enqueueProfile
  dsimp only
  split
  · dsimp only
    exact evolves_modShadow id _ x.1
  · rename_i h
    refine (evolves_modShadow id _ x.1).trans (evolves_addTransfer ?_)
    rw [refuseEnqueue_eq_none] at h ⊢
    simpa [compensateRequest, Origin.cls] using h

theorem evolves_issueOutput (id : ProfileId) (slot : Slot) (r : TargetRecord) (p : Profile) (e : Evaluation)
    (x : State × PassAccount) : Evolves S x.1 (issueOutput id slot r p e x).1 := by
  unfold issueOutput
  dsimp only
  split
  · dsimp only
    exact evolves_modShadow id _ x.1
  · split
    · exact (evolves_modShadow id _ x.1).trans (evolves_replaceData _ _ _)
    · exact evolves_enqueueProfile id slot r p _ x

theorem evolves_visitProfile (slot : Slot) (r : TargetRecord) (id : ProfileId) (x : State × PassAccount) :
    Evolves S x.1 (visitProfile slot r id x).1 := by
  unfold visitProfile
  split
  · rfl
  · exact (evolves_recordEvaluation id _ _ _ x.1).trans (evolves_issueOutput id slot r _ _ (_, _))

theorem evolves_visitProfiles (slot : Slot) (r : TargetRecord) (ids : List ProfileId) (x : State × PassAccount) :
    Evolves S x.1 (visitProfiles slot r ids x).1 := by
  induction ids generalizing x with
  | nil => rfl
  | cons id ids ih => exact (evolves_visitProfile slot r id x).trans (ih _)

theorem evolves_visitSlots (slots : List Slot) (x : State × PassAccount) : Evolves S x.1 (visitSlots slots x).1 := by
  induction slots generalizing x with
  | nil => rfl
  | cons i is ih =>
    unfold visitSlots
    split
    · exact ih x
    · exact (evolves_visitProfiles i _ _ x).trans (ih _)

theorem evolves_issueLatch (slot : Slot) (addr : Byte) (entry : RegValue) (x : State × PassAccount) :
    Evolves S x.1 (issueLatch slot addr entry x).1 := by
  unfold issueLatch
  dsimp only
  split
  · exact evolves_renewAge _ _
  · split
    · exact evolves_setLatch slot _ _
    · rename_i h
      refine (evolves_setLatch slot _ _).trans (evolves_addTransfer ?_)
      rw [refuseEnqueue_eq_none] at h ⊢
      simpa [latchRequest, Origin.cls] using h

theorem evolves_settleLatch (slot : Slot) (x : State × PassAccount) : Evolves S x.1 (settleLatch slot x).1 := by
  unfold settleLatch
  split
  · rfl
  · split
    · rfl
    · split
      · exact evolves_issueLatch slot _ _ x
      · rfl

theorem evolves_settleLatches (slots : List Slot) (x : State × PassAccount) : Evolves S x.1 (settleLatches slots x).1 := by
  induction slots generalizing x with
  | nil => rfl
  | cons i is ih => exact (evolves_settleLatch i x).trans (ih _)

/-- A pass counts itself, evolves the part beside every context, and ends in a grant decision where it enqueued. -/
theorem runPass_cases (s : State) :
    ∃ u, Evolves ∅ { s with ce := { s.ce with passCount := s.ce.passCount + 1 } } u ∧ (runPass s).1 = decideIfEnqueued s u :=
  ⟨_, ((evolves_settleInvalidations _ _).trans (evolves_visitSlots (servedSlots s) (_, PassAccount.none))).trans
    (evolves_settleLatches _ _), rfl⟩

end Sys2Proof.Machine
end

section
/-! The commands that work on no transfer and no target. `Calm s t` says that a command left what the laws of the
queue, of the slots, of the latches and of the writes speak of, and every copy, trim and level. -/

namespace Sys2Proof.Machine

/-! ### Frames -/

/-- The queue, the contexts, the shadows and the latches stand as they were. -/
structure Still (s t : State) : Prop where
  queue : t.bm.queue = s.bm.queue
  nextId : t.bm.nextId = s.bm.nextId
  ctxs : t.ctxs = s.ctxs
  shadows : t.ce.shadows = s.ce.shadows
  latches : t.ce.latches = s.ce.latches
  invalidate : t.msgs.ceInvalidate = s.msgs.ceInvalidate

/-- The copies, the active copies, the trims and the host level stand as they were. -/
structure Steady (s t : State) : Prop where
  pending : t.pending = s.pending
  store : t.cs.store = s.cs.store
  actives : ∀ obj, (t.cs.dir.entry obj).active = (s.cs.dir.entry obj).active
  part : t.oc.part = s.oc.part
  trims : t.ce.trims = s.ce.trims
  hostDerate : t.ce.hostDerate = s.ce.hostDerate

/-- Both. -/
structure Calm (s t : State) : Prop extends Still s t, Steady s t

/-- The Configuration Store, the part state, the scan result, the trims and the host level stand as they were. -/
structure Rests (s t : State) : Prop where
  pending : t.pending = s.pending
  cs : t.cs = s.cs
  part : t.oc.part = s.oc.part
  scanResult : t.oc.scanResult = s.oc.scanResult
  trims : t.ce.trims = s.ce.trims
  hostDerate : t.ce.hostDerate = s.ce.hostDerate

/-- Calm, with the Configuration Store as it was. -/
structure Serene (s t : State) : Prop extends Still s t, Rests s t

/-- Nothing changed but the link, the notice unit, the pins and the draws. -/
structure OffLink (s t : State) : Prop where
  pending : t.pending = s.pending
  now : t.now = s.now
  mu : t.mu = s.mu
  ce : t.ce = s.ce
  ctxs : t.ctxs = s.ctxs
  bm : t.bm = s.bm
  cs : t.cs = s.cs
  oc : t.oc = s.oc
  msgs : t.msgs = s.msgs

section Rules
variable {s t u : State}

theorem Still.refl (s : State) : Still s s := by constructor <;> simp

theorem Still.trans (h : Still s t) (h' : Still t u) : Still s u :=
  ⟨h'.queue.trans h.queue, h'.nextId.trans h.nextId, h'.ctxs.trans h.ctxs, h'.shadows.trans h.shadows,
    h'.latches.trans h.latches, h'.invalidate.trans h.invalidate⟩

theorem Steady.refl (s : State) : Steady s s := by constructor <;> simp

theorem Steady.trans (h : Steady s t) (h' : Steady t u) : Steady s u :=
  ⟨h'.pending.trans h.pending, h'.store.trans h.store, fun obj => (h'.actives obj).trans (h.actives obj),
    h'.part.trans h.part, h'.trims.trans h.trims, h'.hostDerate.trans h.hostDerate⟩

@[refl] theorem Calm.refl (s : State) : Calm s s := ⟨.refl s, .refl s⟩

theorem Calm.trans (h : Calm s t) (h' : Calm t u) : Calm s u :=
  ⟨h.toStill.trans h'.toStill, h.toSteady.trans h'.toSteady⟩

theorem OffLink.refl (s : State) : OffLink s s := by constructor <;> simp

theorem OffLink.trans (h : OffLink s t) (h' : OffLink t u) : OffLink s u :=
  ⟨h'.pending.trans h.pending, h'.now.trans h.now, h'.mu.trans h.mu, h'.ce.trans h.ce, h'.ctxs.trans h.ctxs,
    h'.bm.trans h.bm, h'.cs.trans h.cs, h'.oc.trans h.oc, h'.msgs.trans h.msgs⟩

theorem Rests.refl (s : State) : Rests s s := by constructor <;> rfl

theorem Rests.trans (h : Rests s t) (h' : Rests t u) : Rests s u :=
  ⟨h'.pending.trans h.pending, h'.cs.trans h.cs, h'.part.trans h.part, h'.scanResult.trans h.scanResult,
    h'.trims.trans h.trims, h'.hostDerate.trans h.hostDerate⟩

theorem Rests.steady (h : Rests s t) : Steady s t :=
  ⟨h.pending, by rw [h.cs], by rw [h.cs]; exact fun _ => rfl, h.part, h.trims, h.hostDerate⟩

@[refl] theorem Serene.refl (s : State) : Serene s s := ⟨.refl s, .refl s⟩

theorem Serene.trans (h : Serene s t) (h' : Serene t u) : Serene s u :=
  ⟨h.toStill.trans h'.toStill, h.toRests.trans h'.toRests⟩

theorem Serene.calm (h : Serene s t) : Calm s t := ⟨h.toStill, h.toRests.steady⟩

theorem OffLink.serene (h : OffLink s t) : Serene s t where
  queue := by rw [h.bm]
  nextId := by rw [h.bm]
  ctxs := h.ctxs
  shadows := by rw [h.ce]
  latches := by rw [h.ce]
  invalidate := by rw [h.msgs]
  pending := h.pending
  cs := h.cs
  part := by rw [h.oc]
  scanResult := by rw [h.oc]
  trims := by rw [h.ce]
  hostDerate := by rw [h.ce]

theorem OffLink.calm (h : OffLink s t) : Calm s t := h.serene.calm

theorem queueInv_of_still (h : Still s t) (hs : QueueInv s) : QueueInv t := queueInv_of_bm h.queue h.nextId hs

end Rules

/-! ### Answers -/

theorem offLink_setNu (nu : Nu) (s : State) : OffLink s (setNu nu s) := by constructor <;> simp

theorem offLink_txChoose (s : State) : OffLink s (txChoose s) := by constructor <;> simp

theorem offLink_appendReply (r : Reply) (s : State) : OffLink s (appendReply r s) := by constructor <;> simp

theorem offLink_reply (f : Frame) (r : Result) (content : List Byte) (s : State) : OffLink s (reply f r content s) := by constructor <;> simp

theorem offLink_refuseState (f : Frame) (s : State) : OffLink s (refuseState f s) := by constructor <;> simp

theorem offLink_setIntake (frames : List Frame) (s : State) : OffLink s (setIntake frames s) := by constructor <;> simp

theorem offLink_evictTag (tag : Byte) (s : State) : OffLink s (evictTag tag s) := by constructor <;> simp

theorem offLink_moveRx (rx : Rx) (s : State) : OffLink s (moveRx rx s) := by constructor <;> simp

theorem offLink_deliverFrame (ack : Option Byte) (s : State) : OffLink s (deliverFrame ack s) := by constructor <;> simp

theorem offLink_sampleDerate (level : Bool) (s : State) : OffLink s (sampleDerate level s) := by constructor <;> simp

theorem offLink_endPending (op : PendingOp) (payload : List Byte) (s : State) : OffLink s (endPending op payload s) := by constructor <;> simp

theorem offLink_addPending (f : Frame) (op : PendingOp) (s : State) : OffLink s (addPending f op s) := by constructor <;> simp

theorem serene_advanceTo (m : Nat) (s : State) : Serene s (advanceTo m s) := by
  constructor <;> constructor <;> simp

theorem serene_postNotice (v : Severity) (c : NoticeContent) (s : State) : Serene s (postNotice v c s) := by
  constructor <;> constructor <;> simp

theorem calm_startEditTimer (s : State) : Calm s (startEditTimer s) := by
  constructor <;> constructor <;> simp

theorem calm_closeSession (s : State) : Calm s (closeSession s) := by
  constructor <;> constructor <;> simp

/-- A dispatch changes the link alone, or takes a frame its command names and carries its request out (R176, R177). -/
theorem dispatch_offLink_or_body (names : Option Byte → Bool) (body : Frame → State → State) (s : State) :
    OffLink s (dispatch names body s) ∨ ∃ f u, names f.code = true ∧ OffLink s u ∧ dispatch names body s = body f u := by
  rcases dispatch_cases names body s with h | ⟨f, rest, -, -, hnames, h⟩
  · left
    rw [h]
    exact .refl s
  · rw [h]
    have htaken := offLink_setIntake rest s
    rcases judgeTag_cases f body (setIntake rest s) with ⟨-, h⟩ | ⟨e, -, -, -, -, h⟩ | h | h <;> rw [h]
    · exact .inl (htaken.trans (offLink_appendReply _ _))
    · exact .inl (htaken.trans (offLink_appendReply _ _))
    · exact .inr ⟨f, _, hnames, htaken.trans (offLink_evictTag _ _), rfl⟩
    · exact .inr ⟨f, _, hnames, htaken, rfl⟩

/-- A relation that changes of the link meet and that composes. -/
structure LinkRel (R : State → State → Prop) : Prop where
  offLink : ∀ {s t}, OffLink s t → R s t
  trans : ∀ {s t u}, R s t → R t u → R s u

section Requests
variable {R : State → State → Prop}

theorem LinkRel.reply (hR : LinkRel R) (f : Frame) (r : Result) (content : List Byte) (s : State) :
    R s (reply f r content s) := hR.offLink (offLink_reply ..)

theorem LinkRel.refuseState (hR : LinkRel R) (f : Frame) (s : State) : R s (refuseState f s) :=
  hR.offLink (offLink_refuseState ..)

/-- A request whose execution meets the relation meets it. -/
theorem LinkRel.dispatch (hR : LinkRel R) (names : Option Byte → Bool) {body : Frame → State → State}
    (hbody : ∀ f u, R u (body f u)) (s : State) : R s (dispatch names body s) := by
  rcases dispatch_offLink_or_body names body s with h | ⟨f, u, -, hu, h⟩
  · exact hR.offLink h
  · exact h ▸ hR.trans (hR.offLink hu) (hbody f u)

theorem LinkRel.judged (hR : LinkRel R) {α : Type} (parsed : Option α) (admitted : State → Bool)
    {body : α → Frame → State → State} (hbody : ∀ a f u, R u (body a f u)) (f : Frame) (s : State) :
    R s (judged parsed admitted body f s) := by
  unfold Machine.judged
  split
  · exact hR.reply ..
  · split
    · exact hbody _ f s
    · exact hR.refuseState f s

/-- A request judged by encoding and part state whose body meets the relation meets it. -/
theorem LinkRel.request (hR : LinkRel R) {α : Type} (code : Byte) (parse : Frame → Option α) (admitted : State → Bool)
    {body : α → Frame → State → State} (hbody : ∀ a f u, R u (body a f u)) (s : State) :
    R s (Machine.dispatch (named code) (fun f s => Machine.judged (parse f) admitted body f s) s) :=
  hR.dispatch _ (fun f u => hR.judged _ _ hbody f u) s

theorem LinkRel.report (hR : LinkRel R) (content : State → List Byte) (a : Unit) (f : Frame) (s : State) :
    R s (report content a f s) := hR.reply ..

end Requests

theorem linkRel_serene : LinkRel Serene := ⟨OffLink.serene, Serene.trans⟩

theorem linkRel_calm : LinkRel Calm := ⟨OffLink.calm, Calm.trans⟩

theorem linkRel_still : LinkRel Still := ⟨fun h => h.serene.toStill, Still.trans⟩

/-! ### Editing requests -/

theorem calm_restartIfOpen (s : State) : Calm s (restartIfOpen s) := by
  unfold restartIfOpen
  split
  · exact calm_startEditTimer s
  · rfl

theorem calm_editing {α : Type} (parsed : Option α) {body : α → EditBuffer → Frame → State → State}
    (hbody : ∀ a b f u, Calm u (body a b f u)) (f : Frame) (s : State) : Calm s (editing parsed body f s) := by
  unfold editing
  split
  · exact (calm_restartIfOpen s).trans (linkRel_calm.reply ..)
  · split
    · exact linkRel_calm.refuseState f s
    · split
      · exact (calm_startEditTimer s).trans (hbody _ _ f _)
      · exact linkRel_calm.reply ..
      · exact linkRel_calm.reply ..

theorem calm_setBuffer (b : Option EditBuffer) (s : State) :
    Calm s { s with cs := { s.cs with buffer := b } } := by
  constructor <;> constructor <;> simp

theorem calm_changeBuffer (b : EditBuffer) (new : Option BufferContent) (content : BufferContent → List Byte) (f : Frame)
    (s : State) : Calm s (changeBuffer b new content f s) := by
  unfold changeBuffer
  split
  · exact linkRel_calm.reply ..
  · exact (calm_setBuffer _ s).trans (linkRel_calm.reply ..)

/-- An editing request whose body is calm. -/
theorem calm_editRequest {α : Type} (code : Byte) (parse : Frame → State → Option α)
    {body : α → EditBuffer → Frame → State → State} (hbody : ∀ a b f u, Calm u (body a b f u)) (s : State) :
    Calm s (dispatch (named code) (fun f s => editing (parse f s) body f s) s) :=
  linkRel_calm.dispatch _ (fun f u => calm_editing _ hbody f u) s

theorem calm_editFieldBody (a : FieldArgs) (b : EditBuffer) (f : Frame) (s : State) :
    Calm s (editFieldBody a b f s) := by
  unfold editFieldBody
  split <;> exact calm_changeBuffer ..

theorem calm_editRemoveBody (a : Unit) (b : EditBuffer) (f : Frame) (s : State) : Calm s (editRemoveBody a b f s) := by
  unfold editRemoveBody
  split
  · exact linkRel_calm.reply ..
  · exact (calm_setBuffer _ s).trans (linkRel_calm.reply ..)

theorem calm_openEdit (a : Byte × Byte) (f : Frame) (s : State) : Calm s (openEdit a f s) := by
  unfold openEdit
  split
  · exact linkRel_calm.reply ..
  · split
    · refine Calm.trans (t := openSession _ s) ?_ (linkRel_calm.reply ..)
      exact ⟨⟨rfl, rfl, rfl, rfl, rfl, rfl⟩, ⟨rfl, rfl, fun _ => rfl, rfl, rfl, rfl⟩⟩
    · exact linkRel_calm.reply ..

theorem calm_showEdit (f : Frame) (s : State) : Calm s (showEdit f s) := by
  unfold showEdit
  split
  · exact (calm_startEditTimer s).trans (linkRel_calm.reply ..)
  · exact linkRel_calm.reply ..
  · exact linkRel_calm.reply ..

theorem calm_abandonEdit (a : Unit) (f : Frame) (s : State) : Calm s (abandonEdit a f s) := by
  unfold abandonEdit
  split
  · exact (calm_closeSession s).trans (linkRel_calm.reply ..)
  · exact linkRel_calm.reply ..
  · exact linkRel_calm.reply ..

end Sys2Proof.Machine
end

section
/-! Every command leaves the queue, the contexts, the shadows and the latches as they were, resets the part, or is one
of the working commands below. -/

namespace Sys2Proof.Machine

/-! ### The programming of a copy -/

@[simp] theorem DirEntry.setInfo_active (e : DirEntry) (n : CopyName) (i : CopyInfo) : (e.setInfo n i).active = e.active := by
  cases n <;> rfl

/-- The directory after one entry is replaced. -/
theorem Directory.setEntry_entry (d : Directory) (obj o : ObjId) (e : DirEntry) :
    (d.setEntry obj e).entry o = if o = obj then e else d.entry o := by
  cases obj <;> cases o <;> simp [Directory.setEntry, Directory.entry, Vector.getElem_set, Fin.ext_iff, eq_comm]

/-- The directory after one entry is changed. -/
theorem modEntry_entry (obj o : ObjId) (f : DirEntry → DirEntry) (s : State) :
    (modEntry obj f s).cs.dir.entry o = if o = obj then f (s.cs.dir.entry obj) else s.cs.dir.entry o :=
  Directory.setEntry_entry ..

theorem calm_beginCommit (b : EditBuffer) (s : State) : Calm s (beginCommit b s) := by
  have hactives (obj : ObjId) : ((beginCommit b s).cs.dir.entry obj).active = (s.cs.dir.entry obj).active := by
    have hentry := modEntry_entry b.obj obj (fun e => e.setInfo (commitCopy (s.cs.dir.entry b.obj)) .programming) s
    refine (congrArg DirEntry.active hentry).trans ?_
    split
    · simp [*]
    · rfl
  exact ⟨⟨rfl, rfl, rfl, rfl, rfl, rfl⟩, ⟨rfl, rfl, hactives, rfl, rfl, rfl⟩⟩

theorem calm_startCommit (b : EditBuffer) (f : Frame) (s : State) : Calm s (startCommit b f s) := by
  unfold startCommit
  split
  · exact (calm_startEditTimer s).trans (linkRel_calm.reply ..)
  · exact (offLink_addPending f .commit s).calm.trans (calm_beginCommit b _)

theorem calm_commitEdit (a : Unit) (f : Frame) (s : State) : Calm s (commitEdit a f s) := by
  have hopen (b : EditBuffer) : Calm s (commitOpen b f s) := by
    unfold commitOpen
    split
    · split
      · exact calm_startCommit b f s
      · exact (calm_closeSession s).trans (linkRel_calm.reply ..)
    · split
      · exact (calm_startEditTimer s).trans (linkRel_calm.reply ..)
      · exact calm_startCommit b f s
  unfold commitEdit
  split
  · exact hopen _
  · exact linkRel_calm.reply ..
  · exact linkRel_calm.reply ..

/-! ### The other commands -/

theorem still_setPartState (asked : PartState) (f : Frame) (s : State) : Still s (setPartState asked f s) := by
  unfold setPartState
  split
  · exact linkRel_still.reply ..
  · split
    · exact (show Still s { s with oc := { s.oc with part := asked } } from ⟨rfl, rfl, rfl, rfl, rfl, rfl⟩).trans
        (linkRel_still.reply ..)
    · exact linkRel_still.reply ..

theorem still_takeTrim (id : ProfileId) (trim : Int) (f : Frame) (s : State) : Still s (takeTrim id trim f s) := by
  unfold takeTrim
  constructor <;> simp

theorem still_takeDerate (level : Nat) (f : Frame) (s : State) : Still s (takeDerate level f s) := by
  unfold takeDerate
  constructor <;> simp

theorem serene_takeRestart (f : Frame) (s : State) : Serene s (takeRestart f s) := by
  unfold takeRestart
  constructor <;> constructor <;> simp

theorem serene_intakeFrame (f : Frame) (s : State) : Serene s (intakeFrame f s) := by
  unfold intakeFrame
  split
  · exact (offLink_setIntake _ s).serene
  · dsimp only
    split <;> constructor <;> constructor <;> simp

theorem serene_completeCycle (r : Readings) (s : State) : Serene s (completeCycle r s) := by
  have hgive (ns : List Notice) (u : State) : Serene u (giveNotices ns u) := by
    unfold giveNotices
    split <;> constructor <;> constructor <;> simp
  have hsupply (c : SupplyCond) (u : State) : Serene u (announceSupply c u) :=
    ⟨⟨rfl, rfl, rfl, rfl, rfl, rfl⟩, ⟨rfl, rfl, rfl, rfl, rfl, rfl⟩⟩
  have hcycle (first : Bool) (u : State) : Serene u (announceCycle r first u) :=
    ⟨⟨rfl, rfl, rfl, rfl, rfl, rfl⟩, ⟨rfl, rfl, rfl, rfl, rfl, rfl⟩⟩
  have hfirst (first : Bool) (u : State) : Serene u (announceFirst first u) := by
    unfold announceFirst
    split <;> constructor <;> constructor <;> simp
  have hmu : Serene s { s with mu := completeMu (activeSettings s) r s.mu } :=
    ⟨⟨rfl, rfl, rfl, rfl, rfl, rfl⟩, ⟨rfl, rfl, rfl, rfl, rfl, rfl⟩⟩
  have hgiven := hmu.trans (hgive (completionNotices s.mu (completeMu (activeSettings s) r s.mu) r) _)
  unfold completeCycle
  dsimp only
  split
  · exact (hgiven.trans (hcycle _ _)).trans (hfirst _ _)
  · exact ((hgiven.trans (hsupply _ _)).trans (hcycle _ _)).trans (hfirst _ _)

/-- The end of the scan changes no queue, context, shadow or latch. -/
theorem still_endScan (disturbed : List (ObjId × CopyName)) (s : State) : Still s (endScan disturbed s) :=
  ⟨rfl, rfl, rfl, rfl, rfl, rfl⟩

/-- A commit's ends keep every block but the store, the link and the announcements. -/
structure CommitFrame (s t : State) : Prop extends Still s t where
  pending : t.pending = s.pending
  oc : t.oc = s.oc
  ce : t.ce = s.ce
  scanning : t.cs.scanning = s.cs.scanning

theorem CommitFrame.trans {s t u : State} (h : CommitFrame s t) (h' : CommitFrame t u) : CommitFrame s u :=
  ⟨h.toStill.trans h'.toStill, h'.pending.trans h.pending, h'.oc.trans h.oc, h'.ce.trans h.ce,
    h'.scanning.trans h.scanning⟩

theorem commitFrame_cs (cs : Cs) (s : State) (hscan : cs.scanning = s.cs.scanning) : CommitFrame s { s with cs := cs } :=
  ⟨⟨rfl, rfl, rfl, rfl, rfl, rfl⟩, rfl, rfl, rfl, hscan⟩

theorem commitFrame_announce (obj : ObjId) (before after : State) : CommitFrame after (announce obj before after) := by
  cases obj <;> exact ⟨⟨rfl, rfl, rfl, rfl, rfl, rfl⟩, rfl, rfl, rfl, rfl⟩

theorem commitFrame_of_offLink {s t : State} (h : OffLink s t) : CommitFrame s t :=
  ⟨h.calm.toStill, h.pending, h.oc, h.ce, by rw [h.cs]⟩

theorem commitFrame_activateCopy (c : Commit) (b : EditBuffer) (s : State) : CommitFrame s (activateCopy c b s) := by
  unfold activateCopy
  dsimp only
  split <;> exact commitFrame_cs _ s rfl

theorem commitFrame_commitVerified (c : Commit) (b : EditBuffer) (s : State) : CommitFrame s (commitVerified c b s) :=
  (((commitFrame_activateCopy c b s).trans (commitFrame_announce c.obj s _)).trans
    (commitFrame_cs { (announce c.obj s (activateCopy c b s)).cs with
      commit := none, session := .closed, buffer := none, editTimer := none } _ rfl)).trans
    (commitFrame_of_offLink (offLink_endPending ..))

theorem commitFrame_commitFailed (c : Commit) (s : State) : CommitFrame s (commitFailed c s) := by
  have hspoiled : CommitFrame s (resettle c.obj (modEntry c.obj (fun e => e.setInfo c.copy .damaged)
      { s with cs := { s.cs with store := spoilCopy c.obj c.copy false s.cs.store } })) := by
    unfold resettle
    split <;> exact commitFrame_cs _ s rfl
  have hanswered := hspoiled.trans
    (commitFrame_of_offLink (offLink_endPending .commit (replyPayload (some codeCommit) .storeFault (commitItems c)) _))
  unfold commitFailed
  dsimp only
  refine hanswered.trans ?_
  exact ⟨⟨rfl, rfl, rfl, rfl, rfl, rfl⟩, rfl, rfl, rfl, rfl⟩

/-! ### Command by command -/

theorem serene_cycleStart {s t : State} (h : exec .cycleStart s = .next t) : Serene s t := by
  cases h
  split
  · exact ⟨⟨rfl, rfl, rfl, rfl, rfl, rfl⟩, ⟨rfl, rfl, rfl, rfl, rfl, rfl⟩⟩
  · rfl

theorem serene_cycleCompletion {die : Word16} {remote : RemoteConversion} {vmon : Nat} {s t : State}
    (h : exec (.cycleCompletion die remote vmon) s = .next t) : Serene s t := by
  cases h
  split
  · exact (serene_advanceTo _ s).trans (serene_completeCycle _ _)
  · rfl

theorem serene_withheldNoticesAppend {s t : State} (h : exec .withheldNoticesAppend s = .next t) : Serene s t := by
  cases h
  dsimp only
  split
  · constructor <;> constructor <;> simp
  · rfl

theorem serene_damagedObjectNotices {s t : State} (h : exec .damagedObjectNotices s = .next t) : Serene s t := by
  cases h
  dsimp only
  split
  · constructor <;> constructor <;> simp
  · rfl

theorem serene_withheldOverrunNotice {s t : State} (h : exec .withheldOverrunNotice s = .next t) : Serene s t := by
  cases h
  dsimp only
  split
  · split <;> constructor <;> constructor <;> simp
  · rfl

theorem serene_supplyChangeAtCe {s t : State} (h : exec .supplyChangeAtCe s = .next t) : Serene s t := by
  cases h
  dsimp only
  split
  · exact ⟨⟨rfl, rfl, rfl, rfl, rfl, rfl⟩, ⟨rfl, rfl, rfl, rfl, rfl, rfl⟩⟩
  · rfl

theorem serene_recoveryTimerExpiry {s t : State} (h : exec .recoveryTimerExpiry s = .next t) : Serene s t := by
  cases h
  split
  · split
    · exact ⟨⟨rfl, rfl, rfl, rfl, rfl, rfl⟩, ⟨rfl, rfl, rfl, rfl, rfl, rfl⟩⟩
    · rfl
  · rfl

theorem calm_editTimerExpiry {s t : State} (h : exec .editTimerExpiry s = .next t) : Calm s t := by
  cases h
  split
  · split
    · exact ((serene_advanceTo _ s).calm.trans (calm_closeSession _)).trans (serene_postNotice ..).calm
    · rfl
  · rfl

theorem serene_requestFrameReceived {c : Byte} {s t : State} (h : exec (.requestFrameReceived c) s = .next t) : Serene s t := by
  cases h
  split
  · exact ((offLink_moveRx .hunt s).trans (offLink_deliverFrame none _)).serene.trans (serene_intakeFrame _ _)
  · rfl

theorem serene_ackReceived {c : Byte} {s t : State} (h : exec (.ackReceived c) s = .next t) : Serene s t := by
  cases h
  split
  · exact ((offLink_moveRx .hunt s).trans (offLink_deliverFrame _ _)).serene
  · rfl

theorem serene_invalidFrame {c : Byte} {framingError : Bool} {s t : State}
    (h : exec (.invalidFrame c framingError) s = .next t) : Serene s t := by
  cases h
  split
  · split
    · exact ((offLink_moveRx .hunt s).trans (offLink_deliverFrame none _)).serene
    · exact (offLink_moveRx .hunt s).serene
  · rfl

theorem serene_gapTimerExpiry {s t : State} (h : exec .gapTimerExpiry s = .next t) : Serene s t := by
  cases h
  split
  · exact (serene_advanceTo _ s).trans (offLink_moveRx .hunt _).serene
  · rfl

theorem serene_characterReceived {c : Byte} {framingError : Bool} {s t : State}
    (h : exec (.characterReceived c framingError) s = .next t) : Serene s t := by
  cases h
  split
  · split
    · rfl
    · exact (offLink_moveRx _ s).serene
  · rfl

theorem serene_noticeAppend {s t : State} (h : exec .noticeAppend s = .next t) : Serene s t := by
  cases h
  dsimp only
  split
  · constructor <;> constructor <;> simp
  · rfl

theorem serene_retransmitTimerExpiry {s t : State} (h : exec .retransmitTimerExpiry s = .next t) : Serene s t := by
  cases h
  split
  · exact (serene_advanceTo _ s).trans ((offLink_setNu _ _).trans (offLink_txChoose _)).serene
  · rfl

theorem serene_owedStop {s t : State} (h : exec .owedStop s = .next t) : Serene s t := by
  cases h
  dsimp only
  split
  · exact ⟨⟨rfl, rfl, rfl, rfl, rfl, rfl⟩, ⟨rfl, rfl, rfl, rfl, rfl, rfl⟩⟩
  · rfl

theorem serene_restart {s t : State} (h : exec .restart s = .next t) : Serene s t := by
  cases h
  refine linkRel_serene.request _ _ _ (fun a f u => ?_) s
  split
  · exact serene_takeRestart f u
  · exact linkRel_serene.reply ..

theorem serene_getProfile {s t : State} (h : exec .getProfile s = .next t) : Serene s t := by
  cases h
  refine linkRel_serene.request _ _ _ (fun a f u => ?_) s
  split <;> exact linkRel_serene.reply ..

theorem serene_getImage {s t : State} (h : exec .getImage s = .next t) : Serene s t := by
  cases h
  refine linkRel_serene.request _ _ _ (fun a f u => ?_) s
  split <;> exact linkRel_serene.reply ..

theorem serene_getStatus {derate : Bool} {s t : State} (h : exec (.getStatus derate) s = .next t) : Serene s t := by
  cases h
  exact linkRel_serene.dispatch _ (fun f u =>
    (offLink_sampleDerate derate u).serene.trans (linkRel_serene.judged _ _ (linkRel_serene.report statusContent) f _)) s

theorem calm_editShow {s t : State} (h : exec .editShow s = .next t) : Calm s t := by
  cases h
  refine linkRel_calm.dispatch _ (fun f u => ?_) s
  split
  · exact (calm_restartIfOpen u).trans (linkRel_calm.reply ..)
  · split
    · exact linkRel_calm.refuseState f u
    · exact calm_showEdit f u

/-- The commands that work on transfers or targets. -/
def worksOnTransfers : Instr → Bool
  | .slotSetUp _ | .cycleCompleteAtCe _ | .supplyChangeAtBm | .supplyRecoveryChecks | .slotInvalidation _
  | .profileActivation _ | .recordActivation _ | .recordRemoval | .imageActivation _ | .compensationFailureReport
  | .queueDeparture _ | .checkTimerExpiry _ | .faultHoldTimerExpiry _ _ | .transactionEnd _ _ | .recoverySequenceEnd _ _
  | .quietTimeEnd _ | .getShadow | .passNow _ | .targetAdmin _ | .manualRead | .manualWrite => true
  | _ => false

/-- The commands that reset the part, move it between its states, change a trim or a level, or end a scan or a commit. -/
def namesRegister : Instr → Bool
  | .powerOnReset | .pinReset | .resetRelease _ | .frameSent _ | .startUpScanEnd _ | .commitEnd _ | .endOfStart
  | .setMode | .setTrim | .setDerate _ => true
  | _ => false

/-- The commands that edit or close the edit session. -/
def editsSession : Instr → Bool
  | .editTimerExpiry | .editOpen | .editField | .editPoints | .editEntries | .editCount | .editRemove | .editShow
  | .editCommit | .editAbandon => true
  | _ => false

/-- A command of none of these kinds is serene. -/
theorem serene_exec {c : Instr} {s t : State} (hworks : worksOnTransfers c = false) (hnames : namesRegister c = false)
    (hedits : editsSession c = false) (h : exec c s = .next t) : Serene s t := by
  have hnext {u : State} (hu : Serene s u) (h : (.next u : Answer) = .next t) : Serene s t := by
    cases h
    exact hu
  cases c with
  | cycleStart => exact serene_cycleStart h
  | cycleCompletion die remote vmon => exact serene_cycleCompletion h
  | withheldNoticesAppend => exact serene_withheldNoticesAppend h
  | damagedObjectNotices => exact serene_damagedObjectNotices h
  | withheldOverrunNotice => exact serene_withheldOverrunNotice h
  | supplyChangeAtCe => exact serene_supplyChangeAtCe h
  | recoveryTimerExpiry => exact serene_recoveryTimerExpiry h
  | requestFrameReceived c => exact serene_requestFrameReceived h
  | ackReceived c => exact serene_ackReceived h
  | invalidFrame c framingError => exact serene_invalidFrame h
  | gapTimerExpiry => exact serene_gapTimerExpiry h
  | characterReceived c framingError => exact serene_characterReceived h
  | noticeAppend => exact serene_noticeAppend h
  | retransmitTimerExpiry => exact serene_retransmitTimerExpiry h
  | owedStop => exact serene_owedStop h
  | unknownRequest => exact hnext (linkRel_serene.dispatch _ (fun _ _ => linkRel_serene.reply ..) s) h
  | identify => exact hnext (linkRel_serene.request 0x01 _ _ (linkRel_serene.report fun _ => identifyContent) s) h
  | getStatus derate => exact serene_getStatus h
  | getMeasurements =>
    exact hnext (linkRel_serene.request 0x03 _ _ (linkRel_serene.report fun s => measurementsContent s.mu) s) h
  | getSettings => exact hnext (linkRel_serene.request 0x08 _ _ (linkRel_serene.report settingsContent) s) h
  | getTarget => exact hnext (linkRel_serene.request 0x04 _ _ (fun _ _ _ => linkRel_serene.reply ..) s) h
  | getProfile => exact serene_getProfile h
  | getImage => exact serene_getImage h
  | restart => exact serene_restart h
  | _ => simp [worksOnTransfers, namesRegister, editsSession] at hworks hnames hedits

/-- A command that edits is calm. -/
theorem calm_of_edits {c : Instr} {s t : State} (hc : editsSession c = true) (h : exec c s = .next t) : Calm s t := by
  have hnext {u : State} (hu : Calm s u) (h : (.next u : Answer) = .next t) : Calm s t := by
    cases h
    exact hu
  cases c with
  | editTimerExpiry => exact calm_editTimerExpiry h
  | editOpen => exact hnext (linkRel_calm.request 0x30 _ _ calm_openEdit s) h
  | editField => exact hnext (calm_editRequest 0x31 _ calm_editFieldBody s) h
  | editPoints => exact hnext (calm_editRequest 0x32 _ (fun _ _ _ _ => calm_changeBuffer ..) s) h
  | editEntries => exact hnext (calm_editRequest 0x33 _ (fun _ _ _ _ => calm_changeBuffer ..) s) h
  | editCount => exact hnext (calm_editRequest 0x34 _ (fun _ _ _ _ => calm_changeBuffer ..) s) h
  | editRemove => exact hnext (calm_editRequest 0x35 _ calm_editRemoveBody s) h
  | editShow => exact calm_editShow h
  | editCommit => exact hnext (linkRel_calm.request 0x37 _ _ calm_commitEdit s) h
  | editAbandon => exact hnext (linkRel_calm.request 0x38 _ _ calm_abandonEdit s) h
  | _ => simp [editsSession] at hc

theorem calm_exec {c : Instr} {s t : State} (hworks : worksOnTransfers c = false) (hnames : namesRegister c = false)
    (h : exec c s = .next t) : Calm s t := by
  cases hedits : editsSession c with
  | true => exact calm_of_edits hedits h
  | false => exact (serene_exec hworks hnames hedits h).calm

/-- A command that works on no transfer leaves queue, contexts, shadows and latches, or loses the volatile state. -/
theorem still_or_lost_exec {c : Instr} {s t : State} (hworks : worksOnTransfers c = false) (h : exec c s = .next t) :
    Still s t ∨ VolatileLost t := by
  have hnext {u : State} (hu : Still s u) (h : (.next u : Answer) = .next t) : Still s t ∨ VolatileLost t := by
    cases h
    exact .inl hu
  cases hnames : namesRegister c with
  | false => exact .inl (calm_exec hworks hnames h).toStill
  | true =>
    cases c with
    | powerOnReset =>
      cases h
      exact .inr (volatileLost_holdInReset ..)
    | pinReset =>
      cases h
      exact .inr (volatileLost_holdInReset ..)
    | resetRelease straps =>
      cases h
      split
      · exact .inr (volatileLost_resetEnded ..)
      · exact .inl (.refl s)
    | frameSent straps =>
      cases h
      dsimp only
      split
      · split
        · exact .inr (volatileLost_resetEnded ..)
        · exact .inl (by constructor <;> simp)
      · exact .inl (.refl s)
    | startUpScanEnd disturbed =>
      cases h
      split
      · exact .inl (still_endScan disturbed s)
      · exact .inl (.refl s)
    | commitEnd verified =>
      cases h
      dsimp only
      split
      · split
        · exact .inl ((serene_advanceTo _ s).toStill.trans (commitFrame_commitVerified _ _ _).toStill)
        · exact .inl ((serene_advanceTo _ s).toStill.trans (commitFrame_commitFailed _ _).toStill)
      · exact .inl (.refl s)
    | endOfStart =>
      cases h
      split
      · split
        · exact .inl ⟨rfl, rfl, rfl, rfl, rfl, rfl⟩
        · exact .inl (.refl s)
      · exact .inl (.refl s)
    | setMode =>
      refine hnext (linkRel_still.dispatch _ (fun f u => ?_) s) h
      split
      · exact linkRel_still.reply ..
      · exact still_setPartState _ f u
    | setTrim =>
      refine hnext (linkRel_still.request 0x11 _ _ (fun a f u => ?_) s) h
      split
      · exact still_takeTrim _ _ f u
      · exact linkRel_still.reply ..
    | setDerate derate =>
      refine hnext (linkRel_still.dispatch _ (fun f u => (offLink_sampleDerate derate u).calm.toStill.trans
        (linkRel_still.judged _ _ (fun a f u => ?_) f _)) s) h
      split
      · exact still_takeDerate _ f u
      · exact linkRel_still.reply ..
    | _ => simp [namesRegister] at hnames

end Sys2Proof.Machine
end

section
/-! What a command does that works on transfers or targets: `Works s t` says that `t` comes from `s` by evolving, by
grant decisions and by updates beside the queue and the link. -/

namespace Sys2Proof.Machine

/-- An update beside the queue, the link, the store, the operating control, the trims and the host level. -/
structure Beside (s t : State) : Prop where
  pending : t.pending = s.pending
  queue : t.bm.queue = s.bm.queue
  nextId : t.bm.nextId = s.bm.nextId
  cs : t.cs = s.cs
  oc : t.oc = s.oc
  hl : t.hl = s.hl
  nu : t.nu = s.nu
  alertN : t.pins.alertN = s.pins.alertN
  hrdy : t.pins.hrdy = s.pins.hrdy
  trims : t.ce.trims = s.ce.trims
  hostDerate : t.ce.hostDerate = s.ce.hostDerate

/-- One part of a command's work. -/
inductive Deed : State → State → Prop
  | evolve {s t : State} (h : Evolves Set.univ s t) : Deed s t
  | beside {s t : State} (h : Beside s t) : Deed s t
  | decide (s : State) : Deed s (grantDecision s)

/-- A command's work. -/
def Works : State → State → Prop := Relation.ReflTransGen Deed

/-- A grant changes queue, starvation count, speed and owed STOP at the Bus Master. -/
theorem grant_bm (g : Transfer) (s : State) : (grant g s).bm = { s.bm with
    queue := s.bm.queue.map (fun x => if x.id = g.id then { x with onBus := true } else x)
    starvation := starvationAfter s.bm.starvation (eligibleTransfers s) g
    speed := (activeSettings s).speed
    owedStop := false } := by
  simp [grant]

theorem grantReference_ce (g : Transfer) (s : State) : (grantReference g s).ce = { s.ce with
    shadows := (grantReference g s).ce.shadows
    latches := (grantReference g s).ce.latches } := by
  unfold grantReference
  split
  · rfl
  · rfl
  · unfold grantLatch
    dsimp only
    split <;> rfl
  · rfl

/-- A grant changes shadows and latches at the CE. -/
theorem grant_ce (g : Transfer) (s : State) : (grant g s).ce = { s.ce with
    shadows := (grant g s).ce.shadows
    latches := (grant g s).ce.latches } :=
  grantReference_ce g _

theorem grantDecision_ce (s : State) : (grantDecision s).ce = { s.ce with
    shadows := (grantDecision s).ce.shadows
    latches := (grantDecision s).ce.latches } := by
  rcases grantDecision_cases s with h | ⟨-, -, g, -, h⟩
  · rw [h]
  · rw [h, grant_ce]

section Rules
variable {S : Set Slot} {s t u : State}

@[refl] theorem Works.refl (s : State) : Works s s := Relation.ReflTransGen.refl

theorem Works.trans (h : Works s t) (h' : Works t u) : Works s u := Relation.ReflTransGen.trans h h'

theorem Evolves.works (h : Evolves S s t) : Works s t :=
  Relation.ReflTransGen.single (.evolve (h.mono (Set.subset_univ S)))

theorem Beside.works (h : Beside s t) : Works s t := Relation.ReflTransGen.single (.beside h)

theorem works_grantDecision (s : State) : Works s (grantDecision s) := Relation.ReflTransGen.single (.decide s)

theorem works_decideIfEnqueued (before s : State) : Works s (decideIfEnqueued before s) := by
  unfold decideIfEnqueued
  split
  · exact works_grantDecision s
  · rfl

/-- An invariant that every single deed keeps is kept by the work. -/
theorem Works.keeps {I : State → Prop} (hI : ∀ s t, Deed s t → I s → I t) (h : Works s t) (hs : I s) : I t := by
  induction h with
  | refl => exact hs
  | tail _ hdeed ih => exact hI _ _ hdeed ih

/-- Work leaves the Configuration Store, the part state, trims and levels. -/
theorem Works.rests (h : Works s t) : Rests s t := by
  induction h with
  | refl => exact .refl s
  | tail _ hdeed ih =>
    refine ih.trans ?_
    cases hdeed with
    | evolve h =>
      have hframed := h.framed
      exact ⟨hframed.pending, hframed.cs, by rw [hframed.oc], by rw [hframed.oc], by rw [hframed.ce], by rw [hframed.ce]⟩
    | beside h => exact ⟨h.pending, h.cs, by rw [h.oc], by rw [h.oc], h.trims, h.hostDerate⟩
    | decide => exact ⟨by simp, by simp, by simp, by simp, by rw [grantDecision_ce], by rw [grantDecision_ce]⟩

end Rules

/-! ### The bounds of the queue -/

theorem onBusTransfer_isNone {s : State} : (onBusTransfer s).isNone = true ↔ ∀ x ∈ s.bm.queue, x.onBus = false := by
  simp [onBusTransfer]

/-- A grant puts one transfer on an idle bus. -/
theorem oneOnBus_grant {s : State} {g : Transfer} (hidle : busIdle s = true) (h : OneOnBus s) : OneOnBus (grant g s) := by
  obtain ⟨hids, hlt, -⟩ := h
  simp only [busIdle, Bool.and_eq_true] at hidle
  have hfree := onBusTransfer_isNone.1 hidle.1
  have hids' (x : Transfer) : (if x.id = g.id then { x with onBus := true } else x).id = x.id := by split <;> rfl
  have hnext : (grant g s).bm.nextId = s.bm.nextId := by rw [grant_bm]
  refine ⟨?_, ?_, ?_⟩
  · simpa [List.pairwise_map, hids'] using hids
  · rw [hnext, grant_queue]
    simpa [hids'] using hlt
  · have hone : ((s.bm.queue.filter fun x => x.id == g.id).map Transfer.id).Nodup := by
      rw [List.Nodup, List.pairwise_map]
      exact hids.filter _
    have hbus : ∀ x ∈ s.bm.queue, (if x.id = g.id then { x with onBus := true } else x).onBus = (x.id == g.id) := by
      intro x hx
      by_cases hg : x.id = g.id <;> simp [hg, hfree x hx]
    rw [grant_queue, List.filter_map, List.length_map]
    rw [List.filter_congr (q := fun x => x.id == g.id) hbus]
    have hall : ∀ i ∈ (s.bm.queue.filter fun x => x.id == g.id).map Transfer.id, i = g.id := by
      intro i hi
      obtain ⟨x, hx, rfl⟩ := List.mem_map.1 hi
      simpa using (List.mem_filter.1 hx).2
    have hsub : ((s.bm.queue.filter fun x => x.id == g.id).map Transfer.id).length ≤ [g.id].length :=
      (hone.subperm fun i hi => by simp [hall i hi]).length_le
    simpa using hsub

theorem oneOnBus_grantDecision {s : State} (h : OneOnBus s) : OneOnBus (grantDecision s) := by
  rcases grantDecision_cases s with hsame | ⟨hidle, -, g, -, hgrant⟩
  · rwa [hsame]
  · rw [hgrant]
    exact oneOnBus_grant hidle h

theorem queueInv_grant {s : State} {g : Transfer} (hidle : busIdle s = true) (h : QueueInv s) : QueueInv (grant g s) := by
  have hcls (x : Transfer) : (if x.id = g.id then { x with onBus := true } else x).cls = x.cls := by split <;> rfl
  refine ⟨⟨by simpa using h.1.1, ?_⟩, oneOnBus_grant hidle h.2⟩
  simpa [countClass, List.filter_map, Function.comp_def, hcls] using h.1.2

theorem queueInv_grantDecision {s : State} (h : QueueInv s) : QueueInv (grantDecision s) := by
  rcases grantDecision_cases s with hsame | ⟨hidle, -, g, -, hgrant⟩
  · rwa [hsame]
  · rw [hgrant]
    exact queueInv_grant hidle h

theorem Works.queueInv {s t : State} (h : Works s t) (hs : QueueInv s) : QueueInv t := by
  refine h.keeps (fun s t hdeed hs => ?_) hs
  cases hdeed with
  | evolve h => exact h.queueInv hs
  | beside h => exact queueInv_of_bm h.queue h.nextId hs
  | decide => exact queueInv_grantDecision hs

/-! ### Deliveries and the ends of transactions -/

theorem works_sampleDerate (level : Bool) (s : State) : Works s (sampleDerate level s) :=
  Beside.works ⟨rfl, rfl, rfl, rfl, rfl, rfl, rfl, rfl, rfl, rfl, rfl⟩

theorem works_advanceTo (m : Nat) (s : State) : Works s (advanceTo m s) :=
  Beside.works ⟨rfl, rfl, rfl, rfl, rfl, rfl, rfl, rfl, rfl, rfl, rfl⟩

theorem works_msgs (m : Msgs) (s : State) : Works s { s with msgs := m } :=
  Beside.works ⟨rfl, rfl, rfl, rfl, rfl, rfl, rfl, rfl, rfl, rfl, rfl⟩

theorem works_bm {b : Bm} {s : State} (hq : b.queue = s.bm.queue) (hid : b.nextId = s.bm.nextId) :
    Works s { s with bm := b } :=
  Beside.works ⟨rfl, hq, hid, rfl, rfl, rfl, rfl, rfl, rfl, rfl, rfl⟩

theorem works_compensateOutcome (t : Transfer) (out : BusOutcome) (s : State) : Works s (compensateOutcome t out s) := by
  obtain ⟨u, hu, h | ⟨slot, h⟩⟩ := compensateOutcome_cases t out s <;> rw [h]
  · exact hu.works (S := ∅)
  · exact (hu.works (S := ∅)).trans (works_msgs _ u)

theorem works_deliver (t : Transfer) (out : BusOutcome) (bytes : List Byte) (s : State) :
    Works s (deliver t out bytes s) := by
  unfold deliver
  split
  · exact works_compensateOutcome t out s
  · unfold manualOutcome
    split <;> exact (evolves_endManual (S := ∅) ..).works
  · exact (evolves_stepOutcome t _ out bytes s).works
  · exact (evolves_stepOutcome t _ out bytes s).works
  · rfl
  · rfl

theorem works_finish (t : Transfer) (out : BusOutcome) (bytes : List Byte) (s : State) : Works s (finish t out bytes s) :=
  (evolves_depart (S := ∅) t.id s).works.trans (works_deliver t out bytes _)

theorem works_setQuiet (slot : Slot) (q : Option Nat) (s : State) : Works s (setQuiet slot q s) := works_bm rfl rfl

theorem works_startQuiet (t : Transfer) (s : State) : Works s (startQuiet t s) := by
  unfold startQuiet
  split
  · rfl
  · split
    · exact works_setQuiet ..
    · rfl

theorem works_returnTransfer (t : Transfer) (s : State) : Works s (returnTransfer t s) :=
  (evolves_returnTransfer (S := ∅) t s).works

theorem works_settle (t : Transfer) (out : BusOutcome) (bytes : List Byte) (s : State) : Works s (settle t out bytes s) := by
  unfold settle
  split
  · exact (works_startQuiet t s).trans (works_finish ..)
  · split
    · exact works_returnTransfer t s
    · exact works_finish ..

theorem works_endTransaction (t : Transfer) (r : BusResponse) (s : State) : Works s (endTransaction t r s) := by
  have hwire := works_bm (s := s) (b := { s.bm with wire := transactionWire t r }) rfl rfl
  have hcounted (u : State) : Works u (modTransfer t.id counted u) :=
    (evolves_modTransfer (S := ∅) (f := counted) (fun _ => ⟨rfl, rfl, rfl, rfl, rfl, fun h => h⟩) t.id u).works
  have howed (out : BusOutcome) (u : State) : Works u (oweStop out u) := by
    unfold oweStop
    split
    · exact works_bm rfl rfl
    · rfl
  unfold endTransaction
  dsimp only
  split
  · exact hwire.trans (works_bm rfl rfl)
  · exact (((hwire.trans (hcounted _)).trans (howed _ _)).trans (works_settle ..)).trans (works_grantDecision _)

theorem works_settleReleased (s : State) : Works s (settleReleased s) := by
  unfold settleReleased
  split
  · rfl
  · split
    · exact works_finish ..
    · exact works_returnTransfer ..

theorem works_settleStuck (t : Transfer) (s : State) : Works s (settleStuck t s) := by
  unfold settleStuck
  split
  · exact works_finish ..
  · split
    · exact works_finish ..
    · exact works_returnTransfer ..

theorem works_faultManuals (s : State) : Works s (faultManuals s) :=
  ((evolves_departWhere (S := ∅) waitingManual s).trans (evolves_faultAll _ _)).works

theorem works_postNotice (v : Severity) (c : NoticeContent) (s : State) : Works s (postNotice v c s) := works_msgs _ s

theorem works_enterBusFault (s : State) : Works s (enterBusFault s) := by
  have hcond : Works s (faultCondition s) := works_bm rfl rfl
  unfold enterBusFault
  split
  · exact hcond
  · exact ((hcond.trans (works_settleStuck ..)).trans (works_faultManuals _)).trans (works_postNotice ..)

theorem works_leaveBusFault (s : State) : Works s (leaveBusFault s) :=
  Beside.works ⟨rfl, rfl, rfl, rfl, rfl, rfl, rfl, rfl, rfl, rfl, rfl⟩

theorem works_endRecovery (run : RecoveryRun) (s : State) : Works s (endRecovery run s) := by
  have hended : Works s { s with bm := { s.bm with recovering := false, wire := recoveryWire run } } := works_bm rfl rfl
  unfold endRecovery
  dsimp only
  split
  · exact (hended.trans (works_settleReleased _)).trans (works_grantDecision _)
  · exact hended.trans (works_enterBusFault _)
  · exact (hended.trans (works_leaveBusFault _)).trans (works_grantDecision _)
  · exact hended.trans (works_bm rfl rfl)

theorem works_runPass (s : State) : Works s (runPass s).1 := by
  obtain ⟨u, hu, h⟩ := runPass_cases s
  have hcount : Works s { s with ce := { s.ce with passCount := s.ce.passCount + 1 } } :=
    Beside.works ⟨rfl, rfl, rfl, rfl, rfl, rfl, rfl, rfl, rfl, rfl, rfl⟩
  rw [h]
  exact (hcount.trans hu.works).trans (works_decideIfEnqueued s u)

/-! ### The happenings -/

/-- A profile's change evolves the part once its trim is settled. -/
theorem takeProfileChange_cases (c : ProfileChange) (s : State) :
    ∃ trims, Evolves Set.univ { s with ce := { s.ce with trims := trims } } (takeProfileChange c s) := by
  have hchange (u : State) : Evolves Set.univ u
      (if invalidates c.before c.after then invalidateProfile c.id u else keepProfile c.id c.after u) := by
    split
    · exact evolves_invalidateProfile ..
    · exact evolves_keepProfile ..
  by_cases hremoved : c.after.isNone = true
  · refine ⟨s.ce.trims.set c.id 0, ?_⟩
    rw [takeProfileChange, if_pos hremoved]
    exact hchange (setTrimOf c.id 0 s)
  · refine ⟨s.ce.trims, ?_⟩
    rw [takeProfileChange, if_neg hremoved]
    exact hchange s

/-- The commands that are no request and change no trim, but work on transfers or targets. -/
def worksAlone : Instr → Bool
  | .profileActivation _ | .getShadow | .passNow _ | .targetAdmin _ | .manualRead | .manualWrite => false
  | c => worksOnTransfers c

theorem works_exec {c : Instr} {s t : State} (hc : worksAlone c = true) (h : exec c s = .next t) : Works s t := by
  cases c with
  | slotSetUp derate =>
    cases h
    split
    · exact (((works_msgs _ s).trans (works_sampleDerate derate _)).trans (evolves_setUpSlots ..).works).trans
        (works_decideIfEnqueued ..)
    · rfl
  | cycleCompleteAtCe derate =>
    cases h
    have htaken : Works s (sampleDerate derate (takeCeMu s)) := (works_msgs _ s).trans (works_sampleDerate derate _)
    split
    · split
      · exact htaken.trans (works_runPass _)
      · exact htaken
    · rfl
  | supplyChangeAtBm =>
    cases h
    split
    · rename_i c rest _
      have htaken : Works s { s with bm := { s.bm with supply := c }, msgs := { s.msgs with bmSupply := rest } } :=
        Beside.works ⟨rfl, rfl, rfl, rfl, rfl, rfl, rfl, rfl, rfl, rfl, rfl⟩
      cases c with
      | normal => exact htaken.trans (works_grantDecision _)
      | low => exact htaken
    · rfl
  | supplyRecoveryChecks =>
    cases h
    split
    · rename_i c rest _
      cases c with
      | normal => exact ((works_msgs _ s).trans (evolves_recoveryChecks ..).works).trans (works_decideIfEnqueued ..)
      | low => exact works_msgs _ s
    · rfl
  | slotInvalidation slot =>
    cases h
    exact (evolves_settleInvalidation (S := ∅) slot s).works
  | recordActivation derate =>
    cases h
    split
    · exact (((works_msgs _ s).trans (works_sampleDerate derate _)).trans (evolves_takeRecord ..).works).trans
        (works_decideIfEnqueued ..)
    · rfl
  | recordRemoval =>
    cases h
    split
    · exact (works_msgs _ s).trans (evolves_takeRemoval ..).works
    · rfl
  | imageActivation derate =>
    cases h
    split
    · have htaken : Works s (sampleDerate derate (takeTmStore s)) := (works_msgs _ s).trans (works_sampleDerate derate _)
      dsimp only
      split
      · exact (htaken.trans (evolves_activationProbe ..).works).trans (works_decideIfEnqueued ..)
      · exact htaken
    · rfl
  | compensationFailureReport =>
    cases h
    split
    · dsimp only
      split
      · exact (works_msgs _ s).trans (evolves_enterFaultHold ..).works
      · exact works_msgs _ s
    · rfl
  | queueDeparture derate =>
    cases h
    split
    · rfl
    · exact (((works_msgs _ s).trans (works_sampleDerate derate _)).trans (evolves_retrySteps ..).works).trans
        (works_decideIfEnqueued ..)
  | checkTimerExpiry slot =>
    cases h
    split
    · exact ((works_advanceTo _ s).trans (evolves_startCheck ..).works).trans (works_decideIfEnqueued ..)
    · rfl
  | faultHoldTimerExpiry slot derate =>
    cases h
    split
    · exact (((works_advanceTo _ s).trans (works_sampleDerate derate _)).trans (evolves_holdExpired ..).works).trans
        (works_decideIfEnqueued ..)
    · rfl
  | transactionEnd response derate =>
    cases h
    split
    · split
      · rfl
      · exact (works_sampleDerate derate s).trans (works_endTransaction ..)
    · rfl
  | recoverySequenceEnd run derate =>
    cases h
    split
    · exact (works_sampleDerate derate s).trans (works_endRecovery ..)
    · rfl
  | quietTimeEnd slot =>
    cases h
    split
    · exact ((works_advanceTo _ s).trans (works_setQuiet ..)).trans (works_grantDecision _)
    · rfl
  | _ => simp [worksAlone, worksOnTransfers] at hc

/-- A profile activation works once the announcement is taken, the input sampled and the trim settled. -/
theorem works_profileActivation {derate : Bool} {s t : State} (h : exec (.profileActivation derate) s = .next t) :
    t = s ∨ ∃ trims rest, Works { s with
      ce := { s.ce with trims := trims }
      pins := { s.pins with derate := derate }
      msgs := { s.msgs with ceProfile := rest } } t := by
  cases h
  split
  · rename_i c rest _
    obtain ⟨trims, h⟩ := takeProfileChange_cases c (sampleDerate derate { s with msgs := { s.msgs with ceProfile := rest } })
    exact .inr ⟨trims, rest, h.works.trans (works_decideIfEnqueued ..)⟩
  · exact .inl rfl

/-! ### The requests that work on transfers -/

/-- A relation that changes of the link and work meet and that composes. -/
structure WorkRel (R : State → State → Prop) : Prop extends LinkRel R where
  works : ∀ {s t}, Works s t → R s t

section Requests
variable {R : State → State → Prop}

theorem WorkRel.admin (hR : WorkRel R) (slot : Slot) (a : Action) (f : Frame) (s : State) : R s (admin slot a f s) := by
  unfold Machine.admin
  split
  · exact hR.reply ..
  · split
    · exact hR.reply ..
    · exact hR.reply ..
    · exact hR.trans (hR.reply ..) (hR.works ((evolves_actOn a slot _).works.trans (works_decideIfEnqueued s _)))

theorem WorkRel.passReply (hR : WorkRel R) (a : Unit) (f : Frame) (s : State) : R s (passReply a f s) := by
  unfold Machine.passReply
  exact hR.trans (hR.works (works_runPass s)) (hR.reply ..)

theorem WorkRel.enqueueManual (hR : WorkRel R) (d : Dir) (a : ManualArgs) (addr : Byte) (f : Frame) (s : State) :
    R s (enqueueManual d a addr f s) := by
  have hrefused (r : Result) (content : List Byte) : R s (refuseManual f r content s) := hR.reply ..
  unfold Machine.enqueueManual
  split
  · exact hrefused _ _
  · split
    · exact hrefused _ _
    · exact hrefused _ _
    · rename_i hroom
      refine hR.trans (hR.offLink (offLink_addPending f (.transfer s.bm.nextId) s)) (hR.works ?_)
      have hplace : refuseEnqueue (manualRequest d a addr f.tag).origin.cls (addPending f (.transfer s.bm.nextId) s) = none :=
        hroom
      exact (evolves_addTransfer (S := ∅) hplace).works.trans (works_grantDecision _)

theorem WorkRel.manual (hR : WorkRel R) (d : Dir) (parsed : Option ManualArgs) (f : Frame) (s : State) :
    R s (manual d parsed f s) := by
  have hrefused (r : Result) (content : List Byte) : R s (refuseManual f r content s) := hR.reply ..
  unfold Machine.manual
  split
  · exact hrefused _ _
  · split
    · exact hrefused _ _
    · split
      · exact hrefused _ _
      · unfold admitManual
        split <;> split
        · exact hR.enqueueManual ..
        · exact hrefused _ _
        · exact hrefused _ _
        · exact hR.enqueueManual ..

/-- A command that works on transfers meets the relation, but for PROFILE_ACTIVATION, which may clear a trim. -/
theorem WorkRel.exec (hR : WorkRel R) {c : Instr} {s t : State} (hc : worksOnTransfers c = true)
    (hprofile : ∀ d, c ≠ .profileActivation d) (h : exec c s = .next t) : R s t := by
  cases halone : worksAlone c with
  | true => exact hR.works (works_exec halone h)
  | false =>
    cases c with
    | profileActivation derate => exact absurd rfl (hprofile derate)
    | getShadow =>
      cases h
      refine hR.request _ _ _ (fun b f u => ?_) s
      split
      · exact hR.trans (hR.works (evolves_settleInvalidations (S := ∅) _ u).works) (hR.reply ..)
      · exact hR.reply ..
    | passNow derate =>
      cases h
      refine hR.dispatch _ (fun f u => ?_) s
      exact hR.trans (hR.offLink (offLink_sampleDerate derate u)) (hR.judged _ _ hR.passReply f _)
    | targetAdmin derate =>
      cases h
      refine hR.dispatch _ (fun f u => ?_) s
      split
      · exact hR.reply ..
      · exact hR.trans (hR.offLink (offLink_sampleDerate derate u)) (hR.admin ..)
    | manualRead =>
      cases h
      exact hR.dispatch _ (fun f u => hR.manual ..) s
    | manualWrite =>
      cases h
      exact hR.dispatch _ (fun f u => hR.manual ..) s
    | _ => simp_all [worksAlone, worksOnTransfers]

end Requests

theorem workRel_queueInv : WorkRel (fun s t => QueueInv s → QueueInv t) where
  offLink h := queueInv_of_still h.serene.toStill
  trans h h' := h' ∘ h
  works h := h.queueInv

theorem workRel_rests : WorkRel Rests := ⟨⟨fun h => h.serene.toRests, Rests.trans⟩, Works.rests⟩

theorem queueInv_exec {c : Instr} {s t : State} (hs : QueueInv s) (h : exec c s = .next t) : QueueInv t := by
  cases hworks : worksOnTransfers c with
  | false =>
    rcases still_or_lost_exec hworks h with hstill | hlost
    · exact queueInv_of_still hstill hs
    · simp [QueueInv, QueueBounded, OneOnBus, hlost.bm, Bm.reset, countClass]
  | true =>
    by_cases hprofile : ∃ d, c = .profileActivation d
    · obtain ⟨d, rfl⟩ := hprofile
      obtain rfl | ⟨trims, rest, hw⟩ := works_profileActivation h
      · exact hs
      · exact hw.queueInv (queueInv_of_bm rfl rfl hs)
    · exact workRel_queueInv.exec hworks (fun d hd => hprofile ⟨d, hd⟩) h hs

/-! ### A step -/

/-- A step runs a command on a state that differs in the queue of commands alone, or idles. -/
theorem step_cases {s t : State} (h : step s = .next t) :
    t = idle s ∨ ∃ c rest, exec c { s with pending := rest } = .next t := by
  unfold step at h
  split at h
  · cases h
    exact .inl rfl
  · exact .inr ⟨_, _, h⟩

/-- Settles O55: every deed of a command keeps the bounds; a grant finds the bus idle. -/
theorem everyStepKeepsQueueBounds : Obligations.EveryStepKeepsQueueBounds := by
  intro s t hbounded hone hstep
  have hs : QueueInv s := ⟨hbounded, hone⟩
  rcases step_cases hstep with rfl | ⟨c, rest, hexec⟩
  · exact queueInv_of_bm rfl rfl hs
  · exact queueInv_exec (s := { s with pending := rest }) (queueInv_of_bm rfl rfl hs) hexec

end Sys2Proof.Machine
end

section
/-! What a command leaves that does not name it: copies, part state, trims and levels. -/

namespace Sys2Proof.Machine

/-- A profile activation changes trims alone of what `Steady` names. -/
theorem profileActivation_steady {derate : Bool} {s t : State} (h : exec (.profileActivation derate) s = .next t) :
    t.pending = s.pending ∧ t.cs.store = s.cs.store
      ∧ (∀ obj, (t.cs.dir.entry obj).active = (s.cs.dir.entry obj).active) ∧ t.oc.part = s.oc.part
      ∧ t.ce.hostDerate = s.ce.hostDerate := by
  obtain rfl | ⟨trims, rest, hw⟩ := works_profileActivation h
  · exact ⟨rfl, rfl, fun _ => rfl, rfl, rfl⟩
  · obtain ⟨hpending, hstore, hactives, hpart, -, hderate⟩ := hw.rests.steady
    exact ⟨hpending, hstore, hactives, hpart, hderate⟩

/-! ### The commands that name a register -/

/-- What holds of a state that differs on the link alone, and of every execution of a taken request, holds after a
dispatch. -/
theorem dispatch_induction {P : State → Prop} {names : Option Byte → Bool} {body : Frame → State → State} {s : State}
    (hlink : ∀ t, OffLink s t → P t) (hbody : ∀ f u, OffLink s u → P (body f u)) : P (dispatch names body s) := by
  rcases dispatch_offLink_or_body names body s with hu | ⟨f, u, -, hu, heq⟩
  · exact hlink _ hu
  · exact heq ▸ hbody f u hu

/-- SET_MODE leaves all but the part state, and leaves SAFE. -/
theorem setMode_keeps {s t : State} (h : exec .setMode s = .next t) :
    t.pending = s.pending ∧ t.cs = s.cs ∧ t.ce = s.ce ∧ (s.oc.part = .safe → t.oc.part = .safe) := by
  have hbody (asked : PartState) (f : Frame) (u : State) :
      (setPartState asked f u).pending = u.pending ∧ (setPartState asked f u).cs = u.cs
        ∧ (setPartState asked f u).ce = u.ce ∧ (u.oc.part = .safe → (setPartState asked f u).oc.part = .safe) := by
    unfold setPartState
    split
    · simp
    · rename_i hpart
      split
      · simp_all
      · simp
  cases h
  refine dispatch_induction (P := fun t => t.pending = s.pending ∧ t.cs = s.cs ∧ t.ce = s.ce
    ∧ (s.oc.part = .safe → t.oc.part = .safe)) (fun t hu => ?_) (fun f u hu => ?_)
  · exact ⟨hu.pending, hu.cs, hu.ce, fun hsafe => by rw [hu.oc, hsafe]⟩
  · rw [← hu.pending, ← hu.cs, ← hu.ce, ← hu.oc]
    split
    · simp
    · exact hbody _ f u

theorem setTrim_keeps {s t : State} (h : exec .setTrim s = .next t) :
    t.pending = s.pending ∧ t.cs = s.cs ∧ t.oc = s.oc ∧ t.ce.hostDerate = s.ce.hostDerate := by
  cases h
  refine dispatch_induction (P := fun t => t.pending = s.pending ∧ t.cs = s.cs ∧ t.oc = s.oc
    ∧ t.ce.hostDerate = s.ce.hostDerate) (fun t hu => ?_) (fun f u hu => ?_)
  · exact ⟨hu.pending, hu.cs, hu.oc, by rw [hu.ce]⟩
  · rw [← hu.pending, ← hu.cs, ← hu.oc, ← hu.ce]
    unfold judged
    split
    · simp
    · split
      · dsimp only
        split
        · simp [takeTrim]
        · simp
      · simp

theorem setDerate_keeps {derate : Bool} {s t : State} (h : exec (.setDerate derate) s = .next t) :
    t.pending = s.pending ∧ t.cs = s.cs ∧ t.oc = s.oc ∧ t.ce.trims = s.ce.trims := by
  cases h
  refine dispatch_induction (P := fun t => t.pending = s.pending ∧ t.cs = s.cs ∧ t.oc = s.oc
    ∧ t.ce.trims = s.ce.trims) (fun t hu => ?_) (fun f u hu => ?_)
  · exact ⟨hu.pending, hu.cs, hu.oc, by rw [hu.ce]⟩
  · rw [← hu.pending, ← hu.cs, ← hu.oc, ← hu.ce]
    unfold judged
    split
    · simp
    · split
      · dsimp only
        split
        · simp [takeDerate]
        · simp
      · simp

theorem startUpScanEnd_keeps {disturbed : List (ObjId × CopyName)} {s t : State}
    (h : exec (.startUpScanEnd disturbed) s = .next t) :
    t.pending = s.pending ∧ t.oc.part = s.oc.part ∧ t.ce = s.ce := by
  cases h
  split
  · exact ⟨rfl, rfl, rfl⟩
  · exact ⟨rfl, rfl, rfl⟩

theorem commitEnd_keeps {verified : Bool} {s t : State} (h : exec (.commitEnd verified) s = .next t) :
    t.pending = s.pending ∧ t.oc = s.oc ∧ t.ce = s.ce := by
  cases h
  split
  · dsimp only
    split
    · obtain ⟨-, hpending, hoc, hce, -⟩ := commitFrame_commitVerified ‹_› ‹_› (advanceTo _ s)
      exact ⟨hpending, hoc, hce⟩
    · obtain ⟨-, hpending, hoc, hce, -⟩ := commitFrame_commitFailed ‹_› (advanceTo _ s)
      exact ⟨hpending, hoc, hce⟩
  · exact ⟨rfl, rfl, rfl⟩

theorem endOfStart_keeps {s t : State} (h : exec .endOfStart s = .next t) :
    t.pending = s.pending ∧ t.cs = s.cs ∧ t.ce = s.ce ∧ (s.oc.part ≠ .start → t = s) := by
  cases h
  split
  · split
    · rename_i hstart
      exact ⟨rfl, rfl, rfl, fun hne => absurd hstart.1 hne⟩
    · exact ⟨rfl, rfl, rfl, fun _ => rfl⟩
  · exact ⟨rfl, rfl, rfl, fun _ => rfl⟩

theorem frameSent_pending {straps : BitVec 2} {s t : State} (h : exec (.frameSent straps) s = .next t) :
    t.pending = s.pending := by
  cases h
  split
  · split
    · rfl
    · simp
  · rfl

theorem resetRelease_pending {straps : BitVec 2} {s t : State} (h : exec (.resetRelease straps) s = .next t) :
    t.pending = s.pending := by
  cases h
  split <;> rfl

/-- Every command answers a next state. -/
theorem exec_next (c : Instr) (s : State) : ∃ t, exec c s = .next t := by
  cases c <;> exact ⟨_, rfl⟩

/-- What O60 says of a command's next state. -/
def KeptUnlessNamed (c : Instr) (s t : State) : Prop :=
  let resets : Prop := c = .powerOnReset ∨ c = .pinReset ∨ (∃ straps, c = .resetRelease straps) ∨ ∃ straps, c = .frameSent straps
  t.pending = s.pending
  ∧ (resets ∨ (∃ d, c = .startUpScanEnd d) ∨ (∃ v, c = .commitEnd v)
      ∨ (t.cs.store = s.cs.store ∧ ∀ obj, (t.cs.dir.entry obj).active = (s.cs.dir.entry obj).active))
  ∧ (resets ∨ c = .endOfStart ∨ c = .setMode ∨ t.oc.part = s.oc.part)
  ∧ (s.oc.part = .safe → resets ∨ t.oc.part = .safe)
  ∧ (resets ∨ c = .setTrim ∨ (∃ d, c = .profileActivation d) ∨ t.ce.trims = s.ce.trims)
  ∧ (resets ∨ (∃ d, c = .setDerate d) ∨ t.ce.hostDerate = s.ce.hostDerate)

theorem keptUnlessNamed_of_steady {c : Instr} {s t : State} (h : Steady s t) : KeptUnlessNamed c s t :=
  ⟨h.pending, .inr (.inr (.inr ⟨h.store, h.actives⟩)), .inr (.inr (.inr h.part)), fun hsafe => .inr (h.part.trans hsafe),
    .inr (.inr (.inr h.trims)), .inr (.inr h.hostDerate)⟩

/-- A command that names a register changes that register alone. -/
theorem keptUnlessNamed_of_names {c : Instr} {s t : State} (hc : namesRegister c = true) (h : exec c s = .next t) :
    KeptUnlessNamed c s t := by
  cases c with
  | powerOnReset =>
    cases h
    exact ⟨rfl, .inl (.inl rfl), .inl (.inl rfl), fun _ => .inl (.inl rfl), .inl (.inl rfl), .inl (.inl rfl)⟩
  | pinReset =>
    cases h
    exact ⟨rfl, .inl (.inr (.inl rfl)), .inl (.inr (.inl rfl)), fun _ => .inl (.inr (.inl rfl)), .inl (.inr (.inl rfl)),
      .inl (.inr (.inl rfl))⟩
  | resetRelease straps =>
    simp [KeptUnlessNamed, resetRelease_pending h]
  | frameSent straps =>
    simp [KeptUnlessNamed, frameSent_pending h]
  | startUpScanEnd disturbed =>
    obtain ⟨hpending, hpart, hce⟩ := startUpScanEnd_keeps h
    simp +contextual [KeptUnlessNamed, hpending, hpart, hce]
  | commitEnd verified =>
    obtain ⟨hpending, hoc, hce⟩ := commitEnd_keeps h
    simp +contextual [KeptUnlessNamed, hpending, hoc, hce]
  | endOfStart =>
    obtain ⟨hpending, hcs, hce, hsame⟩ := endOfStart_keeps h
    have hsafe (hsafe : s.oc.part = .safe) : t.oc.part = .safe := by rw [hsame (by simp [hsafe]), hsafe]
    simp +contextual [KeptUnlessNamed, hpending, hcs, hce, hsafe]
  | setMode =>
    obtain ⟨hpending, hcs, hce, hsafe⟩ := setMode_keeps h
    simp +contextual [KeptUnlessNamed, hpending, hcs, hce, hsafe]
  | setTrim =>
    obtain ⟨hpending, hcs, hoc, hderate⟩ := setTrim_keeps h
    simp +contextual [KeptUnlessNamed, hpending, hcs, hoc, hderate]
  | setDerate derate =>
    obtain ⟨hpending, hcs, hoc, htrims⟩ := setDerate_keeps h
    simp +contextual [KeptUnlessNamed, hpending, hcs, hoc, htrims]
  | _ => simp [namesRegister] at hc

/-- Settles O60: a command of neither kind is calm, the work on transfers is beside the store, and the commands left
over change the register they name. -/
theorem everyCommandKeepsWhatItDoesNotName : Obligations.EveryCommandKeepsWhatItDoesNotName := by
  intro c s
  obtain ⟨t, h⟩ := exec_next c s
  refine gives_of_next h ?_
  change KeptUnlessNamed c s t
  cases hnames : namesRegister c with
  | true => exact keptUnlessNamed_of_names hnames h
  | false =>
    cases hworks : worksOnTransfers c with
    | false => exact keptUnlessNamed_of_steady (calm_exec hworks hnames h).toSteady
    | true =>
      by_cases hprofile : ∃ d, c = .profileActivation d
      · obtain ⟨d, rfl⟩ := hprofile
        obtain ⟨hpending, hstore, hactives, hpart, hderate⟩ := profileActivation_steady h
        simp +contextual [KeptUnlessNamed, hpending, hstore, hactives, hpart, hderate]
      · exact keptUnlessNamed_of_steady (workRel_rests.exec hworks (fun d hd => hprofile ⟨d, hd⟩) h).steady

end Sys2Proof.Machine
end

section
/-! The configuration store: what the operations do to each copy, and that every step keeps the store law. -/

namespace Sys2Proof.Machine

/-! ### One copy written or spoiled -/

theorem Copies.pick_setCopyOf {α : Type} (n m : CopyName) (c : Copy α) (cs : Copies α) :
    (setCopyOf n c cs).pick m = if m = n then c else cs.pick m := by
  cases n <;> cases m <;> rfl

theorem Copies.pick_set {α : Type} {k : Nat} (v : Vector (Copies α) k) (i j : Fin k) (n m : CopyName) (c : Copy α) :
    (v.set i (setCopyOf n c v[i]))[j].pick m = if j = i ∧ m = n then c else v[j].pick m := by
  by_cases hij : j = i
  · subst hij
    simp [Copies.pick_setCopyOf]
  · have hne : (i : Nat) ≠ j := fun h => hij (Fin.ext h.symm)
    simp [hij, hne]

/-- A copy after one copy is cut or spoiled. -/
theorem spoilCopy_copyAt (obj o : ObjId) (n m : CopyName) (early : Bool) (st : Store) :
    (spoilCopy obj n early st).copyAt o m = if o = obj ∧ m = n then cutCopy early else st.copyAt o m := by
  have hcut {α : Type} (f : α → Content) : (cutCopy early : Copy α).mapContent f = cutCopy early := by
    cases early <;> rfl
  cases obj <;> cases o <;>
    simp only [spoilCopy, Store.copyAt, Copies.pick_set, Copies.pick_setCopyOf, ObjId.target.injEq, ObjId.image.injEq,
      ObjId.profile.injEq, reduceCtorEq, false_and, if_false, true_and] <;>
    split <;> simp only [hcut]

/-- The content kind a copy of the object takes. -/
def contentFits (obj : ObjId) (c : BufferContent) : Bool := EditBuffer.fits ⟨obj, false, false, c⟩

theorem EditBuffer.fits_eq (b : EditBuffer) : b.fits = contentFits b.obj b.content := rfl

/-- The copy a commit writes: the content, or a tombstone. -/
def writtenCopy (gen : Word16) (removal : Bool) (c : BufferContent) : Copy Content :=
  if removal then .removed gen else .valid gen c.stored

/-- A copy after one copy is written with a content of its kind. -/
theorem writeCopy_copyAt {obj : ObjId} {c : BufferContent} (hfits : contentFits obj c = true) (o : ObjId)
    (n m : CopyName) (gen : Word16) (removal : Bool) (st : Store) :
    (writeCopy obj n gen removal c.stored st).copyAt o m =
      if o = obj ∧ m = n then writtenCopy gen removal c else st.copyAt o m := by
  have hwritten {α : Type} (f : α → Content) (x : α) :
      (if removal then .removed gen else .valid gen x : Copy α).mapContent f
        = if removal then .removed gen else .valid gen (f x) := by
    split <;> rfl
  cases obj <;> cases c <;> simp only [contentFits, EditBuffer.fits, reduceCtorEq] at hfits <;> cases o <;>
    simp only [writeCopy, BufferContent.stored, writtenCopy, Store.copyAt, Copies.pick_set, Copies.pick_setCopyOf,
      ObjId.target.injEq, ObjId.image.injEq, ObjId.profile.injEq, reduceCtorEq, false_and, if_false, true_and] <;>
    split <;> simp only [hwritten]

/-! ### Edits keep the buffer's kind -/

/-- Two contents of one kind. -/
def SameKind (c d : BufferContent) : Prop := ∀ obj, contentFits obj d = contentFits obj c

theorem sameKind_setField {c d : BufferContent} {num : Nat} {bs : List Byte} (h : setField c num bs = some d) :
    SameKind c d := by
  cases c with
  | settings x =>
    obtain ⟨y, -, rfl⟩ := Option.map_eq_some_iff.1 h
    exact fun obj => by cases obj <;> rfl
  | target r =>
    obtain ⟨y, -, rfl⟩ := Option.map_eq_some_iff.1 h
    exact fun obj => by cases obj <;> rfl
  | image n ps => cases h
  | profile hd n ps =>
    obtain ⟨y, -, rfl⟩ := Option.map_eq_some_iff.1 h
    exact fun obj => by cases obj <;> rfl

theorem sameKind_clearField {c d : BufferContent} {num : Nat} (h : clearField c num = some d) : SameKind c d := by
  unfold clearField at h
  split at h <;> cases h <;> exact fun obj => by cases obj <;> rfl

theorem sameKind_setCount {c d : BufferContent} {n : Nat} (h : setCount n c = some d) : SameKind c d := by
  cases c <;> cases h <;> exact fun obj => by cases obj <;> rfl

theorem sameKind_putPoints {c d : BufferContent} {start : Nat} {items : List Point} (h : putPoints start items c = some d) :
    SameKind c d := by
  unfold putPoints at h
  split at h
  · split at h <;> cases h
    exact fun obj => by cases obj <;> rfl
  · cases h

theorem sameKind_putEntries {c d : BufferContent} {start : Nat} {items : List ImageEntry}
    (h : putEntries start items c = some d) : SameKind c d := by
  unfold putEntries at h
  split at h
  · split at h <;> cases h
    exact fun obj => by cases obj <;> rfl
  · cases h

theorem openBuffer_fits (s : State) (obj : ObjId) : (openBuffer s obj).fits = true := by
  unfold openBuffer
  split
  · rename_i c hc
    cases obj <;> obtain ⟨x, -, rfl⟩ := Option.map_eq_some_iff.1 hc <;> rfl
  · cases obj <;> rfl

theorem openBuffer_obj (s : State) (obj : ObjId) : (openBuffer s obj).obj = obj := by
  unfold openBuffer
  split <;> rfl

/-! ### The store law -/

/-- The store law speaks of the Configuration Store, and of part state and scan result while the scan runs. -/
theorem storeLaw_of_cs {s t : State} (hcs : t.cs = s.cs)
    (hoc : s.cs.scanning = true → s.oc.part = .start ∧ s.oc.scanResult = none → t.oc.part = .start ∧ t.oc.scanResult = none)
    (h : StoreLaw s) : StoreLaw t := by
  obtain ⟨haside, hcommitting, hfits, hscan, hvalid⟩ := h
  refine ⟨hcs ▸ haside, hcs ▸ hcommitting, hcs ▸ hfits, fun hs => ?_, hcs ▸ hvalid⟩
  rw [hcs] at hs ⊢
  obtain ⟨hpart, hresult, hclosed, hnone⟩ := hscan hs
  obtain ⟨hpart', hresult'⟩ := hoc hs ⟨hpart, hresult⟩
  exact ⟨hpart', hresult', hclosed, hnone⟩

theorem storeLaw_of_rests {s t : State} (h : Rests s t) (hs : StoreLaw s) : StoreLaw t :=
  storeLaw_of_cs h.cs (fun _ ⟨hpart, hresult⟩ => ⟨h.part.trans hpart, h.scanResult.trans hresult⟩) hs

theorem linkRel_storeLaw : LinkRel (fun s t => StoreLaw s → StoreLaw t) :=
  ⟨fun h => storeLaw_of_rests h.serene.toRests, fun h h' => h' ∘ h⟩

theorem StoreLaw.no_commit {s : State} (h : StoreLaw s) (hne : s.cs.session ≠ .committing) : s.cs.commit = none := by
  by_contra hsome
  obtain ⟨c, hc⟩ := Option.ne_none_iff_exists'.1 hsome
  exact hne (h.commitAside c hc).1

theorem StoreLaw.not_scanning {s : State} (h : StoreLaw s) (hne : s.cs.session ≠ .closed) : s.cs.scanning = false := by
  by_contra hs
  obtain ⟨-, -, hclosed, -⟩ := h.scanFirst (by simpa using hs)
  exact hne hclosed

/-- The store law of a part whose session is not COMMITTING and that has no commit. -/
theorem storeLaw_idle {s : State} (hcommit : s.cs.commit = none) (hsession : s.cs.session ≠ .committing)
    (hfits : ∀ b, s.cs.buffer = some b → b.fits = true)
    (hscan : s.cs.scanning = true → s.oc.part = .start ∧ s.oc.scanResult = none ∧ s.cs.session = .closed)
    (hvalid : ∀ obj n, (s.cs.dir.entry obj).active = some n → (s.cs.store.copyAt obj n).isValid = true) : StoreLaw s where
  commitAside c hc := by simp [hcommit] at hc
  committing h := absurd h hsession
  fits := hfits
  scanFirst h := by
    obtain ⟨hpart, hresult, hclosed⟩ := hscan h
    exact ⟨hpart, hresult, hclosed, hcommit⟩
  activeValid := hvalid

theorem storeLaw_startEditTimer {s : State} (h : StoreLaw s) : StoreLaw (startEditTimer s) := by
  obtain ⟨haside, hcommitting, hfits, hscan, hvalid⟩ := h
  exact ⟨haside, hcommitting, hfits, hscan, hvalid⟩

theorem storeLaw_closeSession {s : State} (hne : s.cs.session ≠ .committing) (h : StoreLaw s) : StoreLaw (closeSession s) :=
  storeLaw_idle (h.no_commit hne) (by simp) (by simp) (fun hs => by
    obtain ⟨hpart, hresult, -⟩ := h.scanFirst hs
    exact ⟨hpart, hresult, rfl⟩) h.activeValid

theorem storeLaw_setBuffer {s : State} (hopen : s.cs.session = .opened) {b : EditBuffer} (hfits : b.fits = true)
    (h : StoreLaw s) : StoreLaw { s with cs := { s.cs with buffer := some b } } := by
  have hnot := h.not_scanning (by simp [hopen])
  refine storeLaw_idle (h.no_commit (by simp [hopen])) (by simp [hopen]) ?_ (fun hs => ?_) h.activeValid
  · rintro b' ⟨rfl⟩
    exact hfits
  · simp [hnot] at hs

theorem storeLaw_restartIfOpen {s : State} (h : StoreLaw s) : StoreLaw (restartIfOpen s) := by
  unfold restartIfOpen
  split
  · exact storeLaw_startEditTimer h
  · exact h

theorem storeLaw_reply {f : Frame} {r : Result} {content : List Byte} {s : State} (h : StoreLaw s) :
    StoreLaw (reply f r content s) := linkRel_storeLaw.reply f r content s h

/-! ### The editing requests -/

/-- An open session keeps the law through the body. -/
def KeepsOpenLaw {α : Type} (body : α → EditBuffer → Frame → State → State) : Prop :=
  ∀ a b f u, u.cs.session = .opened → u.cs.buffer = some b → StoreLaw u → StoreLaw (body a b f u)

theorem storeLaw_editing {α : Type} {parsed : Option α} {body : α → EditBuffer → Frame → State → State}
    (hbody : KeepsOpenLaw body) {f : Frame} {s : State} (h : StoreLaw s) : StoreLaw (editing parsed body f s) := by
  unfold editing
  split
  · exact storeLaw_reply (storeLaw_restartIfOpen h)
  · split
    · exact linkRel_storeLaw.refuseState f s h
    · split
      · rename_i b hopen hb
        exact hbody _ b f _ hopen hb (storeLaw_startEditTimer h)
      · exact storeLaw_reply h
      · exact storeLaw_reply h

theorem storeLaw_changeBuffer {b : EditBuffer} {new : Option BufferContent} {content : BufferContent → List Byte}
    {f : Frame} {s : State} (hopen : s.cs.session = .opened) (hb : s.cs.buffer = some b)
    (hkind : ∀ c, new = some c → SameKind b.content c) (h : StoreLaw s) : StoreLaw (changeBuffer b new content f s) := by
  unfold changeBuffer
  split
  · exact storeLaw_reply h
  · rename_i c
    refine storeLaw_reply (storeLaw_setBuffer hopen ?_ h)
    have hfits := h.fits b hb
    rw [EditBuffer.fits_eq] at hfits ⊢
    exact (hkind c rfl b.obj).trans hfits

theorem keepsOpenLaw_editField : KeepsOpenLaw editFieldBody := by
  intro a b f u hopen hb h
  cases a with
  | short => exact storeLaw_changeBuffer (new := none) (content := fun _ => []) hopen hb (fun c hc => by cases hc) h
  | set num bytes => exact storeLaw_changeBuffer hopen hb (fun c hc => sameKind_setField hc) h
  | clear num => exact storeLaw_changeBuffer hopen hb (fun c hc => sameKind_clearField hc) h

theorem keepsOpenLaw_editPoints : KeepsOpenLaw editPointsBody :=
  fun _ _ _ _ hopen hb h => storeLaw_changeBuffer hopen hb (fun _ hc => sameKind_putPoints hc) h

theorem keepsOpenLaw_editEntries : KeepsOpenLaw editEntriesBody :=
  fun _ _ _ _ hopen hb h => storeLaw_changeBuffer hopen hb (fun _ hc => sameKind_putEntries hc) h

theorem keepsOpenLaw_editCount : KeepsOpenLaw editCountBody :=
  fun _ _ _ _ hopen hb h => storeLaw_changeBuffer hopen hb (fun _ hc => sameKind_setCount hc) h

theorem keepsOpenLaw_editRemove : KeepsOpenLaw editRemoveBody := by
  intro a b f u hopen hb h
  unfold editRemoveBody
  split
  · exact storeLaw_reply h
  · exact storeLaw_reply (storeLaw_setBuffer hopen (h.fits b hb) h)

theorem storeLaw_openEdit (a : Byte × Byte) (f : Frame) {s : State} (hpart : s.oc.part ≠ .start) (h : StoreLaw s) :
    StoreLaw (openEdit a f s) := by
  unfold openEdit
  split
  · exact storeLaw_reply h
  · split
    · rename_i obj _ hclosed
      refine storeLaw_reply (storeLaw_idle (h.no_commit (by simp [hclosed])) ?_ ?_ (fun hs => ?_) h.activeValid)
      · simp [openSession]
      · rintro b ⟨rfl⟩
        exact openBuffer_fits s obj
      · exact absurd (h.scanFirst hs).1 hpart
    · exact storeLaw_reply h

theorem storeLaw_showEdit (f : Frame) {s : State} (h : StoreLaw s) : StoreLaw (showEdit f s) := by
  unfold showEdit
  split
  · exact storeLaw_reply (storeLaw_startEditTimer h)
  · exact storeLaw_reply h
  · exact storeLaw_reply h

theorem storeLaw_abandonEdit (a : Unit) (f : Frame) {s : State} (h : StoreLaw s) : StoreLaw (abandonEdit a f s) := by
  unfold abandonEdit
  split
  · rename_i hopen
    exact storeLaw_reply (storeLaw_closeSession (by simp [hopen]) h)
  · exact storeLaw_reply h
  · exact storeLaw_reply h

theorem commitCopy_not_active (e : DirEntry) : e.active ≠ some (commitCopy e) := by
  unfold commitCopy
  split <;> simp_all

theorem beginCommit_active (b : EditBuffer) (s : State) (obj : ObjId) :
    ((beginCommit b s).cs.dir.entry obj).active = (s.cs.dir.entry obj).active := (calm_beginCommit b s).actives obj

theorem storeLaw_beginCommit {b : EditBuffer} {s : State} (hopen : s.cs.session = .opened) (hb : s.cs.buffer = some b)
    (h : StoreLaw s) : StoreLaw (beginCommit b s) where
  commitAside := by
    rintro c ⟨rfl⟩
    refine ⟨rfl, ?_, b, hb, rfl⟩
    rw [beginCommit_active]
    exact commitCopy_not_active _
  committing _ := rfl
  fits := h.fits
  scanFirst hs := by
    have hnot := h.not_scanning (by simp [hopen])
    have hs' : s.cs.scanning = true := hs
    simp [hnot] at hs'
  activeValid obj n hn := by
    rw [beginCommit_active] at hn
    exact h.activeValid obj n hn

theorem storeLaw_startCommit {b : EditBuffer} {f : Frame} {s : State} (hopen : s.cs.session = .opened)
    (hb : s.cs.buffer = some b) (h : StoreLaw s) : StoreLaw (startCommit b f s) := by
  unfold startCommit
  split
  · exact storeLaw_reply (storeLaw_startEditTimer h)
  · exact storeLaw_beginCommit hopen hb (linkRel_storeLaw.offLink (offLink_addPending ..) h)

theorem storeLaw_commitEdit (a : Unit) (f : Frame) {s : State} (h : StoreLaw s) : StoreLaw (commitEdit a f s) := by
  unfold commitEdit
  split
  · rename_i b hopen hb
    unfold commitOpen
    split
    · split
      · exact storeLaw_startCommit hopen hb h
      · exact storeLaw_reply (storeLaw_closeSession (by simp [hopen]) h)
    · split
      · exact storeLaw_reply (storeLaw_startEditTimer h)
      · exact storeLaw_startCommit hopen hb h
  · exact storeLaw_reply h
  · exact storeLaw_reply h

/-! ### The end of a commit -/

theorem activateCopy_active (c : Commit) (b : EditBuffer) (s : State) (obj : ObjId) :
    ((activateCopy c b s).cs.dir.entry obj).active =
      if obj = c.obj then some c.copy else (s.cs.dir.entry obj).active := by
  have hentry := modEntry_entry c.obj obj (fun e =>
    { e.setInfo c.copy (if b.removal then .removed c.gen else .valid c.gen) with active := some c.copy })
    { s with cs := { s.cs with store := writeCopy c.obj c.copy c.gen b.removal b.content.stored s.cs.store } }
  unfold activateCopy
  dsimp only
  split <;> refine (congrArg DirEntry.active hentry).trans ?_ <;> split <;> rfl

theorem activateCopy_store (c : Commit) (b : EditBuffer) (s : State) :
    (activateCopy c b s).cs.store = writeCopy c.obj c.copy c.gen b.removal b.content.stored s.cs.store := by
  unfold activateCopy
  dsimp only
  split <;> rfl

theorem announce_cs (obj : ObjId) (before after : State) : (announce obj before after).cs = after.cs := by
  cases obj <;> rfl

theorem storeLaw_commitVerified {c : Commit} {b : EditBuffer} {s : State} (hc : s.cs.commit = some c)
    (hb : s.cs.buffer = some b) (h : StoreLaw s) : StoreLaw (commitVerified c b s) := by
  obtain ⟨hcommitting, -, b', hb', hobj⟩ := h.commitAside c hc
  obtain rfl : b = b' := Option.some.inj (hb.symm.trans hb')
  have hfits : contentFits c.obj b.content = true := by
    rw [← hobj, ← EditBuffer.fits_eq]
    exact h.fits b hb
  have hscanning : s.cs.scanning = false := h.not_scanning (by simp [hcommitting])
  refine linkRel_storeLaw.offLink (offLink_endPending ..) (storeLaw_idle rfl (by simp) (by simp) (fun hs => ?_) ?_)
  · have hkept := (commitFrame_activateCopy c b s).scanning
    simp [announce_cs, hkept, hscanning] at hs
  · intro obj n hn
    have hdir : ((activateCopy c b s).cs.dir.entry obj).active = some n := by simpa [announce_cs] using hn
    have hgoal : ((activateCopy c b s).cs.store.copyAt obj n).isValid = true := by
      rw [activateCopy_store, writeCopy_copyAt hfits]
      rw [activateCopy_active] at hdir
      by_cases ho : obj = c.obj
      · rw [if_pos ho, Option.some.injEq] at hdir
        rw [if_pos ⟨ho, hdir.symm⟩, writtenCopy]
        split <;> rfl
      · rw [if_neg ho] at hdir
        rw [if_neg (fun hp => ho hp.1)]
        exact h.activeValid obj n hdir
    simpa [announce_cs] using hgoal

theorem resettle_cs (obj : ObjId) (s : State) :
    (resettle obj s).cs = { s.cs with inEffect := (resettle obj s).cs.inEffect } := by
  unfold resettle
  split <;> rfl

/-- The Configuration Store after a failed commit: the copy is spoiled, the session open again with its buffer. -/
theorem commitFailed_cs (c : Commit) (s : State) : (commitFailed c s).cs =
    { s.cs with
      store := spoilCopy c.obj c.copy false s.cs.store
      dir := s.cs.dir.setEntry c.obj ((s.cs.dir.entry c.obj).setInfo c.copy .damaged)
      inEffect := (commitFailed c s).cs.inEffect
      session := .opened
      editTimer := some (s.now + 30000)
      commit := none } := by
  have hnow : (commitFailed c s).cs.editTimer = some (s.now + 30000) := by
    simp only [commitFailed, startEditTimer_fields, postNotice_fields, endPending_keeps]
    unfold resettle
    split <;> rfl
  simp only [commitFailed, startEditTimer_fields, postNotice_fields, endPending_keeps] at hnow ⊢
  rw [hnow, resettle_cs]
  rfl

theorem storeLaw_commitFailed {c : Commit} {s : State} (hc : s.cs.commit = some c) (h : StoreLaw s) :
    StoreLaw (commitFailed c s) := by
  obtain ⟨hcommitting, haside, -⟩ := h.commitAside c hc
  have hscanning : s.cs.scanning = false := h.not_scanning (by simp [hcommitting])
  have hcs := commitFailed_cs c s
  refine storeLaw_idle (by rw [hcs]) (by rw [hcs]; simp) (by rw [hcs]; exact h.fits) (fun hs => ?_) (fun obj n hn => ?_)
  · rw [hcs] at hs
    simp [hscanning] at hs
  · rw [hcs] at hn ⊢
    have hactive : (s.cs.dir.entry obj).active = some n := by
      rw [← hn, Directory.setEntry_entry]
      split
      · rename_i ho
        rw [ho, DirEntry.setInfo_active]
      · rfl
    have hother : ¬ (obj = c.obj ∧ n = c.copy) := by
      rintro ⟨rfl, rfl⟩
      exact haside hactive
    rw [spoilCopy_copyAt, if_neg hother]
    exact h.activeValid obj n hactive

/-! ### The end of the scan -/

theorem Copy.info_mapContent {α : Type} (f : α → Content) (c : Copy α) : (c.mapContent f).info = c.info := by
  cases c <;> rfl

/-- The copy the scan chooses has a generation. -/
theorem scanEntry_active_gen {a b : CopyInfo} {n : CopyName} (h : (scanEntry a b).active = some n) :
    ((scanEntry a b).info n).gen.isSome = true := by
  change chooseActive a b = some n at h
  unfold chooseActive at h
  split at h
  · split at h <;> cases h <;> simp [scanEntry, DirEntry.info, *]
  · cases h
    simp [scanEntry, DirEntry.info, *]
  · cases h
    simp [scanEntry, DirEntry.info, *]
  · cases h

theorem settingsInfo_gen {i : CopyInfo} (h : (settingsInfo i).gen.isSome = true) : i.gen.isSome = true := by
  cases i <;> simp_all [settingsInfo, CopyInfo.gen]

/-- The copies the scan makes active are valid (R141, R143). -/
theorem readDirectory_activeValid (st : Store) (obj : ObjId) (n : CopyName)
    (h : ((readDirectory st).entry obj).active = some n) : (st.copyAt obj n).isValid = true := by
  have hentry {α : Type} (f : α → Content) (c : Copies α) (hc : (scanEntry c.a.info c.b.info).active = some n) :
      ((c.pick n).mapContent f).isValid = true := by
    rw [Copy.isValid, Copy.info_mapContent]
    have hgen := scanEntry_active_gen hc
    cases n <;> exact hgen
  cases obj with
  | settings =>
    have hgen := scanEntry_active_gen h
    rw [Store.copyAt, Copy.isValid, Copy.info_mapContent]
    cases n <;> exact settingsInfo_gen hgen
  | target i => exact hentry .target st.targets[i] (by simpa [readDirectory, Directory.entry] using h)
  | image i => exact hentry .image st.images[i] (by simpa [readDirectory, Directory.entry] using h)
  | profile i => exact hentry .profile st.profiles[i] (by simpa [readDirectory, Directory.entry] using h)

theorem storeLaw_endScan (disturbed : List (ObjId × CopyName)) {s : State} (hs : s.cs.scanning = true) (h : StoreLaw s) :
    StoreLaw (endScan disturbed s) := by
  obtain ⟨-, -, hclosed, hnone⟩ := h.scanFirst hs
  have hclosed' : (endScan disturbed s).cs.session = .closed := hclosed
  exact storeLaw_idle hnone (by simp [hclosed']) h.fits (fun hs' => by cases hs') (readDirectory_activeValid _)

/-! ### The resets -/

theorem storeLaw_csReset {s : State} {st : Store} {scanning : Bool} (hcs : s.cs = { Cs.reset st with scanning := scanning })
    (hscan : scanning = true → s.oc.part = .start ∧ s.oc.scanResult = none) : StoreLaw s := by
  refine storeLaw_idle (by rw [hcs]; rfl) (by rw [hcs]; simp [Cs.reset]) (by rw [hcs]; simp [Cs.reset]) (fun hs => ?_)
    (fun obj n hn => ?_)
  · rw [hcs] at hs ⊢
    obtain ⟨hpart, hresult⟩ := hscan hs
    exact ⟨hpart, hresult, rfl⟩
  · rw [hcs] at hn
    cases obj <;> simp [Cs.reset, Directory.reset, Directory.entry, DirEntry.unknown] at hn

theorem storeLaw_holdInReset (cause : ResetCause) (s : State) : StoreLaw (holdInReset cause s) :=
  storeLaw_csReset (st := storeAfterReset s) (scanning := false) rfl (fun h => by cases h)

theorem storeLaw_resetEnded (cause : ResetCause) (straps : BitVec 2) (s : State) : StoreLaw (resetEnded cause straps s) :=
  storeLaw_csReset (st := storeAfterReset s) (scanning := true) rfl (fun _ => ⟨rfl, rfl⟩)

/-! ### Every command -/

theorem storeLaw_of_edits {c : Instr} {s t : State} (hc : editsSession c = true) (hs : StoreLaw s)
    (h : exec c s = .next t) : StoreLaw t := by
  have hediting {α : Type} (code : Byte) (parse : Frame → State → Option α) {body : α → EditBuffer → Frame → State → State}
      (hbody : KeepsOpenLaw body) : StoreLaw (dispatch (named code) (fun f s => editing (parse f s) body f s) s) :=
    linkRel_storeLaw.dispatch _ (fun f u hu => storeLaw_editing hbody hu) s hs
  cases c with
  | editTimerExpiry =>
    cases h
    split
    · split
      · rename_i hopen
        refine storeLaw_of_rests (serene_postNotice ..).toRests (storeLaw_closeSession (by simp [hopen]) ?_)
        exact storeLaw_of_rests (serene_advanceTo _ s).toRests hs
      · exact hs
    · exact hs
  | editOpen =>
    cases h
    refine linkRel_storeLaw.dispatch _ (fun f u hu => ?_) s hs
    unfold judged
    split
    · exact storeLaw_reply hu
    · split
      · rename_i hadmitted
        exact storeLaw_openEdit _ f (by simpa [afterStart] using hadmitted) hu
      · exact linkRel_storeLaw.refuseState f u hu
  | editField =>
    cases h
    exact hediting 0x31 _ keepsOpenLaw_editField
  | editPoints =>
    cases h
    exact hediting 0x32 _ keepsOpenLaw_editPoints
  | editEntries =>
    cases h
    exact hediting 0x33 _ keepsOpenLaw_editEntries
  | editCount =>
    cases h
    exact hediting 0x34 _ keepsOpenLaw_editCount
  | editRemove =>
    cases h
    exact hediting 0x35 _ keepsOpenLaw_editRemove
  | editShow =>
    cases h
    refine linkRel_storeLaw.dispatch _ (fun f u hu => ?_) s hs
    split
    · exact storeLaw_reply (storeLaw_restartIfOpen hu)
    · split
      · exact linkRel_storeLaw.refuseState f u hu
      · exact storeLaw_showEdit f hu
  | editCommit =>
    cases h
    exact linkRel_storeLaw.request 0x37 _ _ (fun a f u hu => storeLaw_commitEdit a f hu) s hs
  | editAbandon =>
    cases h
    exact linkRel_storeLaw.request 0x38 _ _ (fun a f u hu => storeLaw_abandonEdit a f hu) s hs
  | _ => simp [editsSession] at hc

/-- SET_MODE leaves START and the scan result. -/
theorem setMode_start {s t : State} (h : exec .setMode s = .next t) (hstart : s.oc.part = .start) :
    t.oc.part = .start ∧ t.oc.scanResult = s.oc.scanResult := by
  cases h
  refine dispatch_induction (P := fun t => t.oc.part = .start ∧ t.oc.scanResult = s.oc.scanResult)
    (fun t hu => ?_) (fun f u hu => ?_)
  · rw [hu.oc]
    exact ⟨hstart, rfl⟩
  · rw [← hu.oc] at hstart ⊢
    split
    · simp [hstart]
    · simp [setPartState, hstart]

theorem storeLaw_of_names {c : Instr} {s t : State} (hc : namesRegister c = true) (hs : StoreLaw s)
    (h : exec c s = .next t) : StoreLaw t := by
  cases c with
  | powerOnReset =>
    cases h
    exact storeLaw_holdInReset ..
  | pinReset =>
    cases h
    exact storeLaw_holdInReset ..
  | resetRelease straps =>
    cases h
    split
    · exact storeLaw_resetEnded ..
    · exact hs
  | frameSent straps =>
    cases h
    split
    · split
      · exact storeLaw_resetEnded ..
      · exact storeLaw_of_cs (by simp) (fun _ hoc => by simpa using hoc) hs
    · exact hs
  | startUpScanEnd disturbed =>
    cases h
    split
    · exact storeLaw_endScan disturbed ‹_› hs
    · exact hs
  | commitEnd verified =>
    cases h
    split
    · rename_i c b hcommit hb
      have hs' := storeLaw_of_rests (serene_advanceTo c.endTime s).toRests hs
      dsimp only
      split
      · exact storeLaw_commitVerified hcommit hb hs'
      · exact storeLaw_commitFailed hcommit hs'
    · exact hs
  | endOfStart =>
    cases h
    split
    · rename_i r hr
      split
      · exact storeLaw_of_cs (s := s) rfl (fun _ hoc => by simp [hr] at hoc) hs
      · exact hs
    · exact hs
  | setMode =>
    obtain ⟨-, hcs, -, -⟩ := setMode_keeps h
    refine storeLaw_of_cs hcs (fun _ ⟨hpart, hresult⟩ => ?_) hs
    obtain ⟨hpart', hresult'⟩ := setMode_start h hpart
    exact ⟨hpart', hresult'.trans hresult⟩
  | setTrim =>
    obtain ⟨-, hcs, hoc, -⟩ := setTrim_keeps h
    exact storeLaw_of_cs hcs (fun _ h => hoc ▸ h) hs
  | setDerate derate =>
    obtain ⟨-, hcs, hoc, -⟩ := setDerate_keeps h
    exact storeLaw_of_cs hcs (fun _ h => hoc ▸ h) hs
  | _ => simp [namesRegister] at hc

theorem storeLaw_exec {c : Instr} {s t : State} (hs : StoreLaw s) (h : exec c s = .next t) : StoreLaw t := by
  cases hnames : namesRegister c with
  | true => exact storeLaw_of_names hnames hs h
  | false =>
    cases hedits : editsSession c with
    | true => exact storeLaw_of_edits hedits hs h
    | false =>
      cases hworks : worksOnTransfers c with
      | false => exact storeLaw_of_rests (serene_exec hworks hnames hedits h).toRests hs
      | true =>
        by_cases hprofile : ∃ d, c = .profileActivation d
        · obtain ⟨d, rfl⟩ := hprofile
          obtain rfl | ⟨trims, rest, hw⟩ := works_profileActivation h
          · exact hs
          · exact storeLaw_of_rests hw.rests (storeLaw_of_cs (s := s) rfl (fun _ h => h) hs)
        · exact storeLaw_of_rests (workRel_rests.exec hworks (fun d hd => hprofile ⟨d, hd⟩) h) hs

/-- Settles O57: the commands that touch the store are the editing requests, the ends of scan and commit and the
resets; a commit's copy is never the active one. -/
theorem everyStepKeepsStoreLaw : Obligations.EveryStepKeepsStoreLaw := by
  intro s t hs hstep
  rcases step_cases hstep with rfl | ⟨c, rest, hexec⟩
  · exact storeLaw_of_cs (s := s) rfl (fun _ h => h) hs
  · exact storeLaw_exec (s := { s with pending := rest }) (storeLaw_of_cs (s := s) rfl (fun _ h => h) hs) hexec

end Sys2Proof.Machine
end

section
/-! The Notice Unit keeps its window: the transmitted entries stand at the front of the queue, at most 4. -/

namespace Sys2Proof.Machine

/-! ### Changing and dropping one entry -/

theorem changeFirst_map_eq {α β : Type} (g : α → β) (p : α → Bool) {f : α → α} (hf : ∀ x, g (f x) = g x) (xs : List α) :
    (changeFirst p f xs).map g = xs.map g := by
  induction xs with
  | nil => rfl
  | cons x xs ih =>
    unfold changeFirst
    split
    · simp [hf]
    · simp [ih]

theorem dropFirst_sublist {α : Type} (p : α → Bool) (xs : List α) : (dropFirst p xs).Sublist xs := by
  induction xs with
  | nil => exact List.Sublist.refl _
  | cons x xs ih =>
    unfold dropFirst
    split
    · exact List.sublist_cons_self x xs
    · exact ih.cons_cons x

/-- A list with an element that meets the test loses one. -/
theorem dropFirst_length_of_mem {α : Type} {p : α → Bool} {xs : List α} (h : ∃ x ∈ xs, p x = true) :
    (dropFirst p xs).length + 1 = xs.length := by
  induction xs with
  | nil => simp at h
  | cons x xs ih =>
    unfold dropFirst
    split
    · rfl
    · rename_i hx
      obtain ⟨y, hy, hp⟩ := h
      rcases List.mem_cons.1 hy with rfl | hy
      · exact absurd hp hx
      · simp [ih ⟨y, hy, hp⟩]

theorem afterAck_suffix (tag : Byte) (q : List Entry) : afterAck tag q <:+ q := by
  induction q with
  | nil => exact List.suffix_refl _
  | cons e es ih =>
    unfold afterAck
    split
    · exact List.suffix_cons e es
    · exact ih.trans (List.suffix_cons e es)

/-! ### The window -/

/-- No entry is transmitted behind one that is not. -/
def SentFirst (q : List Entry) : Prop := q.Pairwise (fun a b => b.transmitted = true → a.transmitted = true)

theorem sentFirst_iff {q : List Entry} :
    SentFirst q ↔ ∃ sent waiting, q = sent ++ waiting ∧ (∀ e ∈ sent, e.transmitted = true)
      ∧ ∀ e ∈ waiting, e.transmitted = false := by
  constructor
  · intro h
    induction q with
    | nil => exact ⟨[], [], rfl, by simp, by simp⟩
    | cons e es ih =>
      obtain ⟨hhead, htail⟩ := List.pairwise_cons.1 h
      cases he : e.transmitted with
      | true =>
        obtain ⟨sent, waiting, rfl, hsent, hwaiting⟩ := ih htail
        exact ⟨e :: sent, waiting, rfl, by simpa [he] using hsent, hwaiting⟩
      | false =>
        refine ⟨[], e :: es, rfl, by simp, ?_⟩
        intro x hx
        rcases List.mem_cons.1 hx with rfl | hx
        · exact he
        · by_contra hne
          have := hhead x hx (by simpa using hne)
          simp [he] at this
  · rintro ⟨sent, waiting, rfl, hsent, hwaiting⟩
    refine List.pairwise_append.2 ⟨?_, ?_, ?_⟩
    · exact List.Pairwise.imp_of_mem (R := fun _ _ => True) (fun ha _ _ _ => hsent _ ha) (List.pairwise_of_forall fun _ _ => trivial)
    · exact List.Pairwise.imp_of_mem (R := fun _ _ => True)
        (fun _ hb _ ht => by simp [hwaiting _ hb] at ht) (List.pairwise_of_forall fun _ _ => trivial)
    · exact fun a ha b _ _ => hsent a ha

/-- The law of the notice queue: bounded, its transmitted entries the first, at most 4. -/
structure NuLaw (q : List Entry) : Prop where
  bounded : q.length ≤ Config.noticePlaces
  window : outstandingCount q ≤ Config.noticeWindow
  sentFirst : SentFirst q

theorem NuLaw.sublist {q q' : List Entry} (h : NuLaw q) (hsub : q'.Sublist q) : NuLaw q' :=
  ⟨hsub.length_le.trans h.bounded, (hsub.filter _).length_le.trans h.window, h.sentFirst.sublist hsub⟩

theorem outstandingCount_eq (q : List Entry) : outstandingCount q = (q.map Entry.transmitted).count true := by
  simp only [outstandingCount, List.count, List.countP_eq_length_filter, List.filter_map, List.length_map]
  exact congrArg List.length (List.filter_congr fun e _ => by simp [Entry.outstanding])

theorem sentFirst_map {q : List Entry} : SentFirst q ↔ (q.map Entry.transmitted).Pairwise (fun a b => b = true → a = true) := by
  rw [List.pairwise_map]
  rfl

/-- The law speaks of the transmitted marks alone. -/
theorem NuLaw.of_marks {q q' : List Entry} (h : NuLaw q) (hmarks : q'.map Entry.transmitted = q.map Entry.transmitted) :
    NuLaw q' := by
  have hlen : q'.length = q.length := by simpa using congrArg List.length hmarks
  exact ⟨hlen ▸ h.bounded, by rw [outstandingCount_eq, hmarks, ← outstandingCount_eq]; exact h.window,
    by rw [sentFirst_map, hmarks, ← sentFirst_map]; exact h.sentFirst⟩

theorem NuLaw.map {q : List Entry} (h : NuLaw q) {f : Entry → Entry} (hf : ∀ e, (f e).transmitted = e.transmitted) :
    NuLaw (q.map f) := h.of_marks (by simp [Function.comp_def, hf])

theorem NuLaw.append {q : List Entry} (h : NuLaw q) (n : Notice) (lost : Bool)
    (hroom : q.length < Config.noticePlaces) : NuLaw (q ++ [newEntry n lost]) := by
  refine ⟨by simpa using hroom, ?_, ?_⟩
  · simpa [outstandingCount, newEntry, Entry.outstanding] using h.window
  · exact List.pairwise_append.2 ⟨h.sentFirst, List.pairwise_singleton _ _, by simp [newEntry]⟩

/-- The oldest untransmitted entry of a queue with the window open is transmitted. -/
theorem NuLaw.transmit {q : List Entry} (h : NuLaw q) (hopen : outstandingCount q < Config.noticeWindow) {f : Entry → Entry}
    (hf : ∀ e, (f e).transmitted = true) : NuLaw (changeFirst Entry.untransmitted f q) := by
  have hcount : ∀ q : List Entry, outstandingCount (changeFirst Entry.untransmitted f q) ≤ outstandingCount q + 1 := by
    intro q
    induction q with
    | nil => simp [changeFirst]
    | cons e es ih =>
      unfold changeFirst
      split
      · rename_i he
        simp_all [outstandingCount, Entry.outstanding, Entry.untransmitted]
      · rename_i he
        simp_all [outstandingCount, Entry.outstanding, Entry.untransmitted]
  refine ⟨by simpa using h.bounded, (hcount q).trans hopen, ?_⟩
  obtain ⟨sent, waiting, rfl, hsent, hwaiting⟩ := sentFirst_iff.1 h.sentFirst
  cases waiting with
  | nil =>
    have hsame : changeFirst Entry.untransmitted f (sent ++ []) = sent := by
      clear hopen h hcount hwaiting
      induction sent with
      | nil => rfl
      | cons e es ih => simp_all [changeFirst, Entry.untransmitted]
    rw [hsame]
    exact sentFirst_iff.2 ⟨sent, [], by simp, hsent, by simp⟩
  | cons w ws =>
    rw [changeFirst_append _ _ _ _ _ (by simpa [Entry.untransmitted] using hsent)
      (by simp [Entry.untransmitted, hwaiting w])]
    refine sentFirst_iff.2 ⟨sent ++ [f w], ws, by simp, ?_, fun e he => hwaiting e (by simp [he])⟩
    simpa [or_imp, forall_and, hf] using hsent

/-! ### The operations of the unit -/

/-- The lowest severity is that of an untransmitted entry. -/
theorem lowestSeverity_mem {q : List Entry} {low : Severity} (h : lowestSeverity q = some low) :
    ∃ e ∈ q, e.transmitted = false ∧ e.severity = low := by
  induction q generalizing low with
  | nil => simp [lowestSeverity] at h
  | cons e es ih =>
    unfold lowestSeverity at h
    split at h
    · obtain ⟨x, hx, hrest⟩ := ih h
      exact ⟨x, by simp [hx], hrest⟩
    · rename_i he _
      cases h
      exact ⟨e, by simp, he, rfl⟩
    · rename_i r he hr
      cases h
      split
      · obtain ⟨x, hx, hrest⟩ := ih hr
        exact ⟨x, by simp [hx], hrest⟩
      · exact ⟨e, by simp, he, rfl⟩

theorem nuLaw_appendTo (n : Notice) {nu : Nu} (h : NuLaw nu.queue) : NuLaw (appendTo n nu).queue := by
  unfold appendTo
  split
  · exact h.of_marks (changeFirst_map_eq Entry.transmitted _ (f := mergeEntry n) (fun _ => rfl) _)
  · split
    · exact h.append n _ ‹_›
    · split
      · rename_i low hlow
        split
        · obtain ⟨e, he, huntransmitted, hsev⟩ := lowestSeverity_mem hlow
          refine (h.sublist (dropFirst_sublist _ _)).append n true ?_
          have hdrop := dropFirst_length_of_mem (p := fun e => e.untransmitted && e.severity == low) (xs := nu.queue)
            ⟨e, he, by simp [Entry.untransmitted, huntransmitted, hsev]⟩
          have := h.bounded
          omega
        · exact h
      · exact h

theorem startRetransmit_queue (now : Nat) (nu : Nu) : (startRetransmit now nu).queue = nu.queue := by
  unfold startRetransmit
  split <;> rfl

theorem nuLaw_handNotice (now : Nat) {nu : Nu} (heligible : noticeEligible nu = true) (h : NuLaw nu.queue) :
    NuLaw (handNotice now nu).queue := by
  unfold handNotice
  rw [startRetransmit_queue]
  split
  · exact h.of_marks
      (changeFirst_map_eq Entry.transmitted _ (f := fun e => { e with due := false }) (fun _ => rfl) _)
  · rename_i hdue
    simp only [noticeEligible, hdue, Bool.and_eq_true, Bool.or_eq_true, decide_eq_true_eq] at heligible
    obtain ⟨-, hfalse | ⟨-, hopen⟩⟩ := heligible
    · simp at hfalse
    · exact h.transmit hopen fun _ => rfl

theorem nuLaw_endStall {nu : Nu} (h : NuLaw nu.queue) : NuLaw (endStall nu).queue := by
  unfold endStall
  split
  · exact h.map fun e => by split <;> rfl
  · exact h

theorem nuLaw_acknowledge (now : Nat) (tag : Byte) {nu : Nu} (h : NuLaw nu.queue) :
    NuLaw (acknowledge now tag nu).queue := by
  unfold acknowledge
  split
  · exact h.sublist (afterAck_suffix tag nu.queue).sublist
  · exact h

theorem nuLaw_validFrameAtNu (now : Nat) (ack : Option Byte) {nu : Nu} (h : NuLaw nu.queue) :
    NuLaw (validFrameAtNu now ack nu).queue := by
  cases ack with
  | none => exact nuLaw_endStall h
  | some tag => exact nuLaw_endStall (nuLaw_acknowledge now tag h)

theorem nuLaw_retransmitExpiry {nu : Nu} (h : NuLaw nu.queue) : NuLaw (retransmitExpiry nu).queue := by
  unfold retransmitExpiry
  split
  · exact h
  · split
    · exact h
    · exact h.map fun e => by split <;> rfl

end Sys2Proof.Machine
end

section
/-! The Host Link keeps its tables. `LinkInv` holds together what O56 says of notices, intake, pending table, reply queue
and reply cache. -/

namespace Sys2Proof.Machine

/-! ### The tables -/

/-- The tables of the link within their capacities, TAGs apart. -/
structure Tables (hl : Hl) : Prop where
  pend : hl.pend.length ≤ Config.pendingPlaces
  replies : hl.replies.length ≤ Config.replyPlaces
  cache : hl.cache.length ≤ Config.cachePlaces
  tags : hl.pend.Pairwise (fun a b => a.tag ≠ b.tag)
  cacheTags : hl.cache.Pairwise (fun a b => a.tag ≠ b.tag)
  apart : ∀ c ∈ hl.cache, ∀ e ∈ hl.pend, c.tag ≠ e.tag

/-- The invariant of the link and the notices. -/
structure LinkInv (s : State) : Prop where
  notices : NuLaw s.nu.queue
  alert : AlertShown s
  intake : s.hl.intake.length ≤ Config.intakePlaces
  tables : Tables s.hl
  room : EndedWaitForRoom s
  ready : ReadyShown s

theorem linkInv_iff {s : State} : LinkInv s ↔ NoticesBounded s ∧ AlertShown s ∧ WindowKept s ∧ LinkBounded s
    ∧ EndedWaitForRoom s ∧ TagsDiffer s ∧ CacheTagsDiffer s ∧ ReadyShown s := by
  constructor
  · rintro ⟨⟨hbounded, hwindow, hsent⟩, halert, hintake, ⟨hpend, hreplies, hcache, htags, hcacheTags, hapart⟩, hroom, hready⟩
    exact ⟨hbounded, halert, ⟨hwindow, sentFirst_iff.1 hsent⟩, ⟨hintake, hpend, hreplies, hcache⟩, hroom, htags,
      ⟨hcacheTags, hapart⟩, hready⟩
  · rintro ⟨hbounded, halert, ⟨hwindow, hsent⟩, ⟨hintake, hpend, hreplies, hcache⟩, hroom, htags, ⟨hcacheTags, hapart⟩, hready⟩
    exact ⟨⟨hbounded, hwindow, sentFirst_iff.2 hsent⟩, halert, hintake,
      ⟨hpend, hreplies, hcache, htags, hcacheTags, hapart⟩, hroom, hready⟩

/-- The TAG stands in no table. -/
structure TagFresh (tag : Byte) (hl : Hl) : Prop where
  pend : ∀ e ∈ hl.pend, e.tag ≠ tag
  cache : ∀ e ∈ hl.cache, e.tag ≠ tag

theorem Tables.dropPend {hl : Hl} (h : Tables hl) (p : PendingEntry → Bool) :
    Tables { hl with pend := hl.pend.filter p } where
  pend := (List.length_filter_le _ _).trans h.pend
  replies := h.replies
  cache := h.cache
  tags := h.tags.filter _
  cacheTags := h.cacheTags
  apart c hc e he := h.apart c hc e (List.mem_of_mem_filter he)

theorem Tables.setReplies {hl : Hl} (h : Tables hl) {rs : List Reply} (hlen : rs.length ≤ Config.replyPlaces) :
    Tables { hl with replies := rs } := ⟨h.pend, hlen, h.cache, h.tags, h.cacheTags, h.apart⟩

theorem tables_cacheReply {e : CacheEntry} {s : State} (hfresh : TagFresh e.tag s.hl) (h : Tables s.hl) :
    Tables (cacheReply e s).hl := by
  obtain ⟨kept, hkept, hsub, hlen⟩ : ∃ kept, (cacheReply e s).hl = { s.hl with cache := kept ++ [e] }
      ∧ kept.Sublist s.hl.cache ∧ kept.length < Config.cachePlaces := by
    refine ⟨_, rfl, ?_⟩
    split
    · exact ⟨List.Sublist.refl _, ‹_›⟩
    · refine ⟨List.tail_sublist _, ?_⟩
      have := h.cache
      simp only [List.length_tail]
      simp only [show Config.cachePlaces = 4 from rfl] at *
      omega
  rw [hkept]
  refine ⟨h.pend, h.replies, by simpa using hlen, h.tags, ?_, ?_⟩
  · refine List.pairwise_append.2 ⟨h.cacheTags.sublist hsub, List.pairwise_singleton _ _, ?_⟩
    simpa using fun c hc => hfresh.cache c (hsub.mem hc)
  · intro c hc p hp
    rcases List.mem_append.1 hc with hc | hc
    · exact h.apart c (hsub.mem hc) p hp
    · obtain rfl := List.mem_singleton.1 hc
      exact (hfresh.pend p hp).symm

theorem tables_pushReply {r : Reply} {s : State} (hroom : s.hl.replies.length < Config.replyPlaces) (h : Tables s.hl) :
    Tables (pushReply r s).hl := h.setReplies (by simpa using hroom)

/-- The entry that leaves the pending table frees its TAG. -/
theorem Tables.freed {hl : Hl} (h : Tables hl) {e : PendingEntry} (he : e ∈ hl.pend) :
    TagFresh e.tag { hl with pend := hl.pend.filter (fun x => x.tag != e.tag) } where
  pend x hx := by simpa using (List.mem_filter.1 hx).2
  cache c hc := h.apart c hc e he

/-! ### The freed room is filled -/

/-- The ended entries of the pending table. -/
def endedEntries (pend : List PendingEntry) : List PendingEntry := pend.filter (fun e => e.ended.isSome)

theorem nextEnded_eq_none {pend : List PendingEntry} : nextEnded pend = none ↔ endedEntries pend = [] :=
  leastBy_eq_none _ _

theorem nextEnded_mem {pend : List PendingEntry} {e : PendingEntry} (h : nextEnded pend = some e) :
    e ∈ endedEntries pend := (leastBy_spec _ _ _ h).1

theorem endedWaitForRoom_of_none {s : State} (h : endedEntries s.hl.pend = []) : EndedWaitForRoom s := by
  rintro ⟨e, he, hended⟩
  simp [endedEntries, List.filter_eq_nil_iff] at h
  simp [h e he] at hended

theorem endedEntries_of_room {s : State} (hroom : EndedWaitForRoom s) (hlt : s.hl.replies.length < Config.replyPlaces) :
    endedEntries s.hl.pend = [] := by
  refine List.filter_eq_nil_iff.2 fun e he hended => ?_
  have := hroom ⟨e, he, hended⟩
  omega

theorem tables_admitEnded {e : PendingEntry} {s : State} (he : e ∈ s.hl.pend)
    (hroom : s.hl.replies.length < Config.replyPlaces) (h : Tables s.hl) : Tables (admitEnded e s).hl := by
  have hpushed : Tables (pushReply ⟨e.tag, (e.ended.map Prod.snd).getD [], false⟩
      { s with hl := { s.hl with pend := s.hl.pend.filter (fun x => x.tag != e.tag) } }).hl :=
    tables_pushReply hroom (h.dropPend _)
  have hfreed := h.freed he
  exact tables_cacheReply ⟨hfreed.pend, hfreed.cache⟩ hpushed

@[simp] theorem admitEnded_pend (e : PendingEntry) (s : State) :
    (admitEnded e s).hl.pend = s.hl.pend.filter (fun x => x.tag != e.tag) := rfl

/-- Enough rounds leave no ended operation beside room. -/
theorem fillReplies_spec (n : Nat) {s : State} (hn : (endedEntries s.hl.pend).length ≤ n) (h : Tables s.hl) :
    Tables (fillReplies n s).hl ∧ EndedWaitForRoom (fillReplies n s) := by
  induction n generalizing s with
  | zero => exact ⟨h, endedWaitForRoom_of_none (List.length_eq_zero_iff.1 (Nat.le_zero.1 hn))⟩
  | succ n ih =>
    unfold fillReplies
    split
    · rename_i hroom
      split
      · exact ⟨h, endedWaitForRoom_of_none (nextEnded_eq_none.1 ‹_›)⟩
      · rename_i e he
        have hmem := nextEnded_mem he
        refine ih ?_ (tables_admitEnded (List.mem_of_mem_filter hmem) hroom h)
        have hlt : ((endedEntries s.hl.pend).filter fun x => x.tag != e.tag).length < (endedEntries s.hl.pend).length :=
          List.length_filter_lt_length_iff_exists.2 ⟨e, hmem, by simp⟩
        rw [admitEnded_pend, endedEntries, List.filter_comm, ← endedEntries]
        omega
    · rename_i hfull
      exact ⟨h, fun _ => Nat.le_of_not_lt hfull⟩

/-! ### The transmitter -/

theorem LinkInv.of_parts {s : State} (hnotices : NuLaw s.nu.queue) (halert : s.pins.alertN = alertLevel s.nu.queue)
    (hintake : s.hl.intake.length ≤ Config.intakePlaces) (htables : Tables s.hl) (hroom : EndedWaitForRoom s)
    (hready : s.pins.hrdy = (!s.oc.held && hrdyLevel s.hl.intake)) : LinkInv s :=
  ⟨hnotices, halert, hintake, htables, hroom, hready⟩

theorem linkInv_sendReply {r : Reply} {rest : List Reply} {s : State} (hr : s.hl.replies = r :: rest) (h : LinkInv s) :
    LinkInv (sendReply r rest s) := by
  have hlen : rest.length ≤ Config.replyPlaces := by
    have := h.tables.replies
    rw [hr, List.length_cons] at this
    omega
  have hsent : Tables { s.hl with
      replies := rest
      tx := some ⟨frameBytes kindReply r.tag r.payload, r.restart⟩
      fairness := min 4 (s.hl.fairness + 1) } :=
    ⟨h.tables.pend, hlen, h.tables.cache, h.tables.tags, h.tables.cacheTags, h.tables.apart⟩
  have hended : (endedEntries s.hl.pend).length ≤ Config.pendingPlaces :=
    (List.length_filter_le _ _).trans h.tables.pend
  obtain ⟨htables, hroom⟩ := fillReplies_spec Config.pendingPlaces
    (s := { s with hl := { s.hl with
      replies := rest
      tx := some ⟨frameBytes kindReply r.tag r.payload, r.restart⟩
      fairness := min 4 (s.hl.fairness + 1) } }) hended hsent
  refine .of_parts ?_ ?_ ?_ htables hroom ?_
  · simpa [sendReply] using h.notices
  · simpa [sendReply, AlertShown] using h.alert
  · simpa [sendReply] using h.intake
  · simpa [sendReply, ReadyShown] using h.ready

/-- A new state of the Notice Unit within its law. -/
theorem linkInv_setNu {nu : Nu} {s : State} (hnu : NuLaw nu.queue) (h : LinkInv s) : LinkInv (setNu nu s) :=
  ⟨hnu, rfl, h.intake, h.tables, h.room, h.ready⟩

/-- The frame at the transmitter and the fairness count are free. -/
theorem linkInv_setTx {tx : Option TxFrame} {fairness : Nat} {s : State} (h : LinkInv s) :
    LinkInv { s with hl := { s.hl with tx := tx, fairness := fairness } } :=
  ⟨h.notices, h.alert, h.intake, ⟨h.tables.pend, h.tables.replies, h.tables.cache, h.tables.tags, h.tables.cacheTags,
    h.tables.apart⟩, h.room, h.ready⟩

theorem linkInv_sendNotice {s : State} (heligible : noticeEligible s.nu = true) (h : LinkInv s) :
    LinkInv (sendNotice s) := by
  unfold sendNotice
  split
  · exact h
  · exact linkInv_setNu (nuLaw_handNotice s.now heligible h.notices) (linkInv_setTx h)

theorem linkInv_txChoose {s : State} (h : LinkInv s) : LinkInv (txChoose s) := by
  rcases txChoose_cases s with hsame | ⟨-, r, rest, hr, -, hsend⟩ | ⟨-, heligible, -, hsend⟩
  · rwa [hsame]
  · rw [hsend]
    exact linkInv_sendReply hr h
  · rw [hsend]
    exact linkInv_sendNotice heligible h

/-! ### Answers -/

/-- A reply under a TAG that stands in no table. -/
theorem linkInv_answerNow {tag : Byte} {code : Option Byte} {digest : Word16} {payload : List Byte} {restart : Bool}
    {s : State} (hroom : s.hl.replies.length < Config.replyPlaces) (hfresh : TagFresh tag s.hl) (h : LinkInv s) :
    LinkInv (answerNow tag code digest payload restart s) := by
  have htables : Tables (cacheReply ⟨tag, code, digest, payload⟩ (pushReply ⟨tag, payload, restart⟩ s)).hl :=
    tables_cacheReply (e := ⟨tag, code, digest, payload⟩) ⟨hfresh.pend, hfresh.cache⟩ (tables_pushReply hroom h.tables)
  refine linkInv_txChoose ⟨h.notices, h.alert, h.intake, htables, ?_, h.ready⟩
  exact endedWaitForRoom_of_none (endedEntries_of_room (s := s) h.room hroom)

/-- A reply that is not entered in the cache. -/
theorem linkInv_appendReply {r : Reply} {s : State} (hroom : s.hl.replies.length < Config.replyPlaces) (h : LinkInv s) :
    LinkInv (appendReply r s) := by
  refine linkInv_txChoose ⟨h.notices, h.alert, h.intake, tables_pushReply hroom h.tables, ?_, h.ready⟩
  exact endedWaitForRoom_of_none (endedEntries_of_room (s := s) h.room hroom)

theorem linkInv_endPending (op : PendingOp) (payload : List Byte) {s : State} (h : LinkInv s) :
    LinkInv (endPending op payload s) := by
  rcases endPending_cases op payload s with hsame | ⟨e, he, -, -, ⟨hroom, hanswer⟩ | ⟨hfull, hwait⟩⟩
  · rwa [hsame]
  · rw [hanswer]
    refine linkInv_answerNow hroom (h.tables.freed he) ?_
    refine ⟨h.notices, h.alert, h.intake, h.tables.dropPend _, endedWaitForRoom_of_none ?_, h.ready⟩
    have hnone := endedEntries_of_room h.room hroom
    simp only [endedEntries, List.filter_eq_nil_iff, List.mem_filter] at hnone ⊢
    exact fun x hx => hnone x hx.1
  · rw [hwait]
    have htag (x : PendingEntry) :
        (if x.tag = e.tag then { x with ended := some (s.hl.endedCount, payload) } else x).tag = x.tag := by
      split <;> rfl
    have htables : Tables { s.hl with
        pend := s.hl.pend.map (fun x => if x.tag = e.tag then { x with ended := some (s.hl.endedCount, payload) } else x)
        endedCount := s.hl.endedCount + 1 } := by
      refine ⟨by simpa using h.tables.pend, h.tables.replies, h.tables.cache, ?_, h.tables.cacheTags, ?_⟩
      · simpa [List.pairwise_map, htag] using h.tables.tags
      · simpa [htag] using h.tables.apart
    exact ⟨h.notices, h.alert, h.intake, htables, fun _ => hfull, h.ready⟩

end Sys2Proof.Machine
end

section
/-! Every step keeps the tables of the link, the notice window and ALERT_N. -/

namespace Sys2Proof.Machine

/-! ### Updates beside the link -/

/-- What the invariant of the link speaks of stands as it was. -/
structure LinkKept (s t : State) : Prop where
  intake : t.hl.intake = s.hl.intake
  pend : t.hl.pend = s.hl.pend
  replies : t.hl.replies = s.hl.replies
  cache : t.hl.cache = s.hl.cache
  nu : t.nu = s.nu
  alertN : t.pins.alertN = s.pins.alertN
  hrdy : t.pins.hrdy = s.pins.hrdy
  held : t.oc.held = s.oc.held

theorem LinkKept.refl (s : State) : LinkKept s s := ⟨rfl, rfl, rfl, rfl, rfl, rfl, rfl, rfl⟩

theorem LinkKept.trans {s t u : State} (h : LinkKept s t) (h' : LinkKept t u) : LinkKept s u :=
  ⟨h'.intake.trans h.intake, h'.pend.trans h.pend, h'.replies.trans h.replies, h'.cache.trans h.cache,
    h'.nu.trans h.nu, h'.alertN.trans h.alertN, h'.hrdy.trans h.hrdy, h'.held.trans h.held⟩

theorem LinkKept.of_eq {s t : State} (hhl : t.hl = s.hl) (hnu : t.nu = s.nu) (halert : t.pins.alertN = s.pins.alertN)
    (hhrdy : t.pins.hrdy = s.pins.hrdy) (hheld : t.oc.held = s.oc.held) : LinkKept s t :=
  ⟨by rw [hhl], by rw [hhl], by rw [hhl], by rw [hhl], hnu, halert, hhrdy, hheld⟩

theorem LinkKept.linkInv {s t : State} (h : LinkKept s t) (hs : LinkInv s) : LinkInv t := by
  obtain ⟨hnotices, halert, hintake, ⟨hpend, hreplies, hcache, htags, hcacheTags, hapart⟩, hroom, hready⟩ := hs
  refine ⟨by rwa [h.nu], ?_, by rwa [h.intake], ⟨?_, ?_, ?_, ?_, ?_, ?_⟩, ?_, ?_⟩
  · rw [AlertShown, h.alertN, h.nu]
    exact halert
  all_goals simpa only [h.pend, h.replies, h.cache, EndedWaitForRoom, ReadyShown, h.intake, h.hrdy, h.held]

theorem LinkKept.tagFresh {s t : State} (h : LinkKept s t) {tag : Byte} (hs : TagFresh tag s.hl) : TagFresh tag t.hl :=
  ⟨by rw [h.pend]; exact hs.pend, by rw [h.cache]; exact hs.cache⟩

/-! ### Work on transfers -/

theorem Touch.linkInv {S : Set Slot} {s t : State} (h : Touch S s t) (hs : LinkInv s) : LinkInv t := by
  cases h with
  | aside h => exact (LinkKept.of_eq h.hl h.nu (by rw [h.pins]) (by rw [h.pins]) (by rw [h.oc])).linkInv hs
  | enqueue r s h => exact (LinkKept.of_eq (s := s) (t := addTransfer r s) rfl rfl rfl rfl rfl).linkInv hs
  | change f s h =>
    have hkept : LinkKept s { s with bm := { s.bm with queue := s.bm.queue.map f } } := .of_eq rfl rfl rfl rfl rfl
    exact hkept.linkInv hs
  | leave p s => exact (LinkKept.of_eq (s := s) (t := departWhere p s) rfl rfl rfl rfl rfl).linkInv hs
  | answer op payload s => exact linkInv_endPending op payload hs

theorem linkKept_grantDecision (s : State) : LinkKept s (grantDecision s) :=
  .of_eq (by simp) (by simp) (by simp) (by simp) (by simp)

theorem Works.linkInv {s t : State} (h : Works s t) (hs : LinkInv s) : LinkInv t := by
  refine h.keeps (fun s t hdeed hs => ?_) hs
  cases hdeed with
  | evolve h => exact h.keeps (fun _ _ htouch => htouch.linkInv) hs
  | beside h => exact (LinkKept.of_eq h.hl h.nu h.alertN h.hrdy (by rw [h.oc])).linkInv hs
  | decide => exact (linkKept_grantDecision s).linkInv hs

/-! ### The pass keeps the link -/

theorem linkKept_settleInvalidations (slots : List Slot) (s : State) : LinkKept s (settleInvalidations slots s) :=
  .of_eq (by simp) (by simp) (by simp) (by simp) (by simp)

theorem linkKept_issueOutput (id : ProfileId) (slot : Slot) (r : TargetRecord) (p : Profile) (e : Evaluation)
    (x : State × PassAccount) : LinkKept x.1 (issueOutput id slot r p e x).1 := by
  unfold issueOutput
  dsimp only
  split
  · exact .of_eq rfl rfl rfl rfl rfl
  · split
    · exact .of_eq rfl rfl rfl rfl rfl
    · unfold enqueueProfile
      dsimp only
      split <;> exact .of_eq rfl rfl rfl rfl rfl

theorem linkKept_visitProfile (slot : Slot) (r : TargetRecord) (id : ProfileId) (x : State × PassAccount) :
    LinkKept x.1 (visitProfile slot r id x).1 := by
  unfold visitProfile
  split
  · exact .refl _
  · exact LinkKept.trans (.of_eq (by simp) (by simp) (by simp) (by simp) (by simp))
      (linkKept_issueOutput id slot r _ _ (_, _))

theorem linkKept_visitProfiles (slot : Slot) (r : TargetRecord) (ids : List ProfileId) (x : State × PassAccount) :
    LinkKept x.1 (visitProfiles slot r ids x).1 := by
  induction ids generalizing x with
  | nil => exact .refl _
  | cons id ids ih => exact (linkKept_visitProfile slot r id x).trans (ih _)

theorem linkKept_visitSlots (slots : List Slot) (x : State × PassAccount) : LinkKept x.1 (visitSlots slots x).1 := by
  induction slots generalizing x with
  | nil => exact .refl _
  | cons i is ih =>
    unfold visitSlots
    split
    · exact ih x
    · exact (linkKept_visitProfiles i _ _ x).trans (ih _)

theorem linkKept_settleLatch (slot : Slot) (x : State × PassAccount) : LinkKept x.1 (settleLatch slot x).1 := by
  unfold settleLatch
  split
  · exact .refl _
  · split
    · exact .refl _
    · split
      · unfold issueLatch
        dsimp only
        split
        · exact .of_eq rfl rfl rfl rfl rfl
        · split <;> exact .of_eq rfl rfl rfl rfl rfl
      · exact .refl _

theorem linkKept_settleLatches (slots : List Slot) (x : State × PassAccount) :
    LinkKept x.1 (settleLatches slots x).1 := by
  induction slots generalizing x with
  | nil => exact .refl _
  | cons i is ih => exact (linkKept_settleLatch i x).trans (ih _)

theorem linkKept_decideIfEnqueued (before s : State) : LinkKept s (decideIfEnqueued before s) :=
  .of_eq (by simp) (by simp) (by simp) (by simp) (by simp)

theorem linkKept_runPass (s : State) : LinkKept s (runPass s).1 := by
  have hcount : LinkKept s { s with ce := { s.ce with passCount := s.ce.passCount + 1 } } :=
    .of_eq rfl rfl rfl rfl rfl
  exact (((hcount.trans (linkKept_settleInvalidations _ _)).trans (linkKept_visitSlots (servedSlots s) (_, PassAccount.none))).trans
    (linkKept_settleLatches _ _)).trans (linkKept_decideIfEnqueued s _)

/-! ### Requests -/

/-- The execution of a request keeps the invariant where its TAG is fresh and its reply has room. -/
structure KeepsLink (f : Frame) (s t : State) : Prop where
  keep : s.hl.replies.length < Config.replyPlaces → TagFresh f.tag s.hl → LinkInv s → LinkInv t

section Requests
variable {f : Frame} {s t u : State}

theorem keepsLink_reply (f : Frame) (r : Result) (content : List Byte) (s : State) : KeepsLink f s (reply f r content s) :=
  ⟨fun hroom hfresh h => linkInv_answerNow hroom hfresh h⟩

theorem keepsLink_refuseState (f : Frame) (s : State) : KeepsLink f s (refuseState f s) := keepsLink_reply ..

theorem LinkKept.keepsLink (h : LinkKept s u) (h' : KeepsLink f u t) : KeepsLink f s t :=
  ⟨fun hroom hfresh hs => h'.keep (by rwa [h.replies]) (h.tagFresh hfresh) (h.linkInv hs)⟩

theorem KeepsLink.works (h : KeepsLink f s t) (h' : Works t u) : KeepsLink f s u :=
  ⟨fun hroom hfresh hs => h'.linkInv (h.keep hroom hfresh hs)⟩

theorem keepsLink_judged {α : Type} (parsed : Option α) (admitted : State → Bool) {body : α → Frame → State → State}
    (hbody : ∀ a f u, KeepsLink f u (body a f u)) (f : Frame) (s : State) :
    KeepsLink f s (judged parsed admitted body f s) := by
  unfold judged
  split
  · exact keepsLink_reply ..
  · split
    · exact hbody _ f s
    · exact keepsLink_refuseState f s

theorem linkKept_startEditTimer (s : State) : LinkKept s (startEditTimer s) := .of_eq rfl rfl rfl rfl rfl

theorem linkKept_closeSession (s : State) : LinkKept s (closeSession s) := .of_eq rfl rfl rfl rfl rfl

theorem linkKept_restartIfOpen (s : State) : LinkKept s (restartIfOpen s) := by
  unfold restartIfOpen
  split
  · exact linkKept_startEditTimer s
  · exact .refl s

theorem linkKept_sampleDerate (level : Bool) (s : State) : LinkKept s (sampleDerate level s) := .of_eq rfl rfl rfl rfl rfl

theorem keepsLink_editing {α : Type} (parsed : Option α) {body : α → EditBuffer → Frame → State → State}
    (hbody : ∀ a b f u, KeepsLink f u (body a b f u)) (f : Frame) (s : State) :
    KeepsLink f s (editing parsed body f s) := by
  unfold editing
  split
  · exact (linkKept_restartIfOpen s).keepsLink (keepsLink_reply ..)
  · split
    · exact keepsLink_refuseState f s
    · split
      · exact (linkKept_startEditTimer s).keepsLink (hbody _ _ f _)
      · exact keepsLink_reply ..
      · exact keepsLink_reply ..

theorem linkKept_setBuffer (b : Option EditBuffer) (s : State) :
    LinkKept s { s with cs := { s.cs with buffer := b } } := .of_eq rfl rfl rfl rfl rfl

theorem keepsLink_changeBuffer (b : EditBuffer) (new : Option BufferContent) (content : BufferContent → List Byte)
    (f : Frame) (s : State) : KeepsLink f s (changeBuffer b new content f s) := by
  unfold changeBuffer
  split
  · exact keepsLink_reply ..
  · exact (linkKept_setBuffer _ s).keepsLink (keepsLink_reply ..)

theorem keepsLink_editFieldBody (a : FieldArgs) (b : EditBuffer) (f : Frame) (s : State) :
    KeepsLink f s (editFieldBody a b f s) := by
  unfold editFieldBody
  split <;> exact keepsLink_changeBuffer ..

theorem keepsLink_editRemoveBody (a : Unit) (b : EditBuffer) (f : Frame) (s : State) :
    KeepsLink f s (editRemoveBody a b f s) := by
  unfold editRemoveBody
  split
  · exact keepsLink_reply ..
  · exact (linkKept_setBuffer _ s).keepsLink (keepsLink_reply ..)

theorem keepsLink_openEdit (a : Byte × Byte) (f : Frame) (s : State) : KeepsLink f s (openEdit a f s) := by
  unfold openEdit
  split
  · exact keepsLink_reply ..
  · split
    · rename_i obj _ _
      have hopened : LinkKept s (openSession obj s) := .of_eq rfl rfl rfl rfl rfl
      exact hopened.keepsLink (keepsLink_reply ..)
    · exact keepsLink_reply ..

theorem keepsLink_showEdit (f : Frame) (s : State) : KeepsLink f s (showEdit f s) := by
  unfold showEdit
  split
  · exact (linkKept_startEditTimer s).keepsLink (keepsLink_reply ..)
  · exact keepsLink_reply ..
  · exact keepsLink_reply ..

theorem keepsLink_abandonEdit (a : Unit) (f : Frame) (s : State) : KeepsLink f s (abandonEdit a f s) := by
  unfold abandonEdit
  split
  · exact (linkKept_closeSession s).keepsLink (keepsLink_reply ..)
  · exact keepsLink_reply ..
  · exact keepsLink_reply ..

/-- A pending entry with a fresh TAG joins a table with room. -/
theorem linkInv_addPending (op : PendingOp) (hplace : s.hl.pend.length < Config.pendingPlaces)
    (hroom : s.hl.replies.length < Config.replyPlaces) (hfresh : TagFresh f.tag s.hl) (h : LinkInv s) :
    LinkInv (addPending f op s) := by
  have htables : Tables (addPending f op s).hl := by
    refine ⟨by simpa using hplace, h.tables.replies, h.tables.cache, ?_, h.tables.cacheTags, ?_⟩
    · simp only [addPending_fields]
      exact List.pairwise_append.2 ⟨h.tables.tags, List.pairwise_singleton _ _, by simpa using hfresh.pend⟩
    · simp only [addPending_fields, List.mem_append, List.mem_singleton]
      rintro c hc e (he | rfl)
      · exact h.tables.apart c hc e he
      · exact hfresh.cache c hc
  refine ⟨h.notices, h.alert, h.intake, htables, endedWaitForRoom_of_none ?_, h.ready⟩
  have hnone : endedEntries s.hl.pend = [] := endedEntries_of_room h.room hroom
  simp only [endedEntries] at hnone
  simp [endedEntries, hnone]

theorem keepsLink_startCommit (b : EditBuffer) (f : Frame) (s : State) : KeepsLink f s (startCommit b f s) := by
  unfold startCommit
  split
  · exact (linkKept_startEditTimer s).keepsLink (keepsLink_reply ..)
  · rename_i hplace
    refine ⟨fun hroom hfresh h => ?_⟩
    have hbegun (u : State) : LinkKept u (beginCommit b u) := .of_eq rfl rfl rfl rfl rfl
    exact (hbegun _).linkInv (linkInv_addPending .commit (by omega) hroom hfresh h)

theorem keepsLink_commitEdit (a : Unit) (f : Frame) (s : State) : KeepsLink f s (commitEdit a f s) := by
  have hopen (b : EditBuffer) : KeepsLink f s (commitOpen b f s) := by
    unfold commitOpen
    split
    · split
      · exact keepsLink_startCommit b f s
      · exact (linkKept_closeSession s).keepsLink (keepsLink_reply ..)
    · split
      · exact (linkKept_startEditTimer s).keepsLink (keepsLink_reply ..)
      · exact keepsLink_startCommit b f s
  unfold commitEdit
  split
  · exact hopen _
  · exact keepsLink_reply ..
  · exact keepsLink_reply ..

theorem keepsLink_setPartState (asked : PartState) (f : Frame) (s : State) : KeepsLink f s (setPartState asked f s) := by
  unfold setPartState
  split
  · exact keepsLink_reply ..
  · split
    · have hmoved : LinkKept s { s with oc := { s.oc with part := asked } } := .of_eq rfl rfl rfl rfl rfl
      exact hmoved.keepsLink (keepsLink_reply ..)
    · exact keepsLink_reply ..

theorem keepsLink_takeTrim (id : ProfileId) (trim : Int) (f : Frame) (s : State) : KeepsLink f s (takeTrim id trim f s) := by
  have hset : LinkKept s (setTrimOf id trim s) := .of_eq rfl rfl rfl rfl rfl
  exact hset.keepsLink (keepsLink_reply ..)

theorem keepsLink_takeDerate (level : Nat) (f : Frame) (s : State) : KeepsLink f s (takeDerate level f s) := by
  have hset : LinkKept s { s with ce := { s.ce with hostDerate := level } } := .of_eq rfl rfl rfl rfl rfl
  exact hset.keepsLink (keepsLink_reply ..)

theorem keepsLink_passReply (a : Unit) (f : Frame) (s : State) : KeepsLink f s (passReply a f s) := by
  unfold passReply
  exact (linkKept_runPass s).keepsLink (keepsLink_reply ..)

theorem keepsLink_takeRestart (f : Frame) (s : State) : KeepsLink f s (takeRestart f s) := by
  have hmarked : LinkKept s { s with oc := { s.oc with restart := some f.tag } } := .of_eq rfl rfl rfl rfl rfl
  exact hmarked.keepsLink ⟨fun hroom hfresh h => linkInv_answerNow hroom hfresh h⟩

theorem keepsLink_admin (slot : Slot) (a : Action) (f : Frame) (s : State) : KeepsLink f s (admin slot a f s) := by
  unfold admin
  split
  · exact keepsLink_reply ..
  · split
    · exact keepsLink_reply ..
    · exact keepsLink_reply ..
    · exact (keepsLink_reply f .ok _ s).works ((evolves_actOn a slot _).works.trans (works_decideIfEnqueued s _))

theorem keepsLink_enqueueManual (d : Dir) (a : ManualArgs) (addr : Byte) (f : Frame) (s : State) :
    KeepsLink f s (enqueueManual d a addr f s) := by
  have hrefused (r : Result) (content : List Byte) : KeepsLink f s (refuseManual f r content s) := keepsLink_reply ..
  unfold enqueueManual
  split
  · exact hrefused _ _
  · rename_i hplace
    split
    · exact hrefused _ _
    · exact hrefused _ _
    · refine ⟨fun hroom hfresh h => ?_⟩
      have hadded (r : Request) (u : State) : LinkKept u (addTransfer r u) := .of_eq rfl rfl rfl rfl rfl
      exact ((hadded _ _).trans (linkKept_grantDecision _)).linkInv (linkInv_addPending _ (by omega) hroom hfresh h)

theorem keepsLink_manual (d : Dir) (parsed : Option ManualArgs) (f : Frame) (s : State) :
    KeepsLink f s (manual d parsed f s) := by
  have hrefused (r : Result) (content : List Byte) : KeepsLink f s (refuseManual f r content s) := keepsLink_reply ..
  unfold manual
  split
  · exact hrefused _ _
  · split
    · exact hrefused _ _
    · split
      · exact hrefused _ _
      · unfold admitManual
        split <;> split
        · exact keepsLink_enqueueManual ..
        · exact hrefused _ _
        · exact hrefused _ _
        · exact keepsLink_enqueueManual ..

/-! ### Dispatch -/

theorem linkInv_setIntake {frames : List Frame} (hlen : frames.length ≤ Config.intakePlaces) (h : LinkInv s) :
    LinkInv (setIntake frames s) :=
  ⟨h.notices, h.alert, hlen, ⟨h.tables.pend, h.tables.replies, h.tables.cache, h.tables.tags, h.tables.cacheTags,
    h.tables.apart⟩, h.room, rfl⟩

theorem linkInv_evictTag (tag : Byte) (h : LinkInv s) : LinkInv (evictTag tag s) := by
  refine ⟨h.notices, h.alert, h.intake, ⟨h.tables.pend, h.tables.replies, ?_, h.tables.tags, ?_, ?_⟩, h.room, h.ready⟩
  · exact (List.length_filter_le _ _).trans h.tables.cache
  · exact h.tables.cacheTags.filter _
  · exact fun c hc => h.tables.apart c (List.mem_of_mem_filter hc)

theorem linkInv_judgeTag {body : Frame → State → State} (hbody : ∀ f u, KeepsLink f u (body f u))
    (hroom : s.hl.replies.length < Config.replyPlaces) (h : LinkInv s) : LinkInv (judgeTag f body s) := by
  unfold judgeTag
  split
  · exact linkInv_appendReply hroom h
  · rename_i hpend
    have hpend : ∀ e ∈ s.hl.pend, e.tag ≠ f.tag := by simpa using hpend
    split
    · split
      · exact linkInv_appendReply hroom h
      · exact (hbody f _).keep hroom ⟨hpend, fun c hc => by simpa using (List.mem_filter.1 hc).2⟩ (linkInv_evictTag f.tag h)
    · rename_i hcache
      exact (hbody f s).keep hroom ⟨hpend, by simpa using hcache⟩ h

theorem linkInv_dispatch {names : Option Byte → Bool} {body : Frame → State → State}
    (hbody : ∀ f u, KeepsLink f u (body f u)) (h : LinkInv s) : LinkInv (dispatch names body s) := by
  rcases dispatch_cases names body s with hsame | ⟨f, rest, hfront, hmay, -, htaken⟩
  · rwa [hsame]
  · rw [htaken]
    simp only [mayDispatch, Bool.and_eq_true, decide_eq_true_eq] at hmay
    have hlen : rest.length ≤ Config.intakePlaces := by
      have := h.intake
      rw [hfront, List.length_cons] at this
      omega
    exact linkInv_judgeTag hbody hmay.1.1 (linkInv_setIntake hlen h)

/-- A request judged by encoding and part state. -/
theorem linkInv_request {α : Type} (code : Byte) (parse : Frame → Option α) (admitted : State → Bool)
    {body : α → Frame → State → State} (hbody : ∀ a f u, KeepsLink f u (body a f u)) (h : LinkInv s) :
    LinkInv (dispatch (named code) (fun f s => judged (parse f) admitted body f s) s) :=
  linkInv_dispatch (fun f u => keepsLink_judged _ _ hbody f u) h

end Requests

/-! ### The line and the notices -/

theorem linkInv_moveRx {rx : Rx} {s : State} (h : LinkInv s) : LinkInv (moveRx rx s) := by
  have hkept : LinkKept s (moveRx rx s) := ⟨rfl, rfl, rfl, rfl, rfl, rfl, rfl, rfl⟩
  exact hkept.linkInv h

theorem linkInv_deliverFrame {ack : Option Byte} {s : State} (h : LinkInv s) : LinkInv (deliverFrame ack s) :=
  linkInv_txChoose (linkInv_setNu (nuLaw_validFrameAtNu s.now ack h.notices) h)

theorem linkInv_intakeFrame {f : Frame} {s : State} (h : LinkInv s) : LinkInv (intakeFrame f s) := by
  unfold intakeFrame
  split
  · rename_i hroom
    exact linkInv_setIntake (by simpa using hroom) h
  · dsimp only
    split
    · have hkept : LinkKept s { s with hl := { s.hl with
        overruns := satInc s.hl.overruns
        startOverrun := some (f.tag, f.code.getD 0) } } := ⟨rfl, rfl, rfl, rfl, rfl, rfl, rfl, rfl⟩
      exact hkept.linkInv h
    · have hkept : LinkKept s (postNotice .warn (.linkOverrun f.tag (f.code.getD 0) (satInc s.hl.overruns))
        { s with hl := { s.hl with overruns := satInc s.hl.overruns } }) := ⟨rfl, rfl, rfl, rfl, rfl, rfl, rfl, rfl⟩
      exact hkept.linkInv h

theorem linkKept_advanceTo (m : Nat) (s : State) : LinkKept s (advanceTo m s) := .of_eq rfl rfl rfl rfl rfl

/-! ### The measurement unit and the store -/

theorem linkKept_completeCycle (r : Readings) (s : State) : LinkKept s (completeCycle r s) := by
  have hgive (ns : List Notice) (u : State) : LinkKept u (giveNotices ns u) := by
    unfold giveNotices
    split <;> exact .of_eq rfl rfl rfl rfl rfl
  have hsupply (c : SupplyCond) (u : State) : LinkKept u (announceSupply c u) := .of_eq rfl rfl rfl rfl rfl
  have hcycle (first : Bool) (u : State) : LinkKept u (announceCycle r first u) := .of_eq rfl rfl rfl rfl rfl
  have hfirst (first : Bool) (u : State) : LinkKept u (announceFirst first u) := by
    unfold announceFirst
    split <;> exact .of_eq rfl rfl rfl rfl rfl
  have hmu : LinkKept s { s with mu := completeMu (activeSettings s) r s.mu } := .of_eq rfl rfl rfl rfl rfl
  have hgiven := hmu.trans (hgive (completionNotices s.mu (completeMu (activeSettings s) r s.mu) r) _)
  unfold completeCycle
  dsimp only
  split
  · exact (hgiven.trans (hcycle _ _)).trans (hfirst _ _)
  · exact ((hgiven.trans (hsupply _ _)).trans (hcycle _ _)).trans (hfirst _ _)

theorem linkInv_commitVerified {c : Commit} {b : EditBuffer} {s : State} (h : LinkInv s) :
    LinkInv (commitVerified c b s) := by
  have hactivated : LinkKept s (activateCopy c b s) := by
    unfold activateCopy
    dsimp only
    split <;> exact .of_eq rfl rfl rfl rfl rfl
  have hannounced (u : State) : LinkKept u (announce c.obj s u) := by
    unfold announce
    split <;> exact .of_eq rfl rfl rfl rfl rfl
  have hclosed (u : State) : LinkKept u (closeSession { u with cs := { u.cs with commit := none } }) :=
    .of_eq rfl rfl rfl rfl rfl
  exact linkInv_endPending _ _ (((hactivated.trans (hannounced _)).trans (hclosed _)).linkInv h)

theorem linkInv_commitFailed {c : Commit} {s : State} (h : LinkInv s) : LinkInv (commitFailed c s) := by
  have hspoiled : LinkKept s (resettle c.obj (modEntry c.obj (fun e => e.setInfo c.copy .damaged)
      { s with cs := { s.cs with store := spoilCopy c.obj c.copy false s.cs.store } })) := by
    unfold resettle
    split <;> exact .of_eq rfl rfl rfl rfl rfl
  have hended := linkInv_endPending .commit (replyPayload (some codeCommit) .storeFault (commitItems c))
    (hspoiled.linkInv h)
  unfold commitFailed
  dsimp only
  refine LinkKept.linkInv ?_ hended
  exact .of_eq rfl rfl rfl rfl rfl

/-! ### The resets -/

theorem linkInv_holdInReset (cause : ResetCause) (s : State) : LinkInv (holdInReset cause s) := by
  rw [linkInv_iff]
  refine ⟨?_, ?_, ⟨?_, [], [], ?_⟩, ?_⟩ <;>
    simp [NoticesBounded, AlertShown, LinkBounded, EndedWaitForRoom, TagsDiffer, CacheTagsDiffer, ReadyShown,
      Hl.reset, Nu.reset, outstandingCount, alertLevel]

theorem linkInv_resetEnded (cause : ResetCause) (straps : BitVec 2) (s : State) : LinkInv (resetEnded cause straps s) := by
  rw [linkInv_iff]
  refine ⟨?_, ?_, ⟨?_, [], [], ?_⟩, ?_⟩ <;>
    simp [NoticesBounded, AlertShown, LinkBounded, EndedWaitForRoom, TagsDiffer, CacheTagsDiffer, ReadyShown,
      Hl.reset, Nu.reset, Oc.reset, outstandingCount, alertLevel, hrdyLevel, Config.intakePlaces]

end Sys2Proof.Machine
end

section
/-! The invariant of the link, command by command. -/

namespace Sys2Proof.Machine

/-- The requests that do not work on transfers. -/
theorem linkInv_request_exec {c : Instr} {s t : State} (hworks : worksOnTransfers c = false)
    (hc : (requestCode c).isSome = true ∨ c = .unknownRequest) (hs : LinkInv s) (h : exec c s = .next t) : LinkInv t := by
  cases c with
  | unknownRequest =>
    cases h
    exact linkInv_dispatch (fun _ _ => keepsLink_reply ..) hs
  | identify =>
    cases h
    exact linkInv_request _ _ _ (fun _ _ _ => keepsLink_reply ..) hs
  | getStatus derate =>
    cases h
    exact linkInv_dispatch (fun f u => (linkKept_sampleDerate derate u).keepsLink
      (keepsLink_judged _ _ (fun _ _ _ => keepsLink_reply ..) f _)) hs
  | getMeasurements =>
    cases h
    exact linkInv_request _ _ _ (fun _ _ _ => keepsLink_reply ..) hs
  | getTarget =>
    cases h
    exact linkInv_request _ _ _ (fun _ _ _ => keepsLink_reply ..) hs
  | getProfile =>
    cases h
    refine linkInv_request _ _ _ (fun b f u => ?_) hs
    split <;> exact keepsLink_reply ..
  | getImage =>
    cases h
    refine linkInv_request _ _ _ (fun a f u => ?_) hs
    split <;> exact keepsLink_reply ..
  | getSettings =>
    cases h
    exact linkInv_request _ _ _ (fun _ _ _ => keepsLink_reply ..) hs
  | setMode =>
    cases h
    refine linkInv_dispatch (fun f u => ?_) hs
    split
    · exact keepsLink_reply ..
    · exact keepsLink_setPartState _ f u
  | setTrim =>
    cases h
    refine linkInv_request _ _ _ (fun a f u => ?_) hs
    split
    · exact keepsLink_takeTrim ..
    · exact keepsLink_reply ..
  | setDerate derate =>
    cases h
    refine linkInv_dispatch (fun f u => (linkKept_sampleDerate derate u).keepsLink
      (keepsLink_judged _ _ (fun b f u => ?_) f _)) hs
    split
    · exact keepsLink_takeDerate ..
    · exact keepsLink_reply ..
  | restart =>
    cases h
    refine linkInv_request _ _ _ (fun a f u => ?_) hs
    split
    · exact keepsLink_takeRestart f u
    · exact keepsLink_reply ..
  | editOpen =>
    cases h
    exact linkInv_request _ _ _ keepsLink_openEdit hs
  | editField =>
    cases h
    exact linkInv_dispatch (fun f u => keepsLink_editing _ keepsLink_editFieldBody f u) hs
  | editPoints =>
    cases h
    exact linkInv_dispatch (fun f u => keepsLink_editing _ (fun _ _ _ _ => keepsLink_changeBuffer ..) f u) hs
  | editEntries =>
    cases h
    exact linkInv_dispatch (fun f u => keepsLink_editing _ (fun _ _ _ _ => keepsLink_changeBuffer ..) f u) hs
  | editCount =>
    cases h
    exact linkInv_dispatch (fun f u => keepsLink_editing _ (fun _ _ _ _ => keepsLink_changeBuffer ..) f u) hs
  | editRemove =>
    cases h
    exact linkInv_dispatch (fun f u => keepsLink_editing _ keepsLink_editRemoveBody f u) hs
  | editShow =>
    cases h
    refine linkInv_dispatch (fun f u => ?_) hs
    split
    · exact (linkKept_restartIfOpen u).keepsLink (keepsLink_reply ..)
    · split
      · exact keepsLink_refuseState f u
      · exact keepsLink_showEdit f u
  | editCommit =>
    cases h
    exact linkInv_request _ _ _ keepsLink_commitEdit hs
  | editAbandon =>
    cases h
    exact linkInv_request _ _ _ keepsLink_abandonEdit hs
  | _ => simp [worksOnTransfers, requestCode] at hworks hc

/-- The requests that work on transfers, and PROFILE_ACTIVATION. -/
theorem linkInv_works_exec {c : Instr} {s t : State} (hworks : worksOnTransfers c = true) (hs : LinkInv s)
    (h : exec c s = .next t) : LinkInv t := by
  cases halone : worksAlone c with
  | true => exact (works_exec halone h).linkInv hs
  | false =>
    cases c with
    | profileActivation derate =>
      obtain rfl | ⟨trims, rest, hw⟩ := works_profileActivation h
      · exact hs
      · refine hw.linkInv ((LinkKept.of_eq ?_ ?_ ?_ ?_ ?_).linkInv hs) <;> rfl
    | getShadow =>
      cases h
      refine linkInv_request _ _ _ (fun b f u => ?_) hs
      split
      · exact (linkKept_settleInvalidations _ u).keepsLink (keepsLink_reply ..)
      · exact keepsLink_reply ..
    | passNow derate =>
      cases h
      exact linkInv_dispatch (fun f u => (linkKept_sampleDerate derate u).keepsLink
        (keepsLink_judged _ _ keepsLink_passReply f _)) hs
    | targetAdmin derate =>
      cases h
      refine linkInv_dispatch (fun f u => ?_) hs
      split
      · exact keepsLink_reply ..
      · exact (linkKept_sampleDerate derate u).keepsLink (keepsLink_admin ..)
    | manualRead =>
      cases h
      exact linkInv_dispatch (fun f u => keepsLink_manual ..) hs
    | manualWrite =>
      cases h
      exact linkInv_dispatch (fun f u => keepsLink_manual ..) hs
    | _ => simp_all [worksAlone, worksOnTransfers]

/-- The commands that are no request and work on no transfer. -/
theorem linkInv_plain_exec {c : Instr} {s t : State} (hworks : worksOnTransfers c = false)
    (hc : requestCode c = none) (hs : LinkInv s) (h : exec c s = .next t) : LinkInv t := by
  cases c with
  | powerOnReset =>
    cases h
    exact linkInv_holdInReset ..
  | pinReset =>
    cases h
    exact linkInv_holdInReset ..
  | resetRelease straps =>
    cases h
    split
    · exact linkInv_resetEnded ..
    · exact hs
  | startUpScanEnd disturbed =>
    cases h
    split
    · have hkept : LinkKept s (endScan disturbed s) := .of_eq rfl rfl rfl rfl rfl
      exact hkept.linkInv hs
    · exact hs
  | cycleStart =>
    cases h
    split
    · refine LinkKept.linkInv ?_ hs
      exact .of_eq rfl rfl rfl rfl rfl
    · exact hs
  | cycleCompletion die remote vmon =>
    cases h
    split
    · exact ((linkKept_advanceTo _ s).trans (linkKept_completeCycle _ _)).linkInv hs
    · exact hs
  | endOfStart =>
    cases h
    split
    · split
      · refine LinkKept.linkInv ?_ hs
        exact .of_eq rfl rfl rfl rfl rfl
      · exact hs
    · exact hs
  | withheldNoticesAppend =>
    cases h
    split
    · refine LinkKept.linkInv ?_ hs
      exact .of_eq rfl rfl rfl rfl rfl
    · exact hs
  | damagedObjectNotices =>
    cases h
    split
    · refine LinkKept.linkInv ?_ hs
      exact .of_eq rfl rfl rfl rfl rfl
    · exact hs
  | withheldOverrunNotice =>
    cases h
    split
    · split <;> refine LinkKept.linkInv ?_ hs <;> exact ⟨rfl, rfl, rfl, rfl, rfl, rfl, rfl, rfl⟩
    · exact hs
  | supplyChangeAtCe =>
    cases h
    split
    · refine LinkKept.linkInv ?_ hs
      exact .of_eq rfl rfl rfl rfl rfl
    · exact hs
  | recoveryTimerExpiry =>
    cases h
    split
    · split
      · refine LinkKept.linkInv ?_ hs
        exact .of_eq rfl rfl rfl rfl rfl
      · exact hs
    · exact hs
  | commitEnd verified =>
    cases h
    split
    · dsimp only
      split
      · exact linkInv_commitVerified ((linkKept_advanceTo _ s).linkInv hs)
      · exact linkInv_commitFailed ((linkKept_advanceTo _ s).linkInv hs)
    · exact hs
  | editTimerExpiry =>
    cases h
    split
    · split
      · refine LinkKept.linkInv ?_ hs
        exact .of_eq rfl rfl rfl rfl rfl
      · exact hs
    · exact hs
  | requestFrameReceived c =>
    cases h
    split
    · exact linkInv_intakeFrame (linkInv_deliverFrame (linkInv_moveRx hs))
    · exact hs
  | ackReceived c =>
    cases h
    split
    · exact linkInv_deliverFrame (linkInv_moveRx hs)
    · exact hs
  | invalidFrame c framingError =>
    cases h
    split
    · split
      · exact linkInv_deliverFrame (linkInv_moveRx hs)
      · exact linkInv_moveRx hs
    · exact hs
  | gapTimerExpiry =>
    cases h
    split
    · exact linkInv_moveRx ((linkKept_advanceTo _ s).linkInv hs)
    · exact hs
  | characterReceived c framingError =>
    cases h
    split
    · split
      · exact hs
      · exact linkInv_moveRx hs
    · exact hs
  | unknownRequest => exact linkInv_request_exec rfl (.inr rfl) hs h
  | frameSent straps =>
    cases h
    split
    · split
      · exact linkInv_resetEnded ..
      · exact linkInv_txChoose (linkInv_setTx (tx := none) (fairness := s.hl.fairness) hs)
    · exact hs
  | noticeAppend =>
    cases h
    split
    · rename_i n rest _
      have hkept : LinkKept s { s with msgs := { s.msgs with notices := rest } } := .of_eq rfl rfl rfl rfl rfl
      exact linkInv_txChoose (linkInv_setNu (nuLaw_appendTo n hs.notices) (hkept.linkInv hs))
    · exact hs
  | retransmitTimerExpiry =>
    cases h
    split
    · exact linkInv_txChoose (linkInv_setNu (nuLaw_retransmitExpiry hs.notices) ((linkKept_advanceTo _ s).linkInv hs))
    · exact hs
  | owedStop =>
    cases h
    split
    · refine LinkKept.linkInv ?_ hs
      exact .of_eq rfl rfl rfl rfl rfl
    · exact hs
  | _ => simp [worksOnTransfers, requestCode] at hworks hc

theorem linkInv_exec {c : Instr} {s t : State} (hs : LinkInv s) (h : exec c s = .next t) : LinkInv t := by
  cases hworks : worksOnTransfers c with
  | true => exact linkInv_works_exec hworks hs h
  | false =>
    cases hcode : requestCode c with
    | none => exact linkInv_plain_exec hworks hcode hs h
    | some code => exact linkInv_request_exec hworks (.inl (by simp [hcode])) hs h

/-- Settles O56: a request is answered once under a TAG that its dispatch found in no table, work on transfers answers
pending requests alone, and the notice queue's operations keep the window. -/
theorem everyStepKeepsLinkAndNotices : Obligations.EveryStepKeepsLinkAndNotices := by
  intro s t hbounded halert hwindow hlink hroom htags hcache hready hstep
  have hs : LinkInv s := linkInv_iff.2 ⟨hbounded, halert, hwindow, hlink, hroom, htags, hcache, hready⟩
  refine linkInv_iff.1 ?_
  rcases step_cases hstep with rfl | ⟨c, rest, hexec⟩
  · have hkept : LinkKept s (idle s) := .of_eq rfl rfl rfl rfl rfl
    exact hkept.linkInv hs
  · have hkept : LinkKept s { s with pending := rest } := .of_eq rfl rfl rfl rfl rfl
    exact linkInv_exec (hkept.linkInv hs) hexec

end Sys2Proof.Machine
end

section
/-! The queue of commands, the resets and the scheduled happenings: what each of them changes. -/

namespace Sys2Proof.Machine

/-- Settles O1: both answers are those of `step`'s two branches. -/
theorem stepRunsFrontCommand : Obligations.StepRunsFrontCommand := by
  refine ⟨fun c rest s => rfl, fun s h => ?_⟩
  unfold step
  rw [h]
  simp [idle, h]

/-! ### The resets -/

theorem exec_resetRelease_of_free {s : State} (straps : BitVec 2) (hfree : s.oc.held = false) :
    exec (.resetRelease straps) s = .next s := by
  change execResetRelease straps s = _
  simp [execResetRelease, hfree]

/-- Settles O2: each reset answers a part held in reset or one whose reset has ended, and both lose the volatile
state. -/
theorem resetHoldsThePartAndItsEndBeginsStart : Obligations.ResetHoldsThePartAndItsEndBeginsStart := by
  intro straps s
  refine ⟨?_, ?_, fun hheld => ?_, exec_resetRelease_of_free straps, fun fr htx hrestart => ?_⟩
  · exact gives_of_next (exec_powerOnReset s) ⟨volatileLost_holdInReset .., rfl, rfl, rfl, rfl, rfl⟩
  · exact gives_of_next (exec_pinReset s) ⟨volatileLost_holdInReset .., rfl, rfl, rfl, rfl, rfl⟩
  · exact gives_of_next (exec_resetRelease_of_held straps hheld) ⟨volatileLost_resetEnded .., rfl, rfl, rfl, rfl⟩
  · exact gives_of_next (exec_frameSent_of_restart straps htx hrestart)
      ⟨volatileLost_resetEnded .., rfl, rfl, rfl, rfl⟩

/-- A copy after a reset: the one a commit in progress was programming is cut (R158). -/
theorem storeAfterReset_copyAt (s : State) (obj : ObjId) (n : CopyName) :
    (storeAfterReset s).copyAt obj n =
      match s.cs.commit with
      | none => s.cs.store.copyAt obj n
      | some k => if obj = k.obj ∧ n = k.copy
        then (if k.wasEmpty = true ∧ s.now < k.started + 4 then .empty else .damaged)
        else s.cs.store.copyAt obj n := by
  unfold storeAfterReset
  cases s.cs.commit with
  | none => rfl
  | some k =>
    have hcut : (cutCopy (k.wasEmpty && decide (s.now < k.started + 4)) : Copy Content) =
        if k.wasEmpty = true ∧ s.now < k.started + 4 then .empty else .damaged := by simp [cutCopy]
    simp only [spoilCopy_copyAt, hcut]

/-- Settles O4: the store a reset leaves is the store with the copy of the commit in progress cut. -/
theorem resetCutsCommitInProgress : Obligations.ResetCutsCommitInProgress := by
  rintro s c (rfl | rfl)
  · exact gives_of_next (exec_powerOnReset s) fun obj n => (storeAfterReset_copyAt s obj n).trans rfl
  · exact gives_of_next (exec_pinReset s) fun obj n => (storeAfterReset_copyAt s obj n).trans rfl

/-! ### The reset state meets the invariants -/

theorem Directory.reset_entry (obj : ObjId) : Directory.reset.entry obj = DirEntry.unknown := by
  cases obj <;> simp [Directory.reset, Directory.entry]

theorem storeLaw_reset : StoreLaw State.reset where
  commitAside := nofun
  committing := nofun
  fits := nofun
  scanFirst _ := ⟨rfl, rfl, rfl, rfl⟩
  activeValid obj n h := by
    change (Directory.reset.entry obj).active = _ at h
    rw [Directory.reset_entry] at h
    cases h

/-- What the law of slots asks of one context (R63, R69, R93, R99). -/
structure CtxLaw (c : Ctx) : Prop where
  hold : c.staleHold.isSome = true → c.awaited = none
  checkTimer : c.checkTimer.isSome = true → c.state = .inService ∧ c.checkStep = .idle
  faultTimer : c.faultTimer.isSome = true ↔ c.state = .faultHold
  checking : c.checkStep ≠ .idle → c.state = .inService
  awaiting : c.awaited.isSome = true → c.state = .probing ∨ c.state = .loading ∨ c.checkStep ≠ .idle
  roomMark : c.roomMark = true → c.state = .probing ∨ c.state = .loading

/-- What the law of slots asks of one transfer of the queue (R63, R66, R85). -/
structure TransferLaw (s : State) (x : Transfer) : Prop where
  made : x.automatic = true → x.stale = false → ∃ slot : Slot, x.slot = some slot ∧ MadeIn s.ctxs[slot] x
  staleOnBus : x.stale = true → x.onBus = true
  withdrawn : x.stale = true → ∀ (id : ProfileId) (slot : Slot), x.origin = .loadProfile id →
    x.slot = some slot → s.ctxs[slot].awaited ≠ some x.id

theorem slotLaw_iff {s : State} :
    SlotLaw s ↔ (∀ slot : Slot, CtxLaw s.ctxs[slot]) ∧ ∀ x ∈ s.bm.queue, TransferLaw s x := by
  constructor
  · intro h
    exact ⟨fun slot => ⟨h.hold slot, h.checkTimer slot, h.faultTimer slot, h.checking slot, h.awaiting slot, h.roomMark slot⟩,
      fun x hx => ⟨h.made x hx, h.staleOnBus x hx, h.withdrawn x hx⟩⟩
  · rintro ⟨hctx, hqueue⟩
    exact ⟨fun x hx => (hqueue x hx).made, fun x hx => (hqueue x hx).staleOnBus, fun x hx => (hqueue x hx).withdrawn,
      fun slot => (hctx slot).hold, fun slot => (hctx slot).checkTimer, fun slot => (hctx slot).faultTimer,
      fun slot => (hctx slot).checking, fun slot => (hctx slot).awaiting, fun slot => (hctx slot).roomMark⟩

theorem ctxLaw_reset : CtxLaw Ctx.reset := by constructor <;> decide

/-- Where the queue is empty and the contexts are as after reset the law of slots holds. -/
theorem slotLaw_of_reset {s : State} (hctxs : ∀ slot : Slot, s.ctxs[slot] = Ctx.reset) (hqueue : s.bm.queue = []) :
    SlotLaw s :=
  slotLaw_iff.2 ⟨fun slot => hctxs slot ▸ ctxLaw_reset, by simp [hqueue]⟩

theorem State.reset_ctxs (slot : Slot) : State.reset.ctxs[slot] = Ctx.reset := Vector.getElem_replicate _

theorem slotLaw_reset : SlotLaw State.reset := slotLaw_of_reset State.reset_ctxs rfl

theorem latchLaw_of_empty {s : State} (hqueue : s.bm.queue = []) : LatchLaw s := by simp [LatchLaw, hqueue]

theorem writeLaw_of_empty {s : State} (hqueue : s.bm.queue = []) : WriteLaw s := by simp [WriteLaw, hqueue]

/-- Settles O54: at reset the queues, the tables and the store's records are empty. -/
theorem resetStateMeetsInvariants : Obligations.ResetStateMeetsInvariants := by
  have hqueue : State.reset.bm.queue = [] := rfl
  have hnotices : State.reset.nu.queue = [] := rfl
  have hlink : State.reset.hl = Hl.reset := rfl
  refine ⟨?bounded, ?one, ?notices, rfl, ?window, ?link, ?ended, ?tags, ?cache, rfl, storeLaw_reset, slotLaw_reset,
    latchLaw_of_empty hqueue, writeLaw_of_empty hqueue⟩
  case bounded => simp [QueueBounded, hqueue, countClass]
  case one => simp [OneOnBus, hqueue]
  case notices => simp [NoticesBounded, hnotices]
  case window => simp [WindowKept, outstandingCount, hnotices]
  case link => simp [LinkBounded, hlink, Hl.reset]
  case ended => simp [EndedWaitForRoom, hlink, Hl.reset]
  case tags => simp [TagsDiffer, hlink, Hl.reset]
  case cache => simp [CacheTagsDiffer, hlink, Hl.reset]

/-! ### Scheduled happenings -/

/-- Settles O37: each happening, at its due moment, runs the one branch of its command. -/
theorem scheduledHappeningsChangeWhatTheyName : Obligations.ScheduledHappeningsChangeWhatTheyName := by
  intro s
  refine ⟨fun at' hnext hcycle => ?_, fun c rest h => ?_, fun rest h => ?_, fun rest h => ?_, fun slot at' h => ?_,
    fun h => ?_, fun h => ?_, fun at' h => ?_, fun at' b htimer hbuffer hsession => ?_⟩
  · change execCycleStart s = _
    unfold execCycleStart
    rw [hnext, hcycle]
    rfl
  · change execSupplyChangeAtCe s = _
    unfold execSupplyChangeAtCe
    rw [h]
    simp [takeCeMu, h]
  · change execSupplyChangeAtBm s = _
    unfold execSupplyChangeAtBm
    rw [h]
  · change execSupplyChangeAtBm s = _
    unfold execSupplyChangeAtBm
    rw [h]
  · change execQuietTimeEnd slot s = _
    unfold execQuietTimeEnd
    rw [h]
    rfl
  · change execOwedStop s = _
    unfold execOwedStop
    rw [if_pos h]
  · change execOwedStop s = _
    unfold execOwedStop
    rw [if_neg (by simp [h])]
  · change execGapTimerExpiry s = _
    unfold execGapTimerExpiry
    rw [h]
    simp [moveRx, nextGap, advanceTo]
  · change execEditTimerExpiry s = _
    unfold execEditTimerExpiry
    simp [htimer, hbuffer, hsession, advanceTo, postNotice, closeSession]

end Sys2Proof.Machine
end

section
/-! The laws of slots, latches and writes as one invariant. A reference cell of the CE is the shadow of a profile or the
latch state of a slot; a compensation write or latch that is not stale is named by its cell, and `Lawful X` says so of
every queued transfer that `X` does not excuse. -/

namespace Sys2Proof.Machine

/-! ### Reference cells -/

/-- The cell of the CE that names a transfer: a profile's shadow or a slot's latch state (R37, R48). -/
def Transfer.cell (x : Transfer) : Option (ProfileId ⊕ Slot) :=
  match x.origin, x.slot with
  | .profile id, _ => some (.inl id)
  | .loadProfile id, _ => some (.inl id)
  | .latch, some slot => some (.inr slot)
  | _, _ => none

/-- The handles a cell names: the waiting and the on-bus reference. -/
def refs (s : State) : ProfileId ⊕ Slot → Option Nat × Option Nat
  | .inl id => (s.ce.shadows[id].waiting.map Ref.id, s.ce.shadows[id].onBus.map Ref.id)
  | .inr slot => (s.ce.latches[slot].waiting, s.ce.latches[slot].onBus)

/-- The slot of a write or latch: no invalidation of it is outstanding, and a write is one for the slot its profile
names. -/
structure WellPlaced (s : State) (x : Transfer) (slot : Slot) : Prop where
  ofSlot : x.slot = some slot
  settled : s.msgs.ceInvalidate[slot] = false
  profile : ∀ id, x.origin.profileOf = some id → ∃ p, activeProfile s id = some p ∧ p.header.slot = slot.val

/-- What the laws of latches and writes ask of one queued transfer. -/
structure NamedLaw (s : State) (x : Transfer) : Prop where
  placed : x.origin = .latch ∨ x.origin.profileOf.isSome = true → x.stale = false → ∃ slot, WellPlaced s x slot
  waiting : ∀ k, x.cell = some k → x.stale = false → x.onBus = false → (refs s k).1 = some x.id
  onBus : ∀ k, x.cell = some k → x.stale = false → x.onBus = true → (refs s k).2 = some x.id

theorem ref_named_iff {r : Option Ref} {i : Nat} : r.map Ref.id = some i ↔ ∃ v, r = some ⟨i, v⟩ := by
  constructor
  · intro h
    obtain ⟨⟨id, v⟩, hr, rfl⟩ := Option.map_eq_some_iff.1 h
    exact ⟨v, hr⟩
  · rintro ⟨v, rfl⟩
    rfl

theorem cell_of_profileOf {x : Transfer} {id : ProfileId} (h : x.origin.profileOf = some id) : x.cell = some (.inl id) := by
  unfold Origin.profileOf at h
  unfold Transfer.cell
  split at h <;> simp_all

theorem cell_of_latch {x : Transfer} {slot : Slot} (h : x.origin = .latch) (hslot : x.slot = some slot) :
    x.cell = some (.inr slot) := by
  simp [Transfer.cell, h, hslot]

/-- A transfer with a cell is a write of the profile or a latch of the slot. -/
theorem cell_eq_inl {x : Transfer} {id : ProfileId} (h : x.cell = some (.inl id)) : x.origin.profileOf = some id := by
  unfold Transfer.cell at h
  split at h <;> simp_all [Origin.profileOf]

theorem cell_eq_inr {x : Transfer} {slot : Slot} (h : x.cell = some (.inr slot)) : x.origin = .latch ∧ x.slot = some slot := by
  unfold Transfer.cell at h
  split at h <;> simp_all

theorem cell_automatic {x : Transfer} {k : ProfileId ⊕ Slot} (h : x.cell = some k) : x.automatic = true := by
  unfold Transfer.cell at h
  split at h <;> simp_all [Transfer.automatic, Transfer.cls, Origin.cls]

/-! ### The invariant -/

/-- Which transfers the laws of latches and writes are not asked of, by handle and origin. -/
abbrev Excuse : Type := Nat → Origin → Prop

/-- The laws of slots, and of latches and writes for the transfers that are not excused. -/
structure Lawful (X : Excuse) (s : State) : Prop where
  one : OneOnBus s
  ctx : ∀ slot : Slot, CtxLaw s.ctxs[slot]
  transfer : ∀ x ∈ s.bm.queue, TransferLaw s x
  named : ∀ x ∈ s.bm.queue, ¬ X x.id x.origin → NamedLaw s x

/-- Everything but latches is excused. -/
def notLatch : Excuse := fun _ o => o ≠ .latch

/-- Latches are excused. -/
def onlyLatch : Excuse := fun _ o => o = .latch

theorem lawful_notLatch_iff {s : State} : Lawful notLatch s ↔ OneOnBus s ∧ SlotLaw s ∧ LatchLaw s := by
  constructor
  · intro h
    refine ⟨h.one, slotLaw_iff.2 ⟨h.ctx, h.transfer⟩, fun x hx hlatch hstale => ?_⟩
    have hnamed := h.named x hx (by simp [notLatch, hlatch])
    obtain ⟨slot, hslot, hsettled, -⟩ := hnamed.placed (.inl hlatch) hstale
    have hcell := cell_of_latch hlatch hslot
    exact ⟨slot, hslot, hsettled, hnamed.waiting _ hcell hstale, hnamed.onBus _ hcell hstale⟩
  · rintro ⟨hone, hslot, hlatch⟩
    obtain ⟨hctx, htransfer⟩ := slotLaw_iff.1 hslot
    refine ⟨hone, hctx, htransfer, fun x hx hX => ?_⟩
    have horigin : x.origin = .latch := by simpa [notLatch] using hX
    have hlaw := hlatch x hx horigin
    have hcell {k : ProfileId ⊕ Slot} (hk : x.cell = some k) {slot : Slot} (hslot : x.slot = some slot) :
        k = .inr slot := by
      rw [cell_of_latch horigin hslot] at hk
      exact (Option.some.inj hk).symm
    refine ⟨fun _ hstale => ?_, fun k hk hstale hbus => ?_, fun k hk hstale hbus => ?_⟩
    · obtain ⟨slot, hslot, hsettled, -⟩ := hlaw hstale
      exact ⟨slot, hslot, hsettled, by simp [horigin, Origin.profileOf]⟩
    · obtain ⟨slot, hslot, -, hwaiting, -⟩ := hlaw hstale
      rw [hcell hk hslot]
      exact hwaiting hbus
    · obtain ⟨slot, hslot, -, -, honbus⟩ := hlaw hstale
      rw [hcell hk hslot]
      exact honbus hbus

theorem lawful_onlyLatch_iff {s : State} : Lawful onlyLatch s ↔ OneOnBus s ∧ SlotLaw s ∧ WriteLaw s := by
  constructor
  · intro h
    refine ⟨h.one, slotLaw_iff.2 ⟨h.ctx, h.transfer⟩, fun x hx id hid hstale => ?_⟩
    have hcell := cell_of_profileOf hid
    have hnamed := h.named x hx (by rintro (horigin : x.origin = .latch); simp [horigin, Origin.profileOf] at hid)
    obtain ⟨slot, hslot, hsettled, hprofile⟩ := hnamed.placed (.inr (by simp [hid])) hstale
    obtain ⟨p, hp, hpslot⟩ := hprofile id hid
    exact ⟨slot, p, hslot, hsettled, hp, hpslot, fun hbus => ref_named_iff.1 (hnamed.waiting _ hcell hstale hbus),
      fun hbus => ref_named_iff.1 (hnamed.onBus _ hcell hstale hbus)⟩
  · rintro ⟨hone, hslot, hwrite⟩
    obtain ⟨hctx, htransfer⟩ := slotLaw_iff.1 hslot
    refine ⟨hone, hctx, htransfer, fun x hx hX => ?_⟩
    have hnotLatch : x.origin ≠ .latch := hX
    have hprofile {k : ProfileId ⊕ Slot} (hk : x.cell = some k) : ∃ id, k = .inl id ∧ x.origin.profileOf = some id := by
      cases k with
      | inl id => exact ⟨id, rfl, cell_eq_inl hk⟩
      | inr slot => exact absurd (cell_eq_inr hk).1 hnotLatch
    refine ⟨fun hkind hstale => ?_, fun k hk hstale hbus => ?_, fun k hk hstale hbus => ?_⟩
    · obtain ⟨id, hid⟩ := Option.isSome_iff_exists.1 (hkind.resolve_left hnotLatch)
      obtain ⟨slot, p, hslot, hsettled, hp, hpslot, -⟩ := hwrite x hx id hid hstale
      refine ⟨slot, hslot, hsettled, fun id' hid' => ?_⟩
      obtain rfl : id = id' := Option.some.inj (hid.symm.trans hid')
      exact ⟨p, hp, hpslot⟩
    · obtain ⟨id, rfl, hid⟩ := hprofile hk
      obtain ⟨slot, p, -, -, -, -, hwaiting, -⟩ := hwrite x hx id hid hstale
      exact ref_named_iff.2 (hwaiting hbus)
    · obtain ⟨id, rfl, hid⟩ := hprofile hk
      obtain ⟨slot, p, -, -, -, -, -, honbus⟩ := hwrite x hx id hid hstale
      exact ref_named_iff.2 (honbus hbus)

/-! ### What the laws look at -/

theorem TransferLaw.congr {s t : State} {x : Transfer} (h : TransferLaw s x) (hctxs : t.ctxs = s.ctxs) : TransferLaw t x := by
  obtain ⟨hmade, hstale, hwithdrawn⟩ := h
  exact ⟨by rwa [hctxs], hstale, by rwa [hctxs]⟩

/-- The slot of a well placed transfer stays settled and its profile active. -/
theorem WellPlaced.mono {s t : State} {x : Transfer} {slot : Slot}
    (hflag : s.msgs.ceInvalidate[slot] = false → t.msgs.ceInvalidate[slot] = false)
    (hactive : ∀ id, activeProfile t id = activeProfile s id) (h : WellPlaced s x slot) : WellPlaced t x slot := by
  obtain ⟨hslot, hsettled, hprofile⟩ := h
  refine ⟨hslot, hflag hsettled, fun id hid => ?_⟩
  rw [hactive]
  exact hprofile id hid

/-- Where flags, active profiles and the transfer's own cell stand as they were, it is named as it was. -/
theorem NamedLaw.mono {s t : State} {x : Transfer} (h : NamedLaw s x)
    (hflag : ∀ slot : Slot, x.slot = some slot → s.msgs.ceInvalidate[slot] = false → t.msgs.ceInvalidate[slot] = false)
    (hactive : ∀ id, activeProfile t id = activeProfile s id)
    (hrefs : ∀ k, x.cell = some k → refs t k = refs s k) : NamedLaw t x := by
  refine ⟨fun hkind hstale => ?_, fun k hk => ?_, fun k hk => ?_⟩
  · obtain ⟨slot, hplaced⟩ := h.placed hkind hstale
    exact ⟨slot, hplaced.mono (hflag slot hplaced.ofSlot) hactive⟩
  · rw [hrefs k hk]
    exact h.waiting k hk
  · rw [hrefs k hk]
    exact h.onBus k hk

theorem refs_congr {s t : State} (hshadows : t.ce.shadows = s.ce.shadows) (hlatches : t.ce.latches = s.ce.latches)
    (k : ProfileId ⊕ Slot) : refs t k = refs s k := by
  cases k with
  | inl id => simp [refs, hshadows]
  | inr slot => simp [refs, hlatches]

variable {X : Excuse} {s t : State}

theorem Lawful.still (h : Lawful X s) (hstill : Still s t) (hactive : ∀ id, activeProfile t id = activeProfile s id) :
    Lawful X t where
  one := oneOnBus_of_bm hstill.queue hstill.nextId h.one
  ctx slot := by
    rw [hstill.ctxs]
    exact h.ctx slot
  transfer x hx := (h.transfer x (hstill.queue ▸ hx)).congr hstill.ctxs
  named x hx hX := (h.named x (hstill.queue ▸ hx) hX).mono (fun slot _ => by rw [hstill.invalidate]; exact id) hactive
    fun k _ => refs_congr hstill.shadows hstill.latches k

/-- Beside the queue, contexts and references, every profile a write is asked for keeps an active content for its slot. -/
theorem Lawful.stillProfiles {X' : Excuse} (h : Lawful X s) (hstill : Still s t) (hX : ∀ i o, X i o → X' i o)
    (hactive : ∀ x ∈ s.bm.queue, ¬ X' x.id x.origin → ∀ id p, x.origin.profileOf = some id → activeProfile s id = some p →
      ∃ q, activeProfile t id = some q ∧ q.header.slot = p.header.slot) : Lawful X' t where
  one := oneOnBus_of_bm hstill.queue hstill.nextId h.one
  ctx slot := by
    rw [hstill.ctxs]
    exact h.ctx slot
  transfer x hx := (h.transfer x (hstill.queue ▸ hx)).congr hstill.ctxs
  named x hx hX' := by
    rw [hstill.queue] at hx
    have hnamed := h.named x hx fun hexc => hX' (hX _ _ hexc)
    have hrefs := refs_congr hstill.shadows hstill.latches
    refine ⟨fun hkind hfresh => ?_, fun k hk => ?_, fun k hk => ?_⟩
    · obtain ⟨i, hi, hsettled, hprofile⟩ := hnamed.placed hkind hfresh
      refine ⟨i, hi, by rwa [hstill.invalidate], fun id hid => ?_⟩
      obtain ⟨p, hp, hpslot⟩ := hprofile id hid
      obtain ⟨q, hq, hqslot⟩ := hactive x hx hX' id p hid hp
      exact ⟨q, hq, hqslot.trans hpslot⟩
    · rw [hrefs]
      exact hnamed.waiting k hk
    · rw [hrefs]
      exact hnamed.onBus k hk

theorem activeProfile_congr (hcs : t.cs = s.cs) (id : ProfileId) : activeProfile t id = activeProfile s id := by
  simp [activeProfile, hcs]

theorem Lawful.serene (h : Lawful X s) (hserene : Serene s t) : Lawful X t :=
  h.still hserene.toStill (activeProfile_congr hserene.cs)

theorem Lawful.offLink (h : Lawful X s) (hoff : OffLink s t) : Lawful X t := h.serene hoff.serene

/-- An excused transfer may stay excused for more reasons. -/
theorem Lawful.excuse {X' : Excuse} (h : Lawful X s) (hX : ∀ i o, X i o → X' i o) : Lawful X' s :=
  ⟨h.one, h.ctx, h.transfer, fun x hx hnot => h.named x hx fun hexc => hnot (hX _ _ hexc)⟩

/-! ### The automatic transfers of a slot -/

/-- A live transfer of a slot: automatic and not stale. -/
structure Live (slot : Slot) (x : Transfer) : Prop where
  automatic : x.automatic = true
  fresh : x.stale = false
  ofSlot : x.slot = some slot

/-- No live transfer of the slot is queued. -/
def NoLive (slot : Slot) (s : State) : Prop := ∀ x ∈ s.bm.queue, ¬ Live slot x

theorem Lawful.madeIn (h : Lawful X s) {x : Transfer} (hx : x ∈ s.bm.queue) {slot : Slot} (hlive : Live slot x) :
    MadeIn s.ctxs[slot] x := by
  obtain ⟨i, hi, hmade⟩ := (h.transfer x hx).made hlive.automatic hlive.fresh
  obtain rfl : i = slot := Option.some.inj (hi.symm.trans hlive.ofSlot)
  exact hmade

/-- A probing or loading slot that awaits nothing has no live transfer. -/
theorem Lawful.noLive (h : Lawful X s) {slot : Slot} (hawaited : s.ctxs[slot].awaited = none)
    (hstate : s.ctxs[slot].state ≠ .inService) : NoLive slot s := by
  intro x hx hlive
  have hmade := h.madeIn hx hlive
  have hauto := hlive.automatic
  unfold MadeIn at hmade
  split at hmade <;> simp_all [Transfer.automatic, Transfer.cls, Origin.cls]

/-- A context that awaits nothing allows what one in the same state allows that awaits something or nothing. -/
theorem MadeIn.of_idle {c c' : Ctx} {x : Transfer} (hidle : c.awaited = none) (hstate : c'.state = c.state)
    (h : MadeIn c x) : MadeIn c' x := by
  unfold MadeIn at *
  split at h <;> simp_all

/-- Queued transfers with one handle are one transfer. -/
theorem OneOnBus.eq_of_id (h : OneOnBus s) {x y : Transfer} (hx : x ∈ s.bm.queue) (hy : y ∈ s.bm.queue)
    (hid : x.id = y.id) : x = y := by
  have hnodup : (s.bm.queue.map Transfer.id).Nodup := List.pairwise_map.2 h.1
  exact List.inj_on_of_nodup_map hnodup hx hy hid

/-- At most one queued transfer is on the bus. -/
theorem OneOnBus.eq_of_onBus (h : OneOnBus s) {x y : Transfer} (hx : x ∈ s.bm.queue) (hy : y ∈ s.bm.queue)
    (hxbus : x.onBus = true) (hybus : y.onBus = true) : x = y := by
  have hxm := List.mem_filter.2 ⟨hx, hxbus⟩
  have hym := List.mem_filter.2 ⟨hy, hybus⟩
  match hq : s.bm.queue.filter fun t => t.onBus with
  | [] => simp [hq] at hxm
  | [z] => simp_all
  | z :: w :: rest =>
    have hlen := h.2.2
    simp [hq] at hlen

end Sys2Proof.Machine
end

section
/-! Entries into target states: what each leaves of context, queue and announcements (R64 to R68). -/

namespace Sys2Proof.Machine

/-! ### The queue -/

theorem purgeManual_queue (p : Transfer → Bool) (cause : CancelCause) (s : State) :
    (purgeManual p cause s).bm.queue = s.bm.queue.filter (fun t => !p t) := by simp [purgeManual]

@[simp] theorem purgeManual_msgs (p : Transfer → Bool) (cause : CancelCause) (s : State) :
    (purgeManual p cause s).msgs.ceInvalidate = s.msgs.ceInvalidate
      ∧ (purgeManual p cause s).msgs.notices = s.msgs.notices := by simp [purgeManual]

/-- The raw writes a slot's record claims the address of (R68). -/
def claimedRawWrite (s : State) (slot : Slot) (x : Transfer) : Bool :=
  (activeRecord s slot).any (fun r => waitingRawWrite r.addr x)

theorem purgeRawWrites_queue (slot : Slot) (s : State) :
    (purgeRawWrites slot s).bm.queue = s.bm.queue.filter (fun x => !claimedRawWrite s slot x) := by
  unfold purgeRawWrites claimedRawWrite
  split
  · rename_i r hr
    simpa [hr] using purgeManual_queue ..
  · rename_i hr
    simp [hr]

@[simp] theorem purgeRawWrites_msgs (slot : Slot) (s : State) :
    (purgeRawWrites slot s).msgs.ceInvalidate = s.msgs.ceInvalidate
      ∧ (purgeRawWrites slot s).msgs.notices = s.msgs.notices := by
  unfold purgeRawWrites
  split <;> simp

@[simp] theorem purgeRawWrites_frame (slot : Slot) (s : State) :
    (purgeRawWrites slot s).ctxs = s.ctxs ∧ (purgeRawWrites slot s).ce = s.ce := by
  unfold purgeRawWrites
  split <;> simp

/-- The MANUAL transfers an entry purges: those addressed to a slot that enters DISABLED or UNCONFIGURED, and raw
writes to the address of one that enters a state of automatic use (R67, R68). -/
def purgedAtEntry (s : State) (slot : Slot) (st : TargetState) (x : Transfer) : Bool :=
  (decide (st = .disabled ∨ st = .unconfigured) && waitingManualOf slot x)
    || (automaticUse st && claimedRawWrite s slot x)

theorem purgedAtEntry_manual {s : State} {slot : Slot} {st : TargetState} {x : Transfer}
    (h : purgedAtEntry s slot st x = true) : x.cls = .manual ∧ x.onBus = false := by
  simp only [purgedAtEntry, Bool.or_eq_true, Bool.and_eq_true] at h
  rcases h with ⟨-, h⟩ | ⟨-, h⟩
  · simp_all [waitingManualOf]
  · obtain ⟨r, -, h⟩ := (Option.any_eq_true _ _).1 h
    simp_all [waitingRawWrite]

/-- A queued transfer as the entry actions leave it: the slot's automatic one on the bus is stale (R66). -/
def markedStale (slot : Slot) (x : Transfer) : Transfer := if onBusAutomaticOf slot x then { x with stale := true } else x

/-- The queue behind the entry actions of R66. -/
def quietQueue (slot : Slot) (q : List Transfer) : List Transfer :=
  (q.filter (fun x => !waitingAutomaticOf slot x)).map (markedStale slot)

theorem entryActions_queue (slot : Slot) (s : State) : (entryActions slot s).bm.queue = quietQueue slot s.bm.queue := rfl

/-- The entry actions and purges of an entry, behind the naming of its state. -/
theorem beginEntry_eq (slot : Slot) (st : TargetState) (r : Reason) (d : Detail) (s : State) :
    ∃ u v, u = (if cleanEntry st then entryActions slot (modCtx slot (nameEntry st r d) s)
        else modCtx slot (nameEntry st r d) s)
      ∧ v = (if st = .disabled ∨ st = .unconfigured then purgeSlotManual slot .slotState u else u)
      ∧ beginEntry slot st r d s = if automaticUse st then purgeRawWrites slot v else v :=
  ⟨_, _, rfl, rfl, rfl⟩

theorem beginEntry_queue (slot : Slot) (st : TargetState) (r : Reason) (d : Detail) (s : State) :
    (beginEntry slot st r d s).bm.queue =
      (if cleanEntry st then quietQueue slot s.bm.queue else s.bm.queue).filter
        (fun x => !purgedAtEntry s slot st x) := by
  obtain ⟨u, v, hu, hv, h⟩ := beginEntry_eq slot st r d s
  have hucs : u.cs = s.cs := by rw [hu]; split <;> simp
  have hvcs : v.cs = s.cs := by rw [hv]; split <;> simp [hucs]
  have huq : u.bm.queue = if cleanEntry st then quietQueue slot s.bm.queue else s.bm.queue := by
    rw [hu]
    split
    · exact entryActions_queue ..
    · rfl
  have hvq : v.bm.queue = u.bm.queue.filter
      (fun x => !(decide (st = .disabled ∨ st = .unconfigured) && waitingManualOf slot x)) := by
    rw [hv]
    split <;> rename_i hst
    · simpa [hst, purgeSlotManual] using purgeManual_queue (waitingManualOf slot) .slotState u
    · simp [hst]
  have hrecord : claimedRawWrite v slot = claimedRawWrite s slot := by
    funext x
    simp [claimedRawWrite, activeRecord, hvcs]
  have hq : (beginEntry slot st r d s).bm.queue =
      v.bm.queue.filter (fun x => !(automaticUse st && claimedRawWrite s slot x)) := by
    rw [h]
    split <;> rename_i hst
    · simp [purgeRawWrites_queue, hrecord, hst]
    · simp [hst]
  rw [hq, hvq, huq, List.filter_filter]
  congr 1
  funext x
  simp [purgedAtEntry, Bool.and_comm]

/-- Behind an entry the slot's context is the named one, cleaned where the entry actions are those of R66. -/
theorem beginEntry_ctxs (slot : Slot) (st : TargetState) (r : Reason) (d : Detail) (s : State) :
    (beginEntry slot st r d s).ctxs = s.ctxs.set slot
      (if cleanEntry st then cleanCtx (namedHold slot s) (nameEntry st r d s.ctxs[slot])
        else nameEntry st r d s.ctxs[slot]) := by
  obtain ⟨u, v, hu, hv, h⟩ := beginEntry_eq slot st r d s
  have hvu : v.ctxs = u.ctxs := by rw [hv]; split <;> simp [purgeSlotManual]
  have hctxs : (beginEntry slot st r d s).ctxs = v.ctxs := by rw [h]; split <;> simp
  rw [hctxs, hvu, hu]
  split
  · have hhold : namedHold slot (modCtx slot (nameEntry st r d) s) = namedHold slot s := rfl
    simp [entryActions, hhold]
  · simp

/-- Behind an entry the CE is told where the entry actions are those of R66, and nothing else changed beside the context,
the queue and the link. -/
theorem beginEntry_rest (slot : Slot) (st : TargetState) (r : Reason) (d : Detail) (s : State) :
    (beginEntry slot st r d s).ce = s.ce
      ∧ (beginEntry slot st r d s).msgs.notices = s.msgs.notices
      ∧ (beginEntry slot st r d s).msgs.ceInvalidate
          = (if cleanEntry st then s.msgs.ceInvalidate.set slot true else s.msgs.ceInvalidate) := by
  obtain ⟨u, v, hu, hv, h⟩ := beginEntry_eq slot st r d s
  have hu' : u.ce = s.ce ∧ u.msgs.notices = s.msgs.notices
      ∧ u.msgs.ceInvalidate = if cleanEntry st then s.msgs.ceInvalidate.set slot true else s.msgs.ceInvalidate := by
    rw [hu]
    split <;> simp [entryActions, purgeAutomatic]
  have hv' : v.ce = u.ce ∧ v.msgs.notices = u.msgs.notices ∧ v.msgs.ceInvalidate = u.msgs.ceInvalidate := by
    rw [hv]
    split <;> simp [purgeSlotManual]
  obtain ⟨hce, hnotices, hinvalidate⟩ := hu'
  obtain ⟨hce', hnotices', hinvalidate'⟩ := hv'
  rw [h]
  split <;> simp [hce, hnotices, hinvalidate, hce', hnotices', hinvalidate']

end Sys2Proof.Machine
end

section
/-! The laws through single updates: departures, changes of a context, of queued transfers and of references, enqueues,
and the entries into target states. -/

namespace Sys2Proof.Machine

variable {X : Excuse} {s t : State}

/-! ### Departures -/

theorem Lawful.departWhere (h : Lawful X s) (p : Transfer → Bool) : Lawful X (departWhere p s) where
  one := oneOnBus_departWhere p h.one
  ctx := h.ctx
  transfer x hx := (h.transfer x (List.mem_of_mem_filter hx)).congr rfl
  named x hx hX := (h.named x (List.mem_of_mem_filter hx) hX).mono (fun _ _ => id) (fun _ => rfl) (fun _ _ => rfl)

theorem Lawful.depart (h : Lawful X s) (id : Nat) : Lawful X (depart id s) := h.departWhere _

theorem Lawful.cancelAll (h : Lawful X s) (cause : CancelCause) (ts : List Transfer) : Lawful X (cancelAll cause ts s) :=
  h.serene ⟨by constructor <;> simp, by constructor <;> simp⟩

theorem Lawful.purgeManual (h : Lawful X s) (p : Transfer → Bool) (cause : CancelCause) :
    Lawful X (purgeManual p cause s) := (h.departWhere p).cancelAll _ _

theorem Lawful.postTarget (h : Lawful X s) (slot : Slot) (before : TargetState) : Lawful X (postTarget slot before s) := by
  unfold Machine.postTarget
  dsimp only
  split
  · exact h.serene (serene_postNotice _ _ _)
  · exact h.serene ⟨⟨rfl, rfl, rfl, rfl, rfl, rfl⟩, ⟨rfl, rfl, rfl, rfl, rfl, rfl⟩⟩

/-! ### A context -/

/-- A context changes within its law, where every live transfer of the slot is still made in it, and it awaits no queued
transfer anew. -/
theorem Lawful.modCtx (h : Lawful X s) (slot : Slot) {f : Ctx → Ctx} (hctx : CtxLaw (f s.ctxs[slot]))
    (hmade : ∀ x ∈ s.bm.queue, Live slot x → MadeIn s.ctxs[slot] x → MadeIn (f s.ctxs[slot]) x)
    (hawaited : ∀ x ∈ s.bm.queue, (f s.ctxs[slot]).awaited = some x.id → s.ctxs[slot].awaited = some x.id) :
    Lawful X (modCtx slot f s) where
  one := oneOnBus_of_bm rfl rfl h.one
  ctx i := by
    rw [modCtx_get]
    split
    · exact hctx
    · exact h.ctx i
  transfer x hx := by
    obtain ⟨hmadeIn, hstale, hwithdrawn⟩ := h.transfer x hx
    refine ⟨fun hauto hfresh => ?_, hstale, fun hx' id i hid hi => ?_⟩
    · obtain ⟨i, hi, hxi⟩ := hmadeIn hauto hfresh
      refine ⟨i, hi, ?_⟩
      rw [modCtx_get]
      split
      · rename_i heq
        subst heq
        exact hmade x hx ⟨hauto, hfresh, hi⟩ hxi
      · exact hxi
    · have hold := hwithdrawn hx' id i hid hi
      rw [modCtx_get]
      split
      · rename_i heq
        subst heq
        exact fun hnew => hold (hawaited x hx hnew)
      · exact hold
  named x hx hX := (h.named x hx hX).mono (fun _ _ => id) (fun _ => rfl) (fun _ _ => rfl)

/-- What the laws of a context and of the transfers made in it look at. -/
structure SameSequence (c c' : Ctx) : Prop where
  state : c'.state = c.state
  checkStep : c'.checkStep = c.checkStep
  awaited : c'.awaited = c.awaited
  staleHold : c'.staleHold = c.staleHold
  checkTimer : c'.checkTimer = c.checkTimer
  faultTimer : c'.faultTimer = c.faultTimer
  roomMark : c'.roomMark = c.roomMark

theorem SameSequence.ctxLaw {c c' : Ctx} (h : SameSequence c c') (hc : CtxLaw c) : CtxLaw c' := by
  obtain ⟨hold, hcheck, hfault, hchecking, hawaiting, hroom⟩ := hc
  constructor <;> simpa [h.state, h.checkStep, h.awaited, h.staleHold, h.checkTimer, h.faultTimer, h.roomMark]

theorem SameSequence.madeIn {c c' : Ctx} (h : SameSequence c c') {x : Transfer} (hx : MadeIn c x) : MadeIn c' x := by
  unfold MadeIn at *
  rw [h.state, h.checkStep, h.awaited]
  exact hx

theorem Lawful.modCtx_same (h : Lawful X s) (slot : Slot) {f : Ctx → Ctx} (hf : ∀ c, SameSequence c (f c)) :
    Lawful X (Machine.modCtx slot f s) :=
  h.modCtx slot ((hf _).ctxLaw (h.ctx slot)) (fun _ _ _ => (hf _).madeIn) fun x _ hx => by rwa [(hf _).awaited] at hx

/-! ### Queued transfers and references -/

/-- Queued transfers are changed, and references moved with them, where every transfer that is not excused is named. -/
theorem Lawful.mapQueue (h : Lawful X s) {f : Transfer → Transfer} (hone : OneOnBus t)
    (hqueue : t.bm.queue = s.bm.queue.map f) (hctxs : t.ctxs = s.ctxs)
    (hflags : t.msgs.ceInvalidate = s.msgs.ceInvalidate) (hactive : ∀ id, activeProfile t id = activeProfile s id)
    (hf : ∀ x ∈ s.bm.queue, (f x).id = x.id ∧ (f x).origin = x.origin ∧ (f x).slot = x.slot ∧ (f x).stale = x.stale
      ∧ (x.stale = true → (f x).onBus = true))
    (hnamed : ∀ x ∈ s.bm.queue, ¬ X x.id x.origin → x.stale = false → ∀ k, x.cell = some k →
      ((f x).onBus = false → (refs t k).1 = some x.id) ∧ ((f x).onBus = true → (refs t k).2 = some x.id)) :
    Lawful X t where
  one := hone
  ctx := by
    rw [hctxs]
    exact h.ctx
  transfer y hy := by
    rw [hqueue] at hy
    obtain ⟨x, hx, rfl⟩ := List.mem_map.1 hy
    obtain ⟨hid, horigin, hslot, hstale, hbus⟩ := hf x hx
    obtain ⟨hmade, honBus, hwithdrawn⟩ := h.transfer x hx
    refine ⟨fun hauto hfresh => ?_, fun hst => hbus (hstale ▸ hst), fun hst id i hpid hi => ?_⟩
    · obtain ⟨i, hi, hxi⟩ := hmade (by simpa [Transfer.automatic, Transfer.cls, horigin] using hauto) (hstale ▸ hfresh)
      refine ⟨i, hslot.trans hi, ?_⟩
      rw [hctxs]
      unfold MadeIn at *
      rwa [horigin, hid]
    · rw [hctxs, hid]
      exact hwithdrawn (hstale ▸ hst) id i (horigin ▸ hpid) (hslot ▸ hi)
  named y hy hX := by
    rw [hqueue] at hy
    obtain ⟨x, hx, rfl⟩ := List.mem_map.1 hy
    obtain ⟨hid, horigin, hslot, hstale, -⟩ := hf x hx
    rw [hid, horigin] at hX
    have hcell : (f x).cell = x.cell := by simp [Transfer.cell, horigin, hslot]
    refine ⟨fun hkind hfresh => ?_, fun k hk hfresh hbus => ?_, fun k hk hfresh hbus => ?_⟩
    · rw [horigin] at hkind
      obtain ⟨i, hi, hsettled, hprofile⟩ := (h.named x hx hX).placed hkind (hstale ▸ hfresh)
      refine ⟨i, hslot.trans hi, by rwa [hflags], fun id hpid => ?_⟩
      rw [hactive]
      exact hprofile id (horigin ▸ hpid)
    · rw [hid]
      exact (hnamed x hx hX (hstale ▸ hfresh) k (hcell ▸ hk)).1 hbus
    · rw [hid]
      exact (hnamed x hx hX (hstale ▸ hfresh) k (hcell ▸ hk)).2 hbus

/-- References move beside the queue, where every transfer that is not excused is named. -/
theorem Lawful.moveRefs (h : Lawful X s) (hbm : t.bm = s.bm) (hctxs : t.ctxs = s.ctxs)
    (hflags : t.msgs.ceInvalidate = s.msgs.ceInvalidate) (hactive : ∀ id, activeProfile t id = activeProfile s id)
    (hnamed : ∀ x ∈ s.bm.queue, ¬ X x.id x.origin → x.stale = false → ∀ k, x.cell = some k →
      (x.onBus = false → (refs t k).1 = some x.id) ∧ (x.onBus = true → (refs t k).2 = some x.id)) : Lawful X t :=
  h.mapQueue (f := id) (oneOnBus_of_bm (by rw [hbm]) (by rw [hbm]) h.one) (by simp [hbm]) hctxs hflags hactive
    (fun x hx => ⟨rfl, rfl, rfl, rfl, (h.transfer x hx).staleOnBus⟩) hnamed

/-- The references stand as they were. -/
theorem Lawful.sameRefs (h : Lawful X s) (hbm : t.bm = s.bm) (hctxs : t.ctxs = s.ctxs)
    (hflags : t.msgs.ceInvalidate = s.msgs.ceInvalidate) (hactive : ∀ id, activeProfile t id = activeProfile s id)
    (hrefs : ∀ k, refs t k = refs s k) : Lawful X t :=
  h.moveRefs hbm hctxs hflags hactive fun x hx hX hfresh k hk => by
    rw [hrefs]
    exact ⟨(h.named x hx hX).waiting k hk hfresh, (h.named x hx hX).onBus k hk hfresh⟩

/-- A change of queued transfers that leaves what the laws look at. -/
theorem Lawful.modTransfer (h : Lawful X s) (id : Nat) {f : Transfer → Transfer}
    (hf : ∀ x, (f x).id = x.id ∧ (f x).origin = x.origin ∧ (f x).slot = x.slot ∧ (f x).stale = x.stale
      ∧ (f x).onBus = x.onBus) (hone : OneOnBus (Machine.modTransfer id f s)) :
    Lawful X (Machine.modTransfer id f s) := by
  have hbus (x : Transfer) : (if x.id = id then f x else x).onBus = x.onBus := by
    split
    · exact (hf x).2.2.2.2
    · rfl
  refine h.mapQueue (f := fun x => if x.id = id then f x else x) hone rfl rfl rfl (fun _ => rfl) (fun x hx => ?_)
    fun x hx hX hfresh k hk => ?_
  · rw [hbus]
    have hstale := (h.transfer x hx).staleOnBus
    obtain ⟨hid, horigin, hslot, hst, -⟩ := hf x
    split
    · exact ⟨hid, horigin, hslot, hst, hstale⟩
    · exact ⟨rfl, rfl, rfl, rfl, hstale⟩
  · rw [hbus]
    exact ⟨(h.named x hx hX).waiting k hk hfresh, (h.named x hx hX).onBus k hk hfresh⟩

/-! ### Enqueues -/

/-- A new transfer joins the queue, where it is made in its slot's state and named by its cell. -/
theorem Lawful.addTransfer (h : Lawful X s) (r : Request)
    (hmade : (r.record s.bm.nextId s.bm.nextAge).automatic = true →
      ∃ slot : Slot, r.slot = some slot ∧ MadeIn s.ctxs[slot] (r.record s.bm.nextId s.bm.nextAge))
    (hnamed : ¬ X s.bm.nextId r.origin → NamedLaw s (r.record s.bm.nextId s.bm.nextAge)) :
    Lawful X (addTransfer r s) where
  one := oneOnBus_addTransfer r h.one
  ctx := h.ctx
  transfer x hx := by
    simp only [addTransfer_fields, List.mem_append, List.mem_singleton] at hx
    rcases hx with hx | rfl
    · exact (h.transfer x hx).congr rfl
    · exact ⟨fun hauto _ => hmade hauto, fun hst => by simp [Request.record] at hst,
        fun hst => by simp [Request.record] at hst⟩
  named x hx hX := by
    simp only [addTransfer_fields, List.mem_append, List.mem_singleton] at hx
    rcases hx with hx | rfl
    · exact (h.named x hx hX).mono (fun _ _ => id) (fun _ => rfl) (fun _ _ => rfl)
    · exact (hnamed hX).mono (fun _ _ => id) (fun _ => rfl) (fun _ _ => rfl)

/-- A transfer without a cell is never asked to be named. -/
theorem namedLaw_of_noCell {x : Transfer} (hlatch : x.origin ≠ .latch) (hprofile : x.origin.profileOf = none) :
    NamedLaw s x := by
  have hcell : x.cell = none := by
    cases hk : x.cell with
    | none => rfl
    | some k =>
      cases k with
      | inl id => simp [cell_eq_inl hk] at hprofile
      | inr slot => exact absurd (cell_eq_inr hk).1 hlatch
  exact ⟨fun hkind => by simp [hlatch, hprofile] at hkind, by simp [hcell], by simp [hcell]⟩

/-! ### Entries -/

/-- A slot is quiet: its waiting automatic transfers have left, the one on the bus is stale, and its context awaits
nothing. -/
theorem Lawful.quieted (h : Lawful X s) (slot : Slot) (hone : OneOnBus t)
    (hqueue : ∀ y ∈ t.bm.queue, (y ∈ s.bm.queue ∧ ¬ Live slot y) ∨ (y.onBus = true ∧ y.stale = true ∧ y.slot = some slot))
    (hctx : CtxLaw t.ctxs[slot]) (hidle : t.ctxs[slot].awaited = none) (hothers : ∀ i ≠ slot, t.ctxs[i] = s.ctxs[i])
    (hflags : ∀ i ≠ slot, s.msgs.ceInvalidate[i] = false → t.msgs.ceInvalidate[i] = false)
    (hactive : ∀ id, activeProfile t id = activeProfile s id) (hrefs : ∀ k, refs t k = refs s k) : Lawful X t where
  one := hone
  ctx i := by
    by_cases hi : i = slot
    · exact hi ▸ hctx
    · rw [hothers i hi]
      exact h.ctx i
  transfer y hy := by
    rcases hqueue y hy with ⟨hys, hlive⟩ | ⟨hbus, hstale, hslot⟩
    · obtain ⟨hmade, honBus, hwithdrawn⟩ := h.transfer y hys
      refine ⟨fun hauto hfresh => ?_, honBus, fun hst id i hid hi => ?_⟩
      · obtain ⟨i, hi, hyi⟩ := hmade hauto hfresh
        have hne : i ≠ slot := by
          rintro rfl
          exact hlive ⟨hauto, hfresh, hi⟩
        exact ⟨i, hi, by rwa [hothers i hne]⟩
      · by_cases hne : i = slot
        · rw [hne, hidle]
          nofun
        · rw [hothers i hne]
          exact hwithdrawn hst id i hid hi
    · refine ⟨fun _ hfresh => by simp [hstale] at hfresh, fun _ => hbus, fun _ id i _ hi => ?_⟩
      obtain rfl : slot = i := Option.some.inj (hslot.symm.trans hi)
      rw [hidle]
      nofun
  named y hy hX := by
    rcases hqueue y hy with ⟨hys, hlive⟩ | ⟨-, hstale, -⟩
    · have hnamed := h.named y hys hX
      refine ⟨fun hkind hfresh => ?_, fun k hk => ?_, fun k hk => ?_⟩
      · obtain ⟨i, hplaced⟩ := hnamed.placed hkind hfresh
        have hauto : y.automatic = true := by
          rcases hkind with hkind | hkind
          · simp [Transfer.automatic, Transfer.cls, hkind, Origin.cls]
          · obtain ⟨id, hid⟩ := Option.isSome_iff_exists.1 hkind
            exact cell_automatic (cell_of_profileOf hid)
        have hne : i ≠ slot := by
          rintro rfl
          exact hlive ⟨hauto, hfresh, hplaced.ofSlot⟩
        exact ⟨i, hplaced.mono (hflags i hne) hactive⟩
      · rw [hrefs]
        exact hnamed.waiting k hk
      · rw [hrefs]
        exact hnamed.onBus k hk
    · exact ⟨fun _ hfresh => by simp [hstale] at hfresh, fun k _ hfresh => by simp [hstale] at hfresh,
        fun k _ hfresh => by simp [hstale] at hfresh⟩

theorem beginEntry_ctx (slot : Slot) (st : TargetState) (r : Reason) (d : Detail) (s : State) :
    (beginEntry slot st r d s).ctxs[slot] =
      if cleanEntry st then cleanCtx (namedHold slot s) (nameEntry st r d s.ctxs[slot])
      else nameEntry st r d s.ctxs[slot] := by
  simp [beginEntry_ctxs]

theorem beginEntry_ctx_ne {slot i : Slot} (hi : i ≠ slot) (st : TargetState) (r : Reason) (d : Detail) (s : State) :
    (beginEntry slot st r d s).ctxs[i] = s.ctxs[i] :=
  (evolves_beginEntry slot st r d s).framed.ctxs i (by simpa using hi)

/-- Behind the entry actions of R66 a queued transfer is no live one of the slot, or it is its stale one on the bus. -/
theorem mem_quietQueue {slot : Slot} {q : List Transfer} {y : Transfer} (h : y ∈ quietQueue slot q) :
    (y ∈ q ∧ ¬ Live slot y) ∨ (y.onBus = true ∧ y.stale = true ∧ y.slot = some slot) := by
  obtain ⟨x, hx, rfl⟩ := List.mem_map.1 h
  obtain ⟨hxq, hwait⟩ := List.mem_filter.1 hx
  unfold markedStale
  split
  · rename_i hbus
    simp only [onBusAutomaticOf, Bool.and_eq_true, beq_iff_eq] at hbus
    exact .inr ⟨hbus.1.1, rfl, hbus.2⟩
  · rename_i hbus
    refine .inl ⟨hxq, fun hlive => ?_⟩
    cases hon : x.onBus <;> simp_all [onBusAutomaticOf, waitingAutomaticOf, hlive.automatic, hlive.ofSlot]

/-- The entry actions of R66 with any later value of the slot's own context that awaits nothing. -/
theorem Lawful.beginEntry_clean (h : Lawful X s) (slot : Slot) {st : TargetState} (hst : cleanEntry st = true) (r : Reason)
    (d : Detail) {f : Ctx → Ctx} (hctx : CtxLaw (f (cleanCtx (namedHold slot s) (nameEntry st r d s.ctxs[slot]))))
    (hidle : (f (cleanCtx (namedHold slot s) (nameEntry st r d s.ctxs[slot]))).awaited = none) :
    Lawful X (Machine.modCtx slot f (beginEntry slot st r d s)) := by
  have hself : (Machine.modCtx slot f (beginEntry slot st r d s)).ctxs[slot] =
      f (cleanCtx (namedHold slot s) (nameEntry st r d s.ctxs[slot])) := by
    rw [modCtx_get_self, beginEntry_ctx, if_pos hst]
  obtain ⟨hce, -, hflag⟩ := beginEntry_rest slot st r d s
  refine h.quieted slot (((evolves_beginEntry slot st r d s).trans (evolves_modCtx slot f _)).oneOnBus h.one)
    (fun y hy => ?_) (by rwa [hself]) (by rwa [hself]) (fun i hi => ?_) (fun i hi hfalse => ?_) (fun id => ?_) fun k => ?_
  · change y ∈ (beginEntry slot st r d s).bm.queue at hy
    rw [beginEntry_queue, if_pos hst] at hy
    exact mem_quietQueue (List.mem_of_mem_filter hy)
  · rw [modCtx_get_ne hi, beginEntry_ctx_ne hi]
  · change (beginEntry slot st r d s).msgs.ceInvalidate[i] = false
    have hne : slot.val ≠ i.val := fun he => hi (Fin.ext he.symm)
    simpa [hflag, hst, hne] using hfalse
  · exact activeProfile_congr (by simp) id
  · exact refs_congr (by simp [hce]) (by simp [hce]) k

theorem cleanCtx_law {hold : Option Nat} {st : TargetState} (hst : st ≠ .faultHold) (r : Reason) (d : Detail) (c : Ctx) :
    CtxLaw (cleanCtx hold (nameEntry st r d c)) := by
  constructor <;> simp [cleanCtx, forgetCounts, nameEntry, hst]

theorem Lawful.beginEntry (h : Lawful X s) (slot : Slot) {st : TargetState} (hst : cleanEntry st = true)
    (hfault : st ≠ .faultHold) (r : Reason) (d : Detail) : Lawful X (beginEntry slot st r d s) := by
  have hsame := h.beginEntry_clean slot hst r d (f := fun c => c) (cleanCtx_law hfault r d _) rfl
  exact hsame.serene ⟨⟨rfl, rfl, by simp [Machine.modCtx, setCtx], rfl, rfl, rfl⟩, ⟨rfl, rfl, rfl, rfl, rfl, rfl⟩⟩

theorem Lawful.enterPlain (h : Lawful X s) (slot : Slot) {st : TargetState} (hst : cleanEntry st = true)
    (hfault : st ≠ .faultHold) (r : Reason) (d : Detail) : Lawful X (enterPlain slot st r d s) :=
  (h.beginEntry slot hst hfault r d).postTarget slot _

theorem Lawful.enterFaultHold (h : Lawful X s) (slot : Slot) (r : Reason) (d : Detail) :
    Lawful X (enterFaultHold slot r d s) := by
  refine (h.beginEntry_clean slot (st := .faultHold) rfl r d ?_ ?_).postTarget slot _
  · constructor <;> simp [cleanCtx, forgetCounts, nameEntry]
  · rfl

/-- An entry without the actions of R66, of a slot that awaits nothing and has no live transfer. -/
theorem Lawful.beginEntry_plain (h : Lawful X s) {slot : Slot} {st : TargetState} (hst : cleanEntry st = false)
    (r : Reason) (d : Detail) (hno : NoLive slot s) {f : Ctx → Ctx} (hctx : CtxLaw (f (nameEntry st r d s.ctxs[slot])))
    (hidle : (f (nameEntry st r d s.ctxs[slot])).awaited = none) :
    Lawful X (Machine.modCtx slot f (Machine.beginEntry slot st r d s)) := by
  have hself : (Machine.modCtx slot f (Machine.beginEntry slot st r d s)).ctxs[slot] =
      f (nameEntry st r d s.ctxs[slot]) := by
    rw [modCtx_get_self, beginEntry_ctx, hst]
    rfl
  obtain ⟨hce, -, hflag⟩ := beginEntry_rest slot st r d s
  refine h.quieted slot (((evolves_beginEntry slot st r d s).trans (evolves_modCtx slot f _)).oneOnBus h.one)
    (fun y hy => ?_) (by rwa [hself]) (by rwa [hself]) (fun i hi => ?_) (fun i hi hfalse => ?_) (fun id => ?_) fun k => ?_
  · change y ∈ (Machine.beginEntry slot st r d s).bm.queue at hy
    rw [beginEntry_queue, hst] at hy
    have hys : y ∈ s.bm.queue := List.mem_of_mem_filter hy
    exact .inl ⟨hys, hno y hys⟩
  · rw [modCtx_get_ne hi, beginEntry_ctx_ne hi]
  · change (Machine.beginEntry slot st r d s).msgs.ceInvalidate[i] = false
    simpa [hflag, hst] using hfalse
  · exact activeProfile_congr (by simp) id
  · exact refs_congr (by simp [hce]) (by simp [hce]) k

end Sys2Proof.Machine
end

section
/-! The laws through sequence steps, the load, the probe and the checks. -/

namespace Sys2Proof.Machine

variable {X : Excuse} {s t : State} {slot : Slot}

/-! ### Contexts -/

theorem CtxLaw.noCheck {c : Ctx} (h : CtxLaw c) (hstate : c.state ≠ .inService) :
    c.checkStep = .idle ∧ c.checkTimer = none := by
  constructor
  · by_contra hne
    exact hstate (h.checking hne)
  · cases htimer : c.checkTimer with
    | none => rfl
    | some at' => exact absurd (h.checkTimer (by simp [htimer])).1 hstate

theorem CtxLaw.noHold {c : Ctx} (h : CtxLaw c) (hstate : c.state ≠ .faultHold) : c.faultTimer = none := by
  cases htimer : c.faultTimer with
  | none => rfl
  | some at' => exact absurd (h.faultTimer.1 (by simp [htimer])) hstate

/-- A slot in service between checks awaits nothing. -/
theorem CtxLaw.awaited_none {c : Ctx} (h : CtxLaw c) (hstate : c.state = .inService) (hcheck : c.checkStep = .idle) :
    c.awaited = none := by
  cases hawaited : c.awaited with
  | none => rfl
  | some id => simpa [hstate, hcheck] using h.awaiting (by simp [hawaited])

theorem CtxLaw.markRoom {c : Ctx} (h : CtxLaw c) {mark : Bool}
    (hmark : mark = true → c.state = .probing ∨ c.state = .loading) : CtxLaw { c with roomMark := mark } :=
  ⟨h.hold, h.checkTimer, h.faultTimer, h.checking, h.awaiting, hmark⟩

/-! ### Placing a step -/

/-- The state and check step in which a sequence step of an origin is placed (R82, R88, R94). -/
def StepMadeIn (c : Ctx) (o : Origin) : Prop :=
  match o with
  | .identity => c.state = .probing
  | .image _ | .loadProfile _ | .loadLatch | .loadMarker => c.state = .loading
  | .checkMarker => c.state = .inService ∧ c.checkStep = .marker
  | .checkStatus => c.state = .inService ∧ c.checkStep = .status
  | _ => False

theorem StepMadeIn.madeIn {c c' : Ctx} {x : Transfer} (h : StepMadeIn c x.origin) (hstate : c'.state = c.state)
    (hcheck : c'.checkStep = c.checkStep) (hawaited : c'.awaited = some x.id) : MadeIn c' x := by
  unfold StepMadeIn at h
  unfold MadeIn
  split at h <;> simp_all

/-- A step is placed in a state that has steps. -/
theorem StepMadeIn.awaiting {c : Ctx} {o : Origin} (h : StepMadeIn c o) :
    c.state = .probing ∨ c.state = .loading ∨ c.checkStep ≠ .idle := by
  unfold StepMadeIn at h
  split at h <;> simp_all

theorem StepMadeIn.ne_latch {c : Ctx} {o : Origin} (h : StepMadeIn c o) : o ≠ .latch := by
  rintro rfl
  exact h

/-- An awaited step joins the queue. -/
theorem Lawful.enqueueStep (h : Lawful X s) {r : Request} (hslot : r.slot = some slot)
    (hidle : s.ctxs[slot].awaited = none) (hhold : s.ctxs[slot].staleHold = none)
    (hmade : StepMadeIn s.ctxs[slot] r.origin)
    (hnamed : ¬ X s.bm.nextId r.origin → NamedLaw s (r.record s.bm.nextId s.bm.nextAge)) :
    Lawful X (enqueueStep slot r s) := by
  have heq : Machine.enqueueStep slot r s =
      Machine.addTransfer r (Machine.modCtx slot (fun c => { c with awaited := some s.bm.nextId, roomMark := false }) s) := rfl
  have hlaw : CtxLaw { s.ctxs[slot] with awaited := some s.bm.nextId, roomMark := false } := by
    obtain ⟨hold, hcheck, hfault, hchecking, hawaiting, hroom⟩ := h.ctx slot
    refine ⟨fun hsome => ?_, hcheck, hfault, hchecking, fun _ => hmade.awaiting, nofun⟩
    change s.ctxs[slot].staleHold.isSome = true at hsome
    rw [hhold] at hsome
    cases hsome
  rw [heq]
  refine (h.modCtx slot hlaw (fun x _ _ => .of_idle hidle rfl) fun x hx hnew => ?_).addTransfer r (fun _ => ⟨slot, hslot, ?_⟩)
    fun hX => (hnamed hX).mono (fun _ _ => id) (fun _ => rfl) (fun _ _ => rfl)
  · have hlt := h.one.2.1 x hx
    have heq : s.bm.nextId = x.id := Option.some.inj hnew
    omega
  · rw [modCtx_get_self]
    exact hmade.madeIn (c := s.ctxs[slot]) (x := r.record s.bm.nextId s.bm.nextAge) rfl rfl rfl

/-- A step is placed, or waits for its stale hold or for room. -/
theorem Lawful.placeStep (h : Lawful X s) {r : Request} {marks : Bool} (hslot : r.slot = some slot)
    (hidle : s.ctxs[slot].awaited = none) (hmade : StepMadeIn s.ctxs[slot] r.origin) (hplain : r.origin.profileOf = none)
    (hmarks : marks = true → s.ctxs[slot].state = .probing ∨ s.ctxs[slot].state = .loading) :
    Lawful X (placeStep slot marks r s) := by
  rcases placeStep_cases slot marks r s with ⟨-, heq⟩ | ⟨-, heq⟩ | ⟨hhold, -, heq⟩ <;> rw [heq]
  · exact h
  · exact h.modCtx slot ((h.ctx slot).markRoom hmarks) (fun x _ _ => .of_idle hidle rfl) fun _ _ hx => hx
  · exact h.enqueueStep hslot hidle hhold hmade fun _ => namedLaw_of_noCell hmade.ne_latch hplain

theorem Lawful.placeIdentity (h : Lawful X s) (hidle : s.ctxs[slot].awaited = none)
    (hstate : s.ctxs[slot].state = .probing) : Lawful X (placeIdentity slot s) := by
  rcases placeIdentity_cases slot s with heq | ⟨r, c, -, -, heq⟩ <;> rw [heq]
  · exact h
  · have hself := modCtx_get_self slot (fun x => { x with probe := some c }) s
    have hprobe : Lawful X (Machine.modCtx slot (fun x => { x with probe := some c }) s) :=
      h.modCtx_same slot fun _ => ⟨rfl, rfl, rfl, rfl, rfl, rfl, rfl⟩
    refine hprobe.placeStep (r := readRequest .identity slot r.addr c.reg) rfl ?_ ?_ rfl ?_
    · rw [hself]
      exact hidle
    · rw [hself]
      exact hstate
    · rw [hself]
      exact fun _ => .inl hstate

theorem Lawful.placeCheck (h : Lawful X s) (hidle : s.ctxs[slot].awaited = none) : Lawful X (placeCheck slot s) := by
  have hchecking := (h.ctx slot).checking
  unfold Machine.placeCheck
  split
  · exact h
  · split
    · exact h
    · rename_i hmarker
      split
      · exact h
      · exact h.placeStep rfl hidle ⟨hchecking (by rw [hmarker]; decide), hmarker⟩ rfl nofun
    · rename_i hstatus
      split
      · exact h
      · exact h.placeStep rfl hidle ⟨hchecking (by rw [hstatus]; decide), hstatus⟩ rfl nofun

/-! ### Invalidations and evaluations -/

/-- A slot's invalidation clears no reference of a transfer that is asked to be named. -/
theorem Lawful.invalidateSlot (h : Lawful X s) (hflag : s.msgs.ceInvalidate[slot] = true) :
    Lawful X (invalidateSlot slot s) where
  one := oneOnBus_of_bm rfl rfl h.one
  ctx := h.ctx
  transfer x hx := (h.transfer x hx).congr rfl
  named x hx hX := by
    have hnamed := h.named x hx hX
    have hsettled {i : Slot} (hi : s.msgs.ceInvalidate[i] = false) : i ≠ slot := by
      rintro rfl
      simp [hflag] at hi
    have hflags (i : Slot) (hi : s.msgs.ceInvalidate[i] = false) : (Machine.invalidateSlot slot s).msgs.ceInvalidate[i] = false := by
      have hne : slot.val ≠ i.val := fun he => hsettled hi (Fin.ext he.symm)
      simpa [Machine.invalidateSlot, hne] using hi
    have hrefs (hfresh : x.stale = false) {k : ProfileId ⊕ Slot} (hk : x.cell = some k) :
        refs (Machine.invalidateSlot slot s) k = refs s k := by
      cases k with
      | inl id =>
        have hid := cell_eq_inl hk
        obtain ⟨i, -, hi, hprofile⟩ := hnamed.placed (.inr (by simp [hid])) hfresh
        obtain ⟨p, hp, hpslot⟩ := hprofile id hid
        have hne : i.val ≠ slot.val := fun he => hsettled hi (Fin.ext he)
        have hnot : profileNames s slot id = false := by simp [profileNames, hp, hpslot, hne]
        simp only [refs, Machine.invalidateSlot, mapTable_get, hnot]
        simp
      | inr j =>
        obtain ⟨hlatch, hslot⟩ := cell_eq_inr hk
        obtain ⟨i, hi, hfree, -⟩ := hnamed.placed (.inl hlatch) hfresh
        obtain rfl : i = j := Option.some.inj (hi.symm.trans hslot)
        have hne : slot.val ≠ i.val := fun he => hsettled hfree (Fin.ext he.symm)
        simp [refs, Machine.invalidateSlot, hne]
    refine ⟨fun hkind hfresh => ?_, fun k hk hfresh => ?_, fun k hk hfresh => ?_⟩
    · obtain ⟨i, hplaced⟩ := hnamed.placed hkind hfresh
      exact ⟨i, hplaced.mono (hflags i) fun _ => rfl⟩
    · rw [hrefs hfresh hk]
      exact hnamed.waiting k hk hfresh
    · rw [hrefs hfresh hk]
      exact hnamed.onBus k hk hfresh

theorem Lawful.settleInvalidation (h : Lawful X s) (slot : Slot) : Lawful X (settleInvalidation slot s) := by
  unfold Machine.settleInvalidation
  split
  · rename_i hflag
    exact h.invalidateSlot hflag
  · exact h

theorem Lawful.settleInvalidations (h : Lawful X s) (slots : List Slot) : Lawful X (settleInvalidations slots s) := by
  induction slots generalizing s with
  | nil => exact h
  | cons i is ih => exact ih (h.settleInvalidation i)

theorem settleInvalidation_flag (slot i : Slot) (s : State) :
    (settleInvalidation slot s).msgs.ceInvalidate[i] = if i = slot then false else s.msgs.ceInvalidate[i] := by
  unfold settleInvalidation
  split
  · by_cases hi : i = slot
    · simp [invalidateSlot, hi]
    · have hne : slot.val ≠ i.val := fun he => hi (Fin.ext he.symm)
      simp [invalidateSlot, hi, hne]
  · split
    · simp_all
    · rfl

@[simp] theorem settleInvalidation_frame (slot : Slot) (s : State) :
    (settleInvalidation slot s).ctxs = s.ctxs ∧ (settleInvalidation slot s).bm = s.bm
      ∧ (settleInvalidation slot s).cs = s.cs ∧ (settleInvalidation slot s).mu = s.mu := by
  unfold settleInvalidation
  split <;> simp [invalidateSlot]

/-- A shadow changes beside its references. -/
theorem refs_modShadow_same {id : ProfileId} {f : Shadow → Shadow}
    (hf : ∀ sh, (f sh).waiting = sh.waiting ∧ (f sh).onBus = sh.onBus) (s : State) (k : ProfileId ⊕ Slot) :
    refs (modShadow id f s) k = refs s k := by
  cases k with
  | inl i =>
    simp only [refs, modShadow, setShadow_get]
    split
    · rename_i hi
      subst hi
      rw [(hf _).1, (hf _).2]
    · rfl
  | inr slot => rfl

theorem Lawful.modShadow_same (h : Lawful X s) {id : ProfileId} {f : Shadow → Shadow}
    (hf : ∀ sh, (f sh).waiting = sh.waiting ∧ (f sh).onBus = sh.onBus) : Lawful X (modShadow id f s) :=
  h.sameRefs rfl rfl rfl (fun _ => rfl) (refs_modShadow_same hf s)

theorem Lawful.recordEvaluation (h : Lawful X s) (id : ProfileId) (p : Profile) (e : Evaluation) (isLoad : Bool) :
    Lawful X (recordEvaluation id p e isLoad s) := by
  have hshadow : Lawful X (Machine.modShadow id (fun sh => { sh with computed := some e.computed, clamped := e.stages.flag }) s) :=
    h.modShadow_same fun _ => ⟨rfl, rfl⟩
  unfold Machine.recordEvaluation
  dsimp only
  split
  · exact hshadow
  · exact hshadow.serene (serene_postNotice _ _ _)

@[simp] theorem recordEvaluation_frame (id : ProfileId) (p : Profile) (e : Evaluation) (isLoad : Bool) (s : State) :
    (recordEvaluation id p e isLoad s).ctxs = s.ctxs ∧ (recordEvaluation id p e isLoad s).bm = s.bm
      ∧ (recordEvaluation id p e isLoad s).cs = s.cs
      ∧ (recordEvaluation id p e isLoad s).msgs.ceInvalidate = s.msgs.ceInvalidate
      ∧ (recordEvaluation id p e isLoad s).ce.latches = s.ce.latches := by
  unfold recordEvaluation
  dsimp only
  split <;> simp

/-! ### A new reference -/

/-- The cell of a new waiting write or latch names it, where no fresh transfer of the cell waits that is not excused. -/
theorem Lawful.newReference (h : Lawful X s) (k : ProfileId ⊕ Slot) (hbm : t.bm = s.bm) (hctxs : t.ctxs = s.ctxs)
    (hflags : t.msgs.ceInvalidate = s.msgs.ceInvalidate) (hactive : ∀ id, activeProfile t id = activeProfile s id)
    (hothers : ∀ k' ≠ k, refs t k' = refs s k') (honBus : (refs t k).2 = (refs s k).2)
    (hfree : ∀ x ∈ s.bm.queue, ¬ X x.id x.origin → x.stale = false → x.cell = some k → x.onBus = true) : Lawful X t := by
  refine h.moveRefs hbm hctxs hflags hactive fun x hx hX hfresh k' hk' => ?_
  have hnamed := h.named x hx hX
  by_cases heq : k' = k
  · subst heq
    have hbus := hfree x hx hX hfresh hk'
    refine ⟨fun hwaits => by simp [hbus] at hwaits, fun _ => ?_⟩
    rw [honBus]
    exact hnamed.onBus k' hk' hfresh hbus
  · rw [hothers k' heq]
    exact ⟨hnamed.waiting k' hk' hfresh, hnamed.onBus k' hk' hfresh⟩

theorem refs_setShadow (id : ProfileId) (sh : Shadow) (s : State) (k : ProfileId ⊕ Slot) :
    refs (setShadow id sh s) k =
      if k = .inl id then (sh.waiting.map Ref.id, sh.onBus.map Ref.id) else refs s k := by
  cases k with
  | inl i =>
    simp only [refs, setShadow_get, Sum.inl.injEq]
    split <;> rfl
  | inr slot => simp [refs]

theorem refs_setLatch (slot : Slot) (l : LatchState) (s : State) (k : ProfileId ⊕ Slot) :
    refs (setLatch slot l s) k = if k = .inr slot then (l.waiting, l.onBus) else refs s k := by
  cases k with
  | inl i => simp [refs]
  | inr i =>
    by_cases hi : i = slot
    · simp [refs, hi]
    · have hne : slot.val ≠ i.val := fun he => hi (Fin.ext he.symm)
      simp [refs, hi, hne]

/-! ### The load -/

/-- A PROFILE step is placed for a profile that names the loading slot. -/
theorem Lawful.placeProfile (h : Lawful X s) (r : TargetRecord) {id : ProfileId} {p : Profile}
    (hidle : s.ctxs[slot].awaited = none) (hstate : s.ctxs[slot].state = .loading) (hp : activeProfile s id = some p)
    (hpslot : p.header.slot = slot.val) : Lawful X (placeProfile slot r id p s) := by
  have hno : NoLive slot s := h.noLive hidle (by rw [hstate]; decide)
  rcases placeProfile_cases slot r id p s with ⟨-, heq⟩ | ⟨-, heq⟩ | ⟨hhold, -, e, -, heq⟩ <;> rw [heq]
  · exact h
  · exact h.modCtx slot ((h.ctx slot).markRoom fun _ => .inr hstate) (fun x _ _ => .of_idle hidle rfl) fun _ _ hx => hx
  · have hevaluated := (h.settleInvalidation slot).recordEvaluation id p e true
    generalize hu : Machine.recordEvaluation id p e true (Machine.settleInvalidation slot s) = u at hevaluated
    have hbm : u.bm = s.bm := by rw [← hu]; simp
    have hctxs : u.ctxs = s.ctxs := by rw [← hu]; simp
    have hcs : u.cs = s.cs := by rw [← hu]; simp
    have hflag : u.msgs.ceInvalidate[slot] = false := by
      have hsame : u.msgs.ceInvalidate = (Machine.settleInvalidation slot s).msgs.ceInvalidate := by rw [← hu]; simp
      rw [hsame, settleInvalidation_flag, if_pos rfl]
    have hrefs (k : ProfileId ⊕ Slot) :=
      refs_setShadow id { u.ce.shadows[id] with waiting := some ⟨s.bm.nextId, e.output⟩ } u k
    have hreferenced : Lawful X (modShadow id (fun sh => { sh with waiting := some ⟨s.bm.nextId, e.output⟩ }) u) := by
      have hself := (hrefs (.inl id)).trans (if_pos rfl)
      refine hevaluated.newReference (.inl id) rfl rfl rfl (fun _ => rfl) (fun k' hk' => (hrefs k').trans (if_neg hk'))
        ((congrArg Prod.snd hself).trans rfl) fun x hx hX hfresh hk => ?_
      exfalso
      have hid := cell_eq_inl hk
      obtain ⟨i, hi, -, hprofile⟩ := (hevaluated.named x hx hX).placed (.inr (by simp [hid])) hfresh
      obtain ⟨q, hq, hqslot⟩ := hprofile id hid
      rw [activeProfile_congr hcs, hp] at hq
      obtain rfl : p = q := Option.some.inj hq
      obtain rfl : i = slot := Fin.ext (hqslot.symm.trans hpslot)
      exact hno x (hbm ▸ hx) ⟨cell_automatic hk, hfresh, hi⟩
    refine hreferenced.enqueueStep rfl ?_ ?_ ?_ fun _ => ?_
    · change u.ctxs[slot].awaited = none
      rw [hctxs]
      exact hidle
    · change u.ctxs[slot].staleHold = none
      rw [hctxs]
      exact hhold
    · change u.ctxs[slot].state = .loading
      rw [hctxs]
      exact hstate
    · refine ⟨fun _ _ => ⟨slot, rfl, hflag, fun id' hid' => ?_⟩, fun k hk _ _ => ?_, fun _ _ _ hbus => by
        simp [Request.record] at hbus⟩
      · obtain rfl : id = id' := Option.some.inj hid'
        exact ⟨p, (activeProfile_congr hcs id).trans hp, hpslot⟩
      · obtain rfl : Sum.inl id = k := Option.some.inj hk
        refine (congrArg Prod.fst ((hrefs (.inl id)).trans (if_pos rfl))).trans ?_
        rw [← hbm]
        rfl

/-- A load's cursor stands at a PROFILE step only where the listed profile serves the slot (R90). -/
def CursorServes (s : State) (slot : Slot) (step : LoadStep) : Prop :=
  ∀ j, step = .profile j → ∃ id, s.ctxs[slot].profileList[j]? = some id ∧ profileServes s slot id = true

theorem profileServes_iff {id : ProfileId} : profileServes s slot id = true ↔
    ∃ p, activeProfile s id = some p ∧ p.header.enabled = true ∧ p.header.slot = slot.val := by
  unfold profileServes
  split
  · rename_i p hp
    simp [hp]
  · rename_i hp
    simp [hp]

theorem firstServing_spec {i j : Nat} {ids : List ProfileId} (h : firstServing s slot i ids = some j) :
    ∃ n id, j = i + n ∧ ids[n]? = some id ∧ profileServes s slot id = true
      ∧ ∀ m < n, ∀ b, ids[m]? = some b → profileServes s slot b = false := by
  induction ids generalizing i with
  | nil => cases h
  | cons a as ih =>
    unfold firstServing at h
    split at h
    · rename_i ha
      cases h
      exact ⟨0, a, rfl, rfl, ha, nofun⟩
    · rename_i ha
      obtain ⟨n, id, rfl, hget, hserves, hskip⟩ := ih h
      refine ⟨n + 1, id, by omega, by simpa using hget, hserves, fun m hm b hb => ?_⟩
      cases m with
      | zero =>
        obtain rfl : a = b := by simpa using hb
        simpa using ha
      | succ m => exact hskip m (by omega) b (by simpa using hb)

theorem cursorServes_fromMarker (c : Ctx) : CursorServes s slot (fromMarker c) := by
  intro j hj
  unfold fromMarker at hj
  split at hj <;> cases hj

theorem cursorServes_fromLatch (c : Ctx) : CursorServes s slot (fromLatch c) := by
  unfold fromLatch
  split
  · exact nofun
  · exact cursorServes_fromMarker c

theorem cursorServes_fromProfile (i : Nat) : CursorServes s slot (fromProfile s slot i) := by
  unfold fromProfile
  split
  · rename_i j hj
    obtain ⟨n, id, rfl, hget, hserves, -⟩ := firstServing_spec hj
    rintro j' ⟨⟩
    exact ⟨id, by rwa [List.getElem?_drop] at hget, hserves⟩
  · exact cursorServes_fromLatch _

theorem cursorServes_fromImage (i : Nat) : CursorServes s slot (fromImage s slot i) := by
  unfold fromImage
  split
  · exact nofun
  · exact cursorServes_fromProfile 0

theorem cursorServes_afterStep (step : LoadStep) : CursorServes s slot (afterStep s slot step) := by
  cases step with
  | identity => exact cursorServes_fromImage 0
  | image i => exact cursorServes_fromImage (i + 1)
  | profile i => exact cursorServes_fromProfile (i + 1)
  | latch => exact cursorServes_fromMarker _
  | marker => exact nofun
  | finish => exact nofun

theorem cursorServes_presentStep (step : LoadStep) : CursorServes s slot (presentStep s slot step) := by
  cases step with
  | profile i => exact cursorServes_fromProfile i
  | _ => exact nofun

/-- The step at the cursor of a loading slot that awaits nothing is placed. -/
theorem Lawful.placeLoadStep (h : Lawful X s) (r : TargetRecord) {step : LoadStep} (hserves : CursorServes s slot step)
    (hidle : s.ctxs[slot].awaited = none) (hstate : s.ctxs[slot].state = .loading) :
    Lawful X (placeLoadStep slot r step s) := by
  cases step with
  | identity => exact h
  | finish => exact h
  | profile i =>
    obtain ⟨id, hid, hid'⟩ := hserves i rfl
    obtain ⟨p, hp, -, hpslot⟩ := profileServes_iff.1 hid'
    simp only [Machine.placeLoadStep, hid, hp]
    exact h.placeProfile r hidle hstate hp hpslot
  | image i =>
    unfold Machine.placeLoadStep
    dsimp only
    split
    · exact h
    · exact h.placeStep rfl hidle hstate rfl fun _ => .inr hstate
  | latch =>
    unfold Machine.placeLoadStep
    dsimp only
    split
    · exact h
    · exact h.placeStep rfl hidle hstate rfl fun _ => .inr hstate
  | marker =>
    unfold Machine.placeLoadStep
    dsimp only
    split
    · exact h
    · exact h.placeStep rfl hidle hstate rfl fun _ => .inr hstate

/-- The context of a loading slot that awaits nothing as IN_SERVICE takes it. -/
theorem CtxLaw.inService {c : Ctx} (h : CtxLaw c) (hstate : c.state = .loading) (hidle : c.awaited = none)
    {loads : Nat} {timer : Option Nat} : CtxLaw { forgetCounts (nameEntry .inService .loaded .absent c) with
      loads := loads
      cursor := .identity
      roomMark := false
      checkTimer := timer } := by
  have hcheck := (h.noCheck (by simp [hstate])).1
  have hfault := h.noHold (by simp [hstate])
  constructor <;> simp [forgetCounts, nameEntry, hidle, hcheck, hfault]

/-- The context of a probing slot that awaits nothing as LOADING takes it. -/
theorem CtxLaw.loading {c : Ctx} (h : CtxLaw c) (hstate : c.state = .probing) (hidle : c.awaited = none) :
    CtxLaw (nameEntry .loading .probed .absent c) := by
  have hcheck := h.noCheck (by simp [hstate])
  have hfault := h.noHold (by simp [hstate])
  constructor <;> simp [nameEntry, hidle, hcheck, hfault]

/-- The load of a slot that awaits nothing completes. -/
theorem Lawful.enterInService (h : Lawful X s) (hidle : s.ctxs[slot].awaited = none)
    (hstate : s.ctxs[slot].state = .loading) : Lawful X (enterInService slot s) := by
  have hno : NoLive slot s := h.noLive hidle (by rw [hstate]; decide)
  refine (h.beginEntry_plain (st := .inService) rfl .loaded .absent hno ?_ hidle).postTarget slot _
  exact (h.ctx slot).inService hstate hidle

/-- The cursor of a loading slot that awaits nothing moves to a step. -/
theorem Lawful.goToStep (h : Lawful X s) (r : TargetRecord) {step : LoadStep} (hserves : CursorServes s slot step)
    (hidle : s.ctxs[slot].awaited = none) (hstate : s.ctxs[slot].state = .loading) : Lawful X (goToStep slot r step s) := by
  have hself := modCtx_get_self slot (fun c => { c with cursor := step, roomMark := false }) s
  have hmoved : Lawful X (Machine.modCtx slot (fun c => { c with cursor := step, roomMark := false }) s) := by
    obtain ⟨hold, hcheck, hfault, hchecking, hawaiting, -⟩ := h.ctx slot
    exact h.modCtx slot ⟨hold, hcheck, hfault, hchecking, hawaiting, nofun⟩ (fun x _ _ => .of_idle hidle rfl) fun _ _ hx => hx
  have hidle' : (Machine.modCtx slot (fun c => { c with cursor := step, roomMark := false }) s).ctxs[slot].awaited = none := by
    rw [hself]
    exact hidle
  have hstate' : (Machine.modCtx slot (fun c => { c with cursor := step, roomMark := false }) s).ctxs[slot].state = .loading := by
    rw [hself]
    exact hstate
  unfold Machine.goToStep
  dsimp only
  split
  · exact hmoved.enterInService hidle' hstate'
  · refine hmoved.placeLoadStep r (fun j hj => ?_) hidle' hstate'
    obtain ⟨id, hid, hid'⟩ := hserves j hj
    rw [hself]
    exact ⟨id, hid, hid'⟩

@[simp] theorem postTarget_ctxs (slot : Slot) (before : TargetState) (s : State) : (postTarget slot before s).ctxs = s.ctxs := by
  unfold postTarget
  dsimp only
  split <;> rfl

/-- The probe of a slot that awaits nothing goes on to the load. -/
theorem Lawful.enterLoading (h : Lawful X s) (hidle : s.ctxs[slot].awaited = none)
    (hstate : s.ctxs[slot].state = .probing) : Lawful X (enterLoading slot s) := by
  have hno : NoLive slot s := h.noLive hidle (by rw [hstate]; decide)
  unfold Machine.enterLoading
  split
  · exact h
  · rename_i r _
    generalize hf : countSteps (Machine.beginEntry slot .loading .probed .absent s) slot r = f
    have hcounted (c : Ctx) : SameSequence c (f c) := by
      rw [← hf]
      exact ⟨rfl, rfl, rfl, rfl, rfl, rfl, rfl⟩
    have hself : (Machine.modCtx slot f (Machine.beginEntry slot .loading .probed .absent s)).ctxs[slot] =
        f (nameEntry .loading .probed .absent s.ctxs[slot]) := by
      rw [modCtx_get_self, beginEntry_ctx]
      rfl
    have hentered : Lawful X (Machine.modCtx slot f (Machine.beginEntry slot .loading .probed .absent s)) := by
      refine h.beginEntry_plain (st := .loading) rfl .probed .absent hno ((hcounted _).ctxLaw ((h.ctx slot).loading hstate hidle)) ?_
      rw [(hcounted _).awaited]
      exact hidle
    have hidle' : (Machine.modCtx slot f (Machine.beginEntry slot .loading .probed .absent s)).ctxs[slot].awaited = none := by
      rw [hself, (hcounted _).awaited]
      exact hidle
    have hstate' : (Machine.modCtx slot f (Machine.beginEntry slot .loading .probed .absent s)).ctxs[slot].state = .loading := by
      rw [hself, (hcounted _).state]
      rfl
    dsimp only
    rw [hf]
    split
    · rename_i hfinish
      rw [hfinish]
      exact (hentered.postTarget slot _).goToStep r nofun (by rw [postTarget_ctxs]; exact hidle') (by rw [postTarget_ctxs]; exact hstate')
    · exact (hentered.goToStep r (cursorServes_fromImage 0) hidle' hstate').postTarget slot _

/-- Every slot may enter PROBING. -/
theorem Lawful.enterProbing (h : Lawful X s) (slot : Slot) (reason : Reason) (d : Detail) :
    Lawful X (enterProbing slot reason d s) := by
  have hentered : Lawful X (Machine.beginEntry slot .probing reason d s) := h.beginEntry slot rfl (by decide) reason d
  have hctx := beginEntry_ctx slot .probing reason d s
  have hidle : (Machine.beginEntry slot .probing reason d s).ctxs[slot].awaited = none := by rw [hctx]; rfl
  have hstate : (Machine.beginEntry slot .probing reason d s).ctxs[slot].state = .probing := by rw [hctx]; rfl
  unfold Machine.enterProbing
  dsimp only
  split
  · exact hentered.postTarget slot _
  · split
    · exact (hentered.placeIdentity hidle hstate).postTarget slot _
    · exact (hentered.postTarget slot _).enterLoading (by rw [postTarget_ctxs]; exact hidle)
        (by rw [postTarget_ctxs]; exact hstate)

/-! ### Going on -/

theorem Lawful.resumeLoad (h : Lawful X s) (hidle : s.ctxs[slot].awaited = none) (hstate : s.ctxs[slot].state = .loading) :
    Lawful X (resumeLoad slot s) := by
  unfold Machine.resumeLoad
  split
  · exact h
  · exact h.goToStep _ (cursorServes_presentStep _) hidle hstate

theorem Lawful.advanceLoad (h : Lawful X s) (hidle : s.ctxs[slot].awaited = none) (hstate : s.ctxs[slot].state = .loading) :
    Lawful X (advanceLoad slot s) := by
  unfold Machine.advanceLoad
  split
  · exact h
  · exact h.goToStep _ (cursorServes_afterStep _) hidle hstate

theorem Lawful.resumeStep (h : Lawful X s) (slot : Slot) : Lawful X (resumeStep slot s) := by
  unfold Machine.resumeStep
  split
  · exact h
  · rename_i hawaited
    have hidle : s.ctxs[slot].awaited = none := by simpa using hawaited
    split
    · exact h.placeIdentity hidle ‹_›
    · exact h.resumeLoad hidle ‹_›
    · exact h.placeCheck hidle
    · exact h

theorem Lawful.retrySteps (h : Lawful X s) (slots : List Slot) : Lawful X (retrySteps slots s) := by
  induction slots generalizing s with
  | nil => exact h
  | cons i is ih =>
    unfold Machine.retrySteps
    dsimp only
    split
    · split
      · exact h.resumeStep i
      · exact ih (h.resumeStep i)
    · exact ih h

/-! ### Checks -/

/-- The context of a slot in service between checks, or in one whose read is done, takes a check step and timer. -/
theorem Lawful.setCheck (h : Lawful X s) (hstate : s.ctxs[slot].state = .inService) (hidle : s.ctxs[slot].awaited = none)
    {f : Ctx → Ctx} (hawaited : (f s.ctxs[slot]).awaited = none) (hsame : (f s.ctxs[slot]).state = s.ctxs[slot].state)
    (hfault : (f s.ctxs[slot]).faultTimer = s.ctxs[slot].faultTimer) (hroom : (f s.ctxs[slot]).roomMark = s.ctxs[slot].roomMark)
    (htimer : (f s.ctxs[slot]).checkTimer.isSome = true → (f s.ctxs[slot]).checkStep = .idle) :
    Lawful X (Machine.modCtx slot f s) := by
  have hinService : (f s.ctxs[slot]).state = .inService := hsame.trans hstate
  refine h.modCtx slot ⟨fun _ => hawaited, fun hsome => ⟨hinService, htimer hsome⟩, ?_, fun _ => hinService, fun hsome => ?_,
    fun hmark => ?_⟩ (fun x _ _ => .of_idle hidle hsame) fun x _ hnew => ?_
  · rw [hfault, hsame]
    exact (h.ctx slot).faultTimer
  · rw [hawaited] at hsome
    cases hsome
  · rw [hsame]
    exact (h.ctx slot).roomMark (hroom ▸ hmark)
  · rw [hawaited] at hnew
    cases hnew

theorem Lawful.cleanCheck (h : Lawful X s) (hstate : s.ctxs[slot].state = .inService)
    (hidle : s.ctxs[slot].awaited = none) : Lawful X (cleanCheck slot s) :=
  h.setCheck hstate hidle hidle rfl rfl rfl fun _ => rfl

theorem Lawful.startCheck (h : Lawful X s) (hstate : s.ctxs[slot].state = .inService)
    (hcheck : s.ctxs[slot].checkStep = .idle) : Lawful X (startCheck slot s) := by
  have hidle := (h.ctx slot).awaited_none hstate hcheck
  unfold Machine.startCheck
  split
  · exact h
  · refine (h.setCheck hstate hidle hidle rfl rfl rfl fun hsome => by cases hsome).placeCheck ?_
    rw [modCtx_get_self]
    exact hidle

theorem Lawful.recoveryChecks (h : Lawful X s) (slots : List Slot) : Lawful X (recoveryChecks slots s) := by
  induction slots generalizing s with
  | nil => exact h
  | cons i is ih =>
    unfold Machine.recoveryChecks
    refine ih ?_
    split
    · rename_i hdue
      simp only [recoveryCheckDue, Bool.and_eq_true, beq_iff_eq] at hdue
      exact h.startCheck hdue.1.1 hdue.1.2
    · exact h

/-! ### Outcomes of steps -/

theorem Lawful.identityRead (h : Lawful X s) (b : Byte) (hidle : s.ctxs[slot].awaited = none)
    (hstate : s.ctxs[slot].state = .probing) : Lawful X (identityRead slot b s) := by
  unfold Machine.identityRead
  split
  · exact h
  · split
    · exact h.enterLoading hidle hstate
    · exact h.enterPlain slot rfl (by decide) _ _

theorem Lawful.markerRead (h : Lawful X s) (b : Byte) (hidle : s.ctxs[slot].awaited = none)
    (hstate : s.ctxs[slot].state = .inService) (hcheck : s.ctxs[slot].checkStep = .marker) :
    Lawful X (markerRead slot b s) := by
  unfold Machine.markerRead
  split
  · exact h
  · split
    · exact h
    · split
      · split
        · have hstatus : Lawful X (Machine.modCtx slot (fun c => { c with checkStep := .status }) s) := by
            refine h.setCheck hstate hidle hidle rfl rfl rfl fun hsome => ?_
            have hidleStep := ((h.ctx slot).checkTimer hsome).2
            rw [hcheck] at hidleStep
            cases hidleStep
          exact hstatus.placeCheck (by rw [modCtx_get_self]; exact hidle)
        · exact h.cleanCheck hstate hidle
      · have hcounted : Lawful X (Machine.modCtx slot (fun c => { c with losses := satInc c.losses }) s) :=
          h.modCtx_same slot fun _ => ⟨rfl, rfl, rfl, rfl, rfl, rfl, rfl⟩
        exact hcounted.enterProbing slot _ _

theorem Lawful.statusRead (h : Lawful X s) (b : Byte) (hidle : s.ctxs[slot].awaited = none)
    (hstate : s.ctxs[slot].state = .inService) : Lawful X (statusRead slot b s) := by
  unfold Machine.statusRead
  split
  · exact h
  · split
    · exact h.enterFaultHold slot _ _
    · exact h.cleanCheck hstate hidle

/-- A step's DONE, in the state the step was made in. -/
theorem Lawful.stepDone (h : Lawful X s) {o : Origin} (bytes : List Byte) (hidle : s.ctxs[slot].awaited = none)
    (hmade : StepMadeIn s.ctxs[slot] o) : Lawful X (stepDone slot o bytes s) := by
  cases o with
  | identity => exact h.identityRead _ hidle hmade
  | checkMarker => exact h.markerRead _ hidle hmade.1 hmade.2
  | checkStatus => exact h.statusRead _ hidle hmade.1
  | image i => exact h.advanceLoad hidle hmade
  | loadProfile id => exact h.advanceLoad hidle hmade
  | loadLatch => exact h.advanceLoad hidle hmade
  | loadMarker => exact h.advanceLoad hidle hmade
  | _ => exact hmade.elim

/-! ### Host administration, activations and slot set-up -/

theorem Lawful.actOn (h : Lawful X s) (a : Action) (slot : Slot) : Lawful X (actOn a slot s) := by
  cases a with
  | enable => exact h.enterProbing slot _ _
  | disable => exact h.enterPlain slot rfl (by decide) _ _
  | suspend => exact h.enterPlain slot rfl (by decide) _ _
  | resume => exact (h.purgeManual _ _).enterProbing slot _ _
  | reload =>
    have hcleared : Lawful X (Machine.modCtx slot (fun c => { c with recovery := 0 }) s) :=
      h.modCtx_same slot fun _ => ⟨rfl, rfl, rfl, rfl, rfl, rfl, rfl⟩
    exact hcleared.enterProbing slot _ _

theorem Lawful.activationProbe (h : Lawful X s) (slot : Slot) : Lawful X (activationProbe slot s) := by
  have hcleared : Lawful X (Machine.modCtx slot (fun c => { c with recovery := 0 }) s) :=
    h.modCtx_same slot fun _ => ⟨rfl, rfl, rfl, rfl, rfl, rfl, rfl⟩
  exact hcleared.enterProbing slot _ _

theorem Lawful.takeRecord (h : Lawful X s) (slot : Slot) (before : Option TargetRecord) (after : TargetRecord) :
    Lawful X (takeRecord slot before after s) := by
  unfold Machine.takeRecord
  split
  · have hadded : Lawful X (Machine.enterPlain slot .disabled .recordAdded .absent s) :=
      h.enterPlain slot rfl (by decide) _ _
    unfold Machine.recordAdded
    dsimp only
    split
    · exact hadded.enterProbing slot _ _
    · exact hadded
  · have hchange : Lawful X (addressChange slot before after s) := by
      unfold addressChange
      split
      · split
        · exact h
        · exact h.purgeManual _ _
      · exact h
    dsimp only
    split
    · exact hchange.activationProbe slot
    · exact hchange

theorem Lawful.takeRemoval (h : Lawful X s) (slot : Slot) : Lawful X (takeRemoval slot s) := by
  unfold Machine.takeRemoval
  split
  · exact h
  · have hcleared : Lawful X (Machine.modCtx slot clearCounters s) :=
      h.modCtx_same slot fun _ => ⟨rfl, rfl, rfl, rfl, rfl, rfl, rfl⟩
    exact hcleared.enterPlain slot rfl (by decide) _ _

theorem Lawful.holdExpired (h : Lawful X s) (slot : Slot) : Lawful X (holdExpired slot s) := by
  unfold Machine.holdExpired
  dsimp only
  split
  · exact h.enterPlain slot rfl (by decide) _ _
  · have hcounted : Lawful X (Machine.modCtx slot (fun c => { c with recovery := min 15 (c.recovery + 1) }) s) :=
      h.modCtx_same slot fun _ => ⟨rfl, rfl, rfl, rfl, rfl, rfl, rfl⟩
    exact hcounted.enterProbing slot _ _

theorem Lawful.setUpSlots (h : Lawful X s) (part : PartState) (slots : List Slot) : Lawful X (setUpSlots part slots s) := by
  induction slots generalizing s with
  | nil => exact h
  | cons i is ih =>
    refine ih ?_
    unfold setUpSlot
    split
    · exact h
    · have hdisabled : Lawful X (Machine.enterPlain i .disabled .started .absent s) := h.enterPlain i rfl (by decide) _ _
      dsimp only
      split
      · exact hdisabled.enterProbing i _ _
      · exact hdisabled

end Sys2Proof.Machine
end

section
/-! The laws through grants, outcomes and returns: how the reference of a cell follows its transfer (R48 to R52). -/

namespace Sys2Proof.Machine

variable {X : Excuse} {s t : State} {slot : Slot}

/-! ### References of one cell -/

/-- No transfer is on the bus. -/
def BusFree (s : State) : Prop := ∀ x ∈ s.bm.queue, x.onBus = false

/-- On a free bus only the waiting references are asked for. -/
theorem Lawful.keepWaiting (h : Lawful X s) (hfree : BusFree s) (hbm : t.bm = s.bm) (hctxs : t.ctxs = s.ctxs)
    (hflags : t.msgs.ceInvalidate = s.msgs.ceInvalidate) (hactive : ∀ id, activeProfile t id = activeProfile s id)
    (hwaiting : ∀ k, (refs t k).1 = (refs s k).1) : Lawful X t := by
  refine h.moveRefs hbm hctxs hflags hactive fun x hx hX hfresh k hk => ⟨fun hwaits => ?_, fun hbus => ?_⟩
  · rw [hwaiting]
    exact (h.named x hx hX).waiting k hk hfresh hwaits
  · simp [hfree x hx] at hbus

/-- On a free bus a cell may be cleared whose waiting reference names no queued transfer. -/
theorem Lawful.clearCell (h : Lawful X s) (hfree : BusFree s) (k : ProfileId ⊕ Slot) (hbm : t.bm = s.bm)
    (hctxs : t.ctxs = s.ctxs) (hflags : t.msgs.ceInvalidate = s.msgs.ceInvalidate)
    (hactive : ∀ id, activeProfile t id = activeProfile s id) (hothers : ∀ k' ≠ k, refs t k' = refs s k')
    (hgone : ∀ x ∈ s.bm.queue, (refs s k).1 ≠ some x.id) : Lawful X t := by
  refine h.moveRefs hbm hctxs hflags hactive fun x hx hX hfresh k' hk' => ⟨fun hwaits => ?_, fun hbus => ?_⟩
  · have hnamed := (h.named x hx hX).waiting k' hk' hfresh hwaits
    by_cases heq : k' = k
    · exact absurd (heq ▸ hnamed) (hgone x hx)
    · rw [hothers k' heq]
      exact hnamed
  · simp [hfree x hx] at hbus

/-! ### Final outcomes -/

theorem not_mem_depart {i : Nat} {x : Transfer} (h : x ∈ (depart i s).bm.queue) : x.id ≠ i := by
  simpa using (List.mem_filter.1 h).2

theorem BusFree.depart (h : BusFree s) (i : Nat) : BusFree (depart i s) := fun x hx => h x (List.mem_of_mem_filter hx)

theorem Lawful.doneShadow (h : Lawful X s) (hfree : BusFree s) (id : ProfileId) (tid : Nat) :
    Lawful X (modShadow id (doneShadow tid) s) := by
  refine h.keepWaiting hfree rfl rfl rfl (fun _ => rfl) fun k => ?_
  rw [modShadow, refs_setShadow]
  split
  · rename_i hk
    subst hk
    unfold Machine.doneShadow refs
    split
    · split <;> rfl
    · rfl
  · rfl

theorem Lawful.failShadow (h : Lawful X s) (hfree : BusFree s) (id : ProfileId) : Lawful X (failShadow id s) := by
  have hcleared (u : State) := refs_setShadow id
    { s.ce.shadows[id] with written := none, onBus := none, waiting := none, deferred := false } u
  unfold Machine.failShadow
  dsimp only
  split
  · rename_i w hw
    have hdeparted := h.depart w.id
    refine hdeparted.clearCell (hfree.depart w.id) (.inl id) rfl rfl rfl (fun _ => rfl)
      (fun k' hk' => (hcleared (Machine.depart w.id s) k').trans (if_neg hk')) fun x hx hnamed => not_mem_depart hx ?_
    have hid : s.ce.shadows[id].waiting.map Ref.id = some x.id := hnamed
    rw [hw] at hid
    exact (Option.some.inj hid).symm
  · rename_i hw
    refine h.clearCell hfree (.inl id) rfl rfl rfl (fun _ => rfl) (fun k' hk' => (hcleared s k').trans (if_neg hk'))
      fun x _ hnamed => ?_
    have hid : s.ce.shadows[id].waiting.map Ref.id = some x.id := hnamed
    rw [hw] at hid
    cases hid

theorem Lawful.profileOutcome (h : Lawful X s) (hfree : BusFree s) (id : ProfileId) (tid : Nat) (stale : Bool)
    (out : BusOutcome) : Lawful X (profileOutcome id tid stale out s).1 := by
  unfold Machine.profileOutcome
  split
  · exact h
  · split
    · exact h.doneShadow hfree id tid
    · exact h.failShadow hfree id

theorem Lawful.latchOutcome (h : Lawful X s) (hfree : BusFree s) (slot : Slot) (tid : Nat) (stale : Bool)
    (out : BusOutcome) : Lawful X (latchOutcome slot tid stale out s).1 := by
  have hcleared (u : State) := refs_setLatch slot { s.ce.latches[slot] with onBus := none, waiting := none } u
  unfold Machine.latchOutcome
  dsimp only
  split
  · exact h
  · split
    · refine h.keepWaiting hfree rfl rfl rfl (fun _ => rfl) fun k => ?_
      rw [refs_setLatch]
      split
      · rename_i hk
        subst hk
        rfl
      · rfl
    · split
      · rename_i w hw
        have hdeparted := h.depart w
        refine hdeparted.clearCell (hfree.depart w) (.inr slot) rfl rfl rfl (fun _ => rfl)
          (fun k' hk' => (hcleared (Machine.depart w s) k').trans (if_neg hk')) fun x hx hnamed => not_mem_depart hx ?_
        have hid : s.ce.latches[slot].waiting = some x.id := hnamed
        rw [hw] at hid
        exact (Option.some.inj hid).symm
      · rename_i hw
        refine h.clearCell hfree (.inr slot) rfl rfl rfl (fun _ => rfl) (fun k' hk' => (hcleared s k').trans (if_neg hk'))
          fun x _ hnamed => ?_
        have hid : s.ce.latches[slot].waiting = some x.id := hnamed
        rw [hw] at hid
        cases hid

theorem serene_reportFailure (slot : Slot) (o : Origin) (out : BusOutcome) (s : State) :
    Serene s (reportFailure slot o out s) := ⟨⟨rfl, rfl, rfl, rfl, rfl, rfl⟩, ⟨rfl, rfl, rfl, rfl, rfl, rfl⟩⟩

theorem Lawful.compensateOutcome (h : Lawful X s) (hfree : BusFree s) (x : Transfer) (out : BusOutcome) :
    Lawful X (compensateOutcome x out s) := by
  unfold Machine.compensateOutcome
  split
  · rename_i i id _ _
    have hout := h.profileOutcome hfree id x.id x.stale out
    split <;> rename_i u hu <;> rw [hu] at hout
    · exact hout.serene (serene_reportFailure ..)
    · exact hout
  · rename_i i _ _
    have hout := h.latchOutcome hfree i x.id x.stale out
    split <;> rename_i u hu <;> rw [hu] at hout
    · exact hout.serene (serene_reportFailure ..)
    · exact hout
  · exact h

/-! ### Outcomes of sequence steps -/

/-- A sequence step that is made in a context is one the context awaits. -/
theorem MadeIn.step {c : Ctx} {x : Transfer} (h : MadeIn c x) (hcls : x.cls = .restore ∨ x.cls = .check) :
    StepMadeIn c x.origin ∧ c.awaited = some x.id := by
  unfold MadeIn at h
  unfold StepMadeIn
  split at h <;> simp_all [Transfer.cls, Origin.cls]

theorem StepMadeIn.congr {c c' : Ctx} {o : Origin} (h : StepMadeIn c o) (hstate : c'.state = c.state)
    (hcheck : c'.checkStep = c.checkStep) : StepMadeIn c' o := by
  unfold StepMadeIn at *
  rw [hstate, hcheck]
  exact h

theorem passToCe_ctxs (x : Transfer) (out : BusOutcome) (s : State) : (passToCe x out s).ctxs = s.ctxs := by
  unfold passToCe
  split
  · unfold profileOutcome failShadow
    dsimp only
    (repeat' split) <;> simp
  · rfl

/-- The context of a slot whose awaited transfer has left. -/
theorem CtxLaw.release {c : Ctx} (h : CtxLaw c) : CtxLaw { c with awaited := none } :=
  ⟨fun _ => rfl, h.checkTimer, h.faultTimer, h.checking, nofun, h.roomMark⟩

theorem CtxLaw.dropHold {c : Ctx} (h : CtxLaw c) : CtxLaw { c with staleHold := none } :=
  ⟨nofun, h.checkTimer, h.faultTimer, h.checking, h.awaiting, h.roomMark⟩

/-- The outcome of a step that has left the queue. -/
theorem Lawful.stepOutcome (h : Lawful X s) (hfree : BusFree s) {x : Transfer} (hgone : ∀ y ∈ s.bm.queue, y.id ≠ x.id)
    (hmade : x.stale = false → s.ctxs[slot].awaited = some x.id → StepMadeIn s.ctxs[slot] x.origin) (out : BusOutcome)
    (bytes : List Byte) : Lawful X (stepOutcome x slot out bytes s) := by
  unfold Machine.stepOutcome
  dsimp only
  split
  · have hreleased : Lawful X (Machine.modCtx slot (fun c => { c with staleHold := none }) s) := by
      refine h.modCtx slot (h.ctx slot).dropHold (fun y _ _ hy => ?_) fun _ _ hy => hy
      unfold MadeIn at *
      exact hy
    exact hreleased.resumeStep slot
  · split
    · exact h
    · rename_i _ hnot
      have hawaited : s.ctxs[slot].awaited = some x.id := by
        by_contra hne
        exact hnot (by simp; exact .inr hne)
      have hfresh : x.stale = false := by
        by_contra hstale
        exact hnot (by simp [hstale])
      have hstep := hmade hfresh hawaited
      have hreleased : Lawful X (Machine.modCtx slot (fun c => { c with awaited := none }) s) := by
        refine h.modCtx slot (h.ctx slot).release (fun y hy _ hmadeIn => ?_) nofun
        unfold MadeIn at *
        split at hmadeIn <;>
          simp_all [(hgone y hy).symm]
      have hpassed : Lawful X (passToCe x out (Machine.modCtx slot (fun c => { c with awaited := none }) s)) := by
        unfold passToCe
        split
        · exact hreleased.profileOutcome hfree _ _ _ _
        · exact hreleased
      have hctx : (passToCe x out (Machine.modCtx slot (fun c => { c with awaited := none }) s)).ctxs[slot] =
          { s.ctxs[slot] with awaited := none } := by
        rw [passToCe_ctxs, modCtx_get_self]
      split
      · refine hpassed.stepDone bytes ?_ ?_
        · exact congrArg Ctx.awaited hctx
        · exact hstep.congr ((congrArg Ctx.state hctx).trans rfl) ((congrArg Ctx.checkStep hctx).trans rfl)
      · exact hpassed.enterFaultHold slot _ _

/-! ### Delivery -/

theorem Lawful.deliver (h : Lawful X s) (hfree : BusFree s) {x : Transfer} (hgone : ∀ y ∈ s.bm.queue, y.id ≠ x.id)
    (hmade : ∀ i, x.slot = some i → x.automatic = true → x.stale = false → MadeIn s.ctxs[i] x) (out : BusOutcome)
    (bytes : List Byte) : Lawful X (deliver x out bytes s) := by
  have hstep (i : Slot) (hi : x.slot = some i) (hcls : x.cls = .restore ∨ x.cls = .check) :
      Lawful X (Machine.stepOutcome x i out bytes s) := by
    have hauto : x.automatic = true := by
      rcases hcls with hcls | hcls <;> simp [Transfer.automatic, hcls]
    exact h.stepOutcome hfree hgone (fun hfresh _ => ((hmade i hi hauto hfresh).step hcls).1) out bytes
  unfold Machine.deliver
  split
  · exact h.compensateOutcome hfree x out
  · unfold manualOutcome
    split <;> exact h.offLink (offLink_endPending ..)
  · rename_i i hcls hi
    exact hstep i hi (.inl hcls)
  · rename_i i hcls hi
    exact hstep i hi (.inr hcls)
  · exact h
  · exact h

/-- The transfer on the bus leaves with a final outcome. -/
theorem Lawful.finish (h : Lawful X s) {x : Transfer} (hx : x ∈ s.bm.queue) (hbus : x.onBus = true) (out : BusOutcome)
    (bytes : List Byte) : Lawful X (finish x out bytes s) := by
  refine (h.depart x.id).deliver (fun y hy => ?_) (fun y hy => not_mem_depart hy) (fun i hi hauto hfresh => ?_) out bytes
  · by_contra hon
    have hys : y ∈ s.bm.queue := List.mem_of_mem_filter hy
    exact not_mem_depart hy (congrArg Transfer.id (h.one.eq_of_onBus hys hx (by simpa using hon) hbus))
  · exact h.madeIn hx ⟨hauto, hfresh, hi⟩

/-! ### Grants -/

theorem refs_grantReference (g : Transfer) (s : State) (k : ProfileId ⊕ Slot) :
    refs (grantReference g s) k =
      if g.cell = some k ∧ (refs s k).1 = some g.id then (none, some g.id) else refs s k := by
  have hprofile (id : ProfileId) : refs (grantRef id g.id s) k =
      if (Sum.inl id : ProfileId ⊕ Slot) = k ∧ (refs s k).1 = some g.id then (none, some g.id) else refs s k := by
    rw [grantRef, modShadow, refs_setShadow]
    by_cases hk : k = .inl id
    · subst hk
      simp only [if_true, true_and]
      cases hw : s.ce.shadows[id].waiting with
      | none => simp_all [refs]
      | some w =>
        by_cases hid : w.id = g.id
        · simp_all [refs]
        · simp_all [refs]
    · rw [if_neg hk, if_neg fun hand => hk hand.1.symm]
  have hcell (id : ProfileId) (hid : g.origin.profileOf = some id) : refs (grantRef id g.id s) k =
      if g.cell = some k ∧ (refs s k).1 = some g.id then (none, some g.id) else refs s k := by
    simpa [cell_of_profileOf hid] using hprofile id
  unfold grantReference
  split
  · rename_i id horigin
    exact hcell id (by simp [horigin, Origin.profileOf])
  · rename_i id horigin
    exact hcell id (by simp [horigin, Origin.profileOf])
  · rename_i slot horigin hslot
    rw [cell_of_latch horigin hslot]
    unfold grantLatch
    dsimp only
    split
    · rename_i hwaiting
      rw [refs_setLatch]
      by_cases hk : k = .inr slot
      · subst hk
        simp_all [refs]
      · have hk' : ¬ Sum.inr slot = k := fun he => hk he.symm
        simp [hk, hk']
    · rename_i hwaiting
      rw [if_neg]
      rintro ⟨hk, hname⟩
      obtain rfl : Sum.inr slot = k := by simpa using hk
      exact hwaiting hname
  · rename_i hprofile' hload hlatch
    rw [if_neg]
    rintro ⟨hk, -⟩
    cases k with
    | inl id =>
      have hid := cell_eq_inl hk
      unfold Origin.profileOf at hid
      split at hid
      · exact hprofile' _ ‹_›
      · exact hload _ ‹_›
      · cases hid
    | inr slot => exact hlatch slot (cell_eq_inr hk).1 (cell_eq_inr hk).2

/-- A granted transfer's reference moves with it. -/
theorem Lawful.grant (h : Lawful X s) {g : Transfer} (hidle : busIdle s = true) (hg : g ∈ s.bm.queue) :
    Lawful X (grant g s) := by
  have hfree : BusFree s := by
    simp only [busIdle, Bool.and_eq_true] at hidle
    exact onBusTransfer_isNone.1 hidle.1
  have hrefs (k : ProfileId ⊕ Slot) : refs (Machine.grant g s) k =
      if g.cell = some k ∧ (refs s k).1 = some g.id then (none, some g.id) else refs s k :=
    refs_grantReference g _ k
  refine h.mapQueue (f := fun x => if x.id = g.id then { x with onBus := true } else x) (oneOnBus_grant hidle h.one)
    (grant_queue g s) (by simp) (by simp) (activeProfile_congr (by simp)) (fun x hx => ?_)
    fun x hx hX hfresh k hk => ?_
  · have hstale : x.stale = true → x.onBus = true := (h.transfer x hx).staleOnBus
    split
    · exact ⟨rfl, rfl, rfl, rfl, fun _ => rfl⟩
    · exact ⟨rfl, rfl, rfl, rfl, hstale⟩
  · have hwaits : (refs s k).1 = some x.id := (h.named x hx hX).waiting k hk hfresh (hfree x hx)
    rw [hrefs]
    by_cases hid : x.id = g.id
    · obtain rfl : x = g := h.one.eq_of_id hx hg hid
      simp [hk, hwaits]
    · simp [hid, hwaits, hfree x hx]

theorem Lawful.grantDecision (h : Lawful X s) : Lawful X (grantDecision s) := by
  rcases grantDecision_cases s with hsame | ⟨hidle, -, g, hg, hgrant⟩
  · rwa [hsame]
  · rw [hgrant]
    exact h.grant hidle (mem_eligibleTransfers.1 (mem_of_arbiterChoice hg)).1

theorem Lawful.decideIfEnqueued (h : Lawful X s) (before : State) : Lawful X (decideIfEnqueued before s) := by
  unfold Machine.decideIfEnqueued
  split
  · exact h.grantDecision
  · exact h

end Sys2Proof.Machine
end

section
/-! The laws through returns to WAITING, the ends of transactions and of recovery sequences, a pass, and the withdrawal
of a profile's writes. -/

namespace Sys2Proof.Machine

variable {X : Excuse} {s t : State} {slot : Slot}

/-! ### Returns to WAITING (R51, R52) -/

/-- An excuse that holds of one write of a profile holds of all of them. -/
def Excuse.Uniform (X : Excuse) : Prop := ∀ i j o o', o.profileOf.isSome = true → o.profileOf = o'.profileOf → X i o → X j o'

theorem uniform_notLatch : notLatch.Uniform := by
  rintro i j o o' hsome hsame - rfl
  rw [hsame] at hsome
  cases hsome

theorem uniform_onlyLatch : onlyLatch.Uniform := by
  rintro i j o o' hsome - rfl
  simp [Origin.profileOf] at hsome

/-- The queue with one transfer WAITING again. -/
def waitingAgain (i : Nat) (x : Transfer) : Transfer := if x.id = i then { x with onBus := false } else x

theorem backToWaiting_queue (i : Nat) (s : State) : (backToWaiting i s).bm.queue = s.bm.queue.map (waitingAgain i) := rfl

/-- A fresh transfer on the bus waits again, its cell changed with it. -/
theorem Lawful.returned (h : Lawful X s) {x : Transfer} (hx : x ∈ s.bm.queue) (hbus : x.onBus = true)
    (hfresh : x.stale = false) (hbm : t.bm = s.bm) (hctxs : t.ctxs = s.ctxs)
    (hflags : t.msgs.ceInvalidate = s.msgs.ceInvalidate) (hactive : ∀ id, activeProfile t id = activeProfile s id)
    (hself : ¬ X x.id x.origin → ∀ k, x.cell = some k → (refs t k).1 = some x.id)
    (hothers : ∀ y ∈ s.bm.queue, y.id ≠ x.id → ¬ X y.id y.origin → y.stale = false → ∀ k, y.cell = some k →
      (refs s k).1 = some y.id → (refs t k).1 = some y.id) : Lawful X (backToWaiting x.id t) := by
  have hqueue : (backToWaiting x.id t).bm.queue = s.bm.queue.map (waitingAgain x.id) := by rw [backToWaiting_queue, hbm]
  refine h.mapQueue (f := waitingAgain x.id)
    ((evolves_backToWaiting (S := ∅) x.id t).oneOnBus (oneOnBus_of_bm (by rw [hbm]) (by rw [hbm]) h.one)) hqueue hctxs hflags
    hactive (fun y hy => ?_) fun y hy hX hyfresh k hk => ?_
  · unfold waitingAgain
    split
    · rename_i hid
      obtain rfl : y = x := h.one.eq_of_id hy hx hid
      exact ⟨rfl, rfl, rfl, rfl, fun hst => by simp [hfresh] at hst⟩
    · exact ⟨rfl, rfl, rfl, rfl, (h.transfer y hy).staleOnBus⟩
  · have hrefs : refs (backToWaiting x.id t) k = refs t k := rfl
    rw [hrefs]
    unfold waitingAgain
    split
    · rename_i hid
      obtain rfl : y = x := h.one.eq_of_id hy hx hid
      exact ⟨fun _ => hself hX k hk, nofun⟩
    · rename_i hne
      have hwaits : y.onBus = false := by
        by_contra hon
        exact hne (congrArg Transfer.id (h.one.eq_of_onBus hy hx (by simpa using hon) hbus))
      refine ⟨fun _ => hothers y hy hne hX hyfresh k hk ((h.named y hy hX).waiting k hk hyfresh hwaits), fun hon => ?_⟩
      simp [hwaits] at hon

/-- A fresh transfer whose cell does not name it on the bus waits again. -/
theorem Lawful.returned_same (h : Lawful X s) {x : Transfer} (hx : x ∈ s.bm.queue) (hbus : x.onBus = true)
    (hfresh : x.stale = false) (hnot : ∀ k, x.cell = some k → (refs s k).2 ≠ some x.id) :
    Lawful X (backToWaiting x.id s) :=
  h.returned hx hbus hfresh rfl rfl rfl (fun _ => rfl)
    (fun hX k hk => absurd ((h.named x hx hX).onBus k hk hfresh hbus) (hnot k hk)) fun _ _ _ _ _ _ _ hname => hname

/-- A fresh transfer waits again where its cell has no waiting reference, and becomes it. -/
theorem Lawful.returned_free (h : Lawful X s) {x : Transfer} (hx : x ∈ s.bm.queue) (hbus : x.onBus = true)
    (hfresh : x.stale = false) {k : ProfileId ⊕ Slot} (hcell : x.cell = some k) (hbm : t.bm = s.bm) (hctxs : t.ctxs = s.ctxs)
    (hflags : t.msgs.ceInvalidate = s.msgs.ceInvalidate) (hactive : ∀ id, activeProfile t id = activeProfile s id)
    (hself : (refs t k).1 = some x.id) (hsame : ∀ k' ≠ k, refs t k' = refs s k')
    (hfree : ∀ y ∈ s.bm.queue, y.id ≠ x.id → ¬ X y.id y.origin → y.stale = false → y.cell = some k →
      (refs s k).1 ≠ some y.id) : Lawful X (backToWaiting x.id t) := by
  refine h.returned hx hbus hfresh hbm hctxs hflags hactive (fun _ k' hk' => ?_) fun y hy hne hX hyfresh k' hk' hname => ?_
  · obtain rfl : k = k' := Option.some.inj (hcell.symm.trans hk')
    exact hself
  · by_cases heq : k' = k
    · subst heq
      exact absurd hname (hfree y hy hne hX hyfresh hk')
    · rw [hsame k' heq]
      exact hname

/-- A returning transfer is removed where its cell already names a waiting one. -/
theorem Lawful.removed (h : Lawful X s) {x : Transfer} (hx : x ∈ s.bm.queue) (hbus : x.onBus = true) (hbm : t.bm = s.bm)
    (hctxs : t.ctxs = s.ctxs) (hmsgs : t.msgs = s.msgs) (hactive : ∀ id, activeProfile t id = activeProfile s id)
    (hwaiting : ∀ k, (refs t k).1 = (refs s k).1) : Lawful X (Machine.depart x.id t) := by
  have hfree : BusFree (Machine.depart x.id s) := fun y hy => by
    by_contra hon
    exact not_mem_depart hy (congrArg Transfer.id
      (h.one.eq_of_onBus (List.mem_of_mem_filter hy) hx (by simpa using hon) hbus))
  exact (h.depart x.id).keepWaiting hfree (by simp [Machine.depart, Machine.departWhere, hbm]) hctxs
    (by simp [Machine.depart, Machine.departWhere, hmsgs]) hactive hwaiting

theorem Lawful.returnProfile (h : Lawful X s) {x : Transfer} (hx : x ∈ s.bm.queue) (hbus : x.onBus = true)
    (hfresh : x.stale = false) {id : ProfileId} (hcell : x.cell = some (.inl id)) : Lawful X (returnProfile id x.id s) := by
  have honly {k : ProfileId ⊕ Slot} (hk : x.cell = some k) : k = .inl id := Option.some.inj (hk.symm.trans hcell)
  unfold Machine.returnProfile
  dsimp only
  split
  · rename_i hnone
    refine h.returned_same hx hbus hfresh fun k hk hname => ?_
    rw [honly hk, refs, hnone] at hname
    cases hname
  · rename_i b hb
    split
    · rename_i hne
      refine h.returned_same hx hbus hfresh fun k hk hname => ?_
      rw [honly hk, refs, hb] at hname
      exact hne (Option.some.inj hname)
    · rename_i heq
      have heq : b.id = x.id := by simpa using heq
      split
      · rename_i w hw
        refine h.removed hx hbus rfl rfl rfl (fun _ => rfl) fun k => ?_
        rw [refs_setShadow]
        split
        · rename_i hk
          subst hk
          rfl
        · rfl
      · rename_i hw
        have hrefs := refs_setShadow id { s.ce.shadows[id] with onBus := none, waiting := some b } s
        refine h.returned_free hx hbus hfresh hcell rfl rfl rfl (fun _ => rfl) ?_
          (fun k' hk' => (hrefs k').trans (if_neg hk')) fun y hy hne hX hyfresh hk hname => ?_
        · exact (congrArg Prod.fst ((hrefs _).trans (if_pos rfl))).trans (congrArg some heq)
        · rw [refs, hw] at hname
          cases hname

theorem Lawful.returnLatch (h : Lawful X s) {x : Transfer} (hx : x ∈ s.bm.queue) (hbus : x.onBus = true)
    (hfresh : x.stale = false) (hcell : x.cell = some (.inr slot)) : Lawful X (returnLatch slot x.id s) := by
  unfold Machine.returnLatch
  dsimp only
  split
  · rename_i hne
    refine h.returned_same hx hbus hfresh fun k hk hname => ?_
    obtain rfl : k = .inr slot := Option.some.inj (hk.symm.trans hcell)
    exact hne hname
  · split
    · refine h.removed hx hbus rfl rfl rfl (fun _ => rfl) fun k => ?_
      rw [refs_setLatch]
      split
      · rename_i hk
        subst hk
        rfl
      · rfl
    · rename_i hw
      have hrefs := refs_setLatch slot { s.ce.latches[slot] with onBus := none, waiting := some x.id } s
      refine h.returned_free hx hbus hfresh hcell rfl rfl rfl (fun _ => rfl) ?_
        (fun k' hk' => (hrefs k').trans (if_neg hk')) fun y hy hne hX hyfresh hk hname => ?_
      · exact congrArg Prod.fst ((hrefs _).trans (if_pos rfl))
      · have hname' : s.ce.latches[slot].waiting = some y.id := hname
        rw [hw] at hname'
        cases hname'

/-- A load step's transfer is the only fresh one of its profile. -/
theorem Lawful.loadStep_alone (h : Lawful X s) (hX : X.Uniform) {x y : Transfer} (hx : x ∈ s.bm.queue)
    (hy : y ∈ s.bm.queue) {id : ProfileId} (horigin : x.origin = .loadProfile id) (hxfresh : x.stale = false)
    (hyfresh : y.stale = false) (hcell : y.cell = some (.inl id)) (hnot : ¬ X y.id y.origin) : y = x := by
  have hyid := cell_eq_inl hcell
  have hxid : x.origin.profileOf = some id := by rw [horigin]; rfl
  have hxnot : ¬ X x.id x.origin := fun hexc => hnot (hX _ _ _ _ (by simp [hxid]) (hxid.trans hyid.symm) hexc)
  obtain ⟨i, hi, -, hxprofile⟩ := (h.named x hx hxnot).placed (.inr (by simp [hxid])) hxfresh
  obtain ⟨j, hj, -, hyprofile⟩ := (h.named y hy hnot).placed (.inr (by simp [hyid])) hyfresh
  obtain ⟨p, hp, hpi⟩ := hxprofile id hxid
  obtain ⟨q, hq, hqj⟩ := hyprofile id hyid
  obtain rfl : p = q := Option.some.inj (hp.symm.trans hq)
  obtain rfl : i = j := Fin.ext (hpi.symm.trans hqj)
  have hxmade := h.madeIn hx ⟨cell_automatic (cell_of_profileOf hxid), hxfresh, hi⟩
  have hymade := h.madeIn hy ⟨cell_automatic hcell, hyfresh, hj⟩
  simp only [MadeIn, horigin] at hxmade
  obtain ⟨hloading, hawaits⟩ := hxmade
  unfold Origin.profileOf at hyid
  split at hyid
  · rename_i horigin'
    simp only [MadeIn, horigin'] at hymade
    rw [hloading] at hymade
    cases hymade
  · rename_i horigin'
    simp only [MadeIn, horigin'] at hymade
    rw [hawaits] at hymade
    exact h.one.eq_of_id hy hx (Option.some.inj hymade.2).symm
  · cases hyid

/-- A load step's on-bus reference moves back, or names another transfer and stands. -/
theorem returnLoadStep_cases (id : ProfileId) (tid : Nat) (s : State) :
    (∃ b : Ref, b.id = tid ∧ returnLoadStep id tid s =
        backToWaiting tid (setShadow id { s.ce.shadows[id] with onBus := none, waiting := some b } s))
      ∨ ((refs s (.inl id)).2 ≠ some tid ∧ returnLoadStep id tid s =
        backToWaiting tid (setShadow id s.ce.shadows[id] s)) := by
  unfold returnLoadStep modShadow
  dsimp only
  split
  · rename_i b hb
    split
    · rename_i hid
      exact .inl ⟨b, hid, rfl⟩
    · rename_i hid
      refine .inr ⟨fun hname => hid ?_, rfl⟩
      rw [refs, hb] at hname
      exact Option.some.inj hname
  · rename_i hb
    refine .inr ⟨fun hname => ?_, rfl⟩
    rw [refs, hb] at hname
    cases hname

theorem Lawful.returnLoadStep (h : Lawful X s) (hX : X.Uniform) {x : Transfer} (hx : x ∈ s.bm.queue) (hbus : x.onBus = true)
    (hfresh : x.stale = false) {id : ProfileId} (horigin : x.origin = .loadProfile id) :
    Lawful X (returnLoadStep id x.id s) := by
  have hcell : x.cell = some (.inl id) := cell_of_profileOf (by rw [horigin]; rfl)
  rcases returnLoadStep_cases id x.id s with ⟨b, hid, heq⟩ | ⟨hnot, heq⟩ <;> rw [heq]
  · have hrefs := refs_setShadow id { s.ce.shadows[id] with onBus := none, waiting := some b } s
    refine h.returned_free hx hbus hfresh hcell rfl rfl rfl (fun _ => rfl) ?_
      (fun k' hk' => (hrefs k').trans (if_neg hk')) fun y hy hne hnot hyfresh hk _ => ?_
    · exact (congrArg Prod.fst ((hrefs _).trans (if_pos rfl))).trans (congrArg some hid)
    · exact hne (congrArg Transfer.id (h.loadStep_alone hX hx hy horigin hfresh hyfresh hk hnot))
  · have hsame (k : ProfileId ⊕ Slot) : refs (setShadow id s.ce.shadows[id] s) k = refs s k := by
      rw [refs_setShadow]
      split
      · rename_i hk
        rw [hk]
        rfl
      · rfl
    refine h.returned hx hbus hfresh rfl rfl rfl (fun _ => rfl) (fun hnotX k hk => ?_) fun y _ _ _ _ k _ hname => ?_
    · obtain rfl : k = .inl id := Option.some.inj (hk.symm.trans hcell)
      exact absurd ((h.named x hx hnotX).onBus _ hk hfresh hbus) hnot
    · rw [hsame]
      exact hname

theorem Lawful.returnTransfer (h : Lawful X s) (hX : X.Uniform) {x : Transfer} (hx : x ∈ s.bm.queue)
    (hbus : x.onBus = true) (hfresh : x.stale = false) : Lawful X (returnTransfer x s) := by
  unfold Machine.returnTransfer
  split
  · rename_i id horigin
    exact h.returnProfile hx hbus hfresh (cell_of_profileOf (by rw [horigin]; rfl))
  · rename_i id horigin
    exact h.returnLoadStep hX hx hbus hfresh horigin
  · rename_i i horigin hslot
    exact h.returnLatch hx hbus hfresh (cell_of_latch horigin hslot)
  · rename_i hprofile hload hlatch
    refine h.returned_same hx hbus hfresh fun k hk => ?_
    cases k with
    | inl id =>
      have hid := cell_eq_inl hk
      unfold Origin.profileOf at hid
      split at hid
      · exact (hprofile _ ‹_›).elim
      · exact (hload _ ‹_›).elim
      · cases hid
    | inr i => exact (hlatch i (cell_eq_inr hk).1 (cell_eq_inr hk).2).elim

/-! ### The ends of transactions and of recovery sequences -/

theorem Lawful.bmRest (h : Lawful X s) {b : Bm} (hqueue : b.queue = s.bm.queue) (hid : b.nextId = s.bm.nextId) :
    Lawful X { s with bm := b } :=
  h.serene ⟨⟨hqueue, hid, rfl, rfl, rfl, rfl⟩, ⟨rfl, rfl, rfl, rfl, rfl, rfl⟩⟩

theorem serene_startQuiet (x : Transfer) (s : State) : Serene s (startQuiet x s) := by
  unfold startQuiet
  split
  · rfl
  · split
    · exact ⟨⟨rfl, rfl, rfl, rfl, rfl, rfl⟩, ⟨rfl, rfl, rfl, rfl, rfl, rfl⟩⟩
    · rfl

theorem Lawful.settle (h : Lawful X s) (hX : X.Uniform) {x : Transfer} (hx : x ∈ s.bm.queue) (hbus : x.onBus = true)
    (out : BusOutcome) (bytes : List Byte) : Lawful X (settle x out bytes s) := by
  unfold Machine.settle
  split
  · have hquiet := serene_startQuiet x s
    exact (h.serene hquiet).finish (by rw [hquiet.queue]; exact hx) hbus out bytes
  · split
    · rename_i hretried
      simp only [retried, Bool.and_eq_true] at hretried
      exact h.returnTransfer hX hx hbus (by simpa using hretried.1.2)
    · exact h.finish hx hbus out bytes

theorem mem_onBusTransfer {x : Transfer} (h : onBusTransfer s = some x) : x ∈ s.bm.queue ∧ x.onBus = true :=
  ⟨List.mem_of_find?_eq_some h, List.find?_some h⟩

theorem Lawful.endTransaction (h : Lawful X s) (hX : X.Uniform) {x : Transfer} (hx : onBusTransfer s = some x)
    (r : BusResponse) : Lawful X (endTransaction x r s) := by
  obtain ⟨hmem, hbus⟩ := mem_onBusTransfer hx
  have hwire : Lawful X (setWire (transactionWire x r) s) := h.bmRest rfl rfl
  unfold Machine.endTransaction
  dsimp only
  split
  · exact hwire.bmRest rfl rfl
  · have hkept (y : Transfer) : TransferKept y (counted y) := ⟨rfl, rfl, rfl, rfl, rfl, fun h => h⟩
    have hcounted : Lawful X (Machine.modTransfer x.id counted (setWire (transactionWire x r) s)) :=
      hwire.modTransfer x.id (fun _ => ⟨rfl, rfl, rfl, rfl, rfl⟩)
        ((evolves_modTransfer (S := ∅) hkept x.id _).oneOnBus hwire.one)
    have hx' : counted x ∈ (Machine.modTransfer x.id counted (setWire (transactionWire x r) s)).bm.queue :=
      List.mem_map.2 ⟨x, hmem, if_pos rfl⟩
    generalize Machine.modTransfer x.id counted (setWire (transactionWire x r) s) = u at hcounted hx'
    have howed : Serene u (oweStop (transactionOutcome x r) u) := by
      unfold oweStop
      split
      · exact ⟨⟨rfl, rfl, rfl, rfl, rfl, rfl⟩, ⟨rfl, rfl, rfl, rfl, rfl, rfl⟩⟩
      · rfl
    exact ((hcounted.serene howed).settle hX (x := counted x) (by rw [howed.queue]; exact hx') hbus _ _).grantDecision

theorem Lawful.settleReleased (h : Lawful X s) (hX : X.Uniform) : Lawful X (settleReleased s) := by
  unfold Machine.settleReleased
  split
  · exact h
  · rename_i x hx
    obtain ⟨hmem, hbus⟩ := mem_onBusTransfer hx
    split
    · exact h.finish hmem hbus _ _
    · exact h.returnTransfer hX hmem hbus (by simpa using ‹¬ x.stale = true›)

theorem Lawful.enterBusFault (h : Lawful X s) (hX : X.Uniform) : Lawful X (enterBusFault s) := by
  have hcond : Lawful X (faultCondition s) := h.bmRest rfl rfl
  unfold Machine.enterBusFault
  split
  · exact hcond
  · rename_i x hx
    obtain ⟨hmem, hbus⟩ := mem_onBusTransfer hx
    have hmem' : x ∈ (faultCondition s).bm.queue := hmem
    have hsettled : Lawful X (settleStuck x (faultCondition s)) := by
      unfold settleStuck
      split
      · exact hcond.finish hmem' hbus _ _
      · split
        · exact hcond.finish hmem' hbus _ _
        · exact hcond.returnTransfer hX hmem' hbus (by simpa using ‹¬ x.stale = true›)
    have hfaulted (u : State) (hu : Lawful X u) : Lawful X (faultManuals u) :=
      (hu.departWhere waitingManual).serene ⟨by constructor <;> simp [faultManuals], by constructor <;> simp [faultManuals]⟩
    exact (hfaulted _ hsettled).serene (serene_postNotice ..)

theorem Lawful.endRecovery (h : Lawful X s) (hX : X.Uniform) (run : RecoveryRun) : Lawful X (endRecovery run s) := by
  have hended : Lawful X { s with bm := { s.bm with recovering := false, wire := recoveryWire run } } := h.bmRest rfl rfl
  unfold Machine.endRecovery
  dsimp only
  split
  · exact (hended.settleReleased hX).grantDecision
  · exact hended.enterBusFault hX
  · have hready : Lawful X (leaveBusFault { s with bm := { s.bm with recovering := false, wire := recoveryWire run } }) :=
      hended.serene ⟨⟨rfl, rfl, rfl, rfl, rfl, rfl⟩, ⟨rfl, rfl, rfl, rfl, rfl, rfl⟩⟩
    exact hready.grantDecision
  · exact h.bmRest rfl rfl

/-! ### The pass -/

/-- What a pass keeps while it visits: the laws, with every invalidation settled, the contexts and the store. -/
structure Passing (X : Excuse) (s t : State) : Prop where
  lawful : Lawful X t
  settled : ∀ i : Slot, t.msgs.ceInvalidate[i] = false
  ctxs : t.ctxs = s.ctxs
  cs : t.cs = s.cs

theorem Passing.modShadow_same {u : State} (h : Passing X s u) {id : ProfileId} {f : Shadow → Shadow}
    (hf : ∀ sh, (f sh).waiting = sh.waiting ∧ (f sh).onBus = sh.onBus) : Passing X s (modShadow id f u) :=
  ⟨h.lawful.modShadow_same hf, h.settled, h.ctxs, h.cs⟩

theorem Passing.recordEvaluation {u : State} (h : Passing X s u) (id : ProfileId) (p : Profile) (e : Evaluation)
    (isLoad : Bool) : Passing X s (recordEvaluation id p e isLoad u) :=
  ⟨h.lawful.recordEvaluation id p e isLoad, by simpa using h.settled, by simpa using h.ctxs, by simpa using h.cs⟩

theorem Passing.replaceProfile {x : State × PassAccount} (h : Passing X s x.1) (id : ProfileId) (slot : Slot) (p : Profile)
    {w : Ref} (hw : x.1.ce.shadows[id].waiting = some w) (v : Nat) : Passing X s (replaceProfile id slot p w v x).1 := by
  have hreferenced : Lawful X (modShadow id (fun sh => { sh with waiting := some ⟨w.id, v⟩ }) x.1) := by
    refine h.lawful.sameRefs rfl rfl rfl (fun _ => rfl) fun k => ?_
    rw [modShadow, refs_setShadow]
    split
    · rename_i hk
      rw [hk, refs, hw]
      rfl
    · rfl
  have hreplaced := hreferenced.modTransfer (f := fun y => { y with data := profileData p v }) w.id
    (fun _ => ⟨rfl, rfl, rfl, rfl, rfl⟩) ((evolves_replaceData (S := ∅) w.id _ _).oneOnBus hreferenced.one)
  exact ⟨hreplaced, h.settled, h.ctxs, h.cs⟩

theorem Passing.enqueueProfile {x : State × PassAccount} (h : Passing X s x.1) {id : ProfileId} {slot : Slot}
    (r : TargetRecord) {p : Profile} (hservice : s.ctxs[slot].state = .inService) (hp : activeProfile s id = some p)
    (hpslot : p.header.slot = slot.val) (hw : x.1.ce.shadows[id].waiting = none) (v : Nat) :
    Passing X s (enqueueProfile id slot r p v x).1 := by
  unfold Machine.enqueueProfile
  dsimp only
  split
  · exact h.modShadow_same (f := fun sh => { sh with deferred := true }) fun _ => ⟨rfl, rfl⟩
  · have hrefs := refs_setShadow id
      { x.1.ce.shadows[id] with waiting := some ⟨x.1.bm.nextId, v⟩, deferred := false } x.1
    have hself := (hrefs (.inl id)).trans (if_pos rfl)
    have hreferenced : Lawful X (modShadow id (fun sh =>
        { sh with waiting := some ⟨x.1.bm.nextId, v⟩, deferred := false }) x.1) := by
      refine h.lawful.newReference (.inl id) rfl rfl rfl (fun _ => rfl) (fun k' hk' => (hrefs k').trans (if_neg hk'))
        ((congrArg Prod.snd hself).trans rfl) fun y hy hX hfresh hk => ?_
      by_contra hon
      have hname := (h.lawful.named y hy hX).waiting _ hk hfresh (by simpa using hon)
      rw [refs, hw] at hname
      cases hname
    refine ⟨hreferenced.addTransfer _ (fun _ => ⟨slot, rfl, ?_⟩) fun _ => ?_, h.settled, h.ctxs, h.cs⟩
    · change x.1.ctxs[slot].state = .inService
      rw [h.ctxs]
      exact hservice
    · refine ⟨fun _ _ => ⟨slot, rfl, h.settled slot, fun id' hid' => ?_⟩, fun k hk _ _ => ?_, fun _ _ _ hbus => by
        cases hbus⟩
      · obtain rfl : id = id' := Option.some.inj hid'
        exact ⟨p, (activeProfile_congr h.cs id).trans hp, hpslot⟩
      · obtain rfl : Sum.inl id = k := Option.some.inj hk
        exact congrArg Prod.fst hself

theorem Passing.issueOutput {x : State × PassAccount} (h : Passing X s x.1) {id : ProfileId} {slot : Slot}
    (r : TargetRecord) {p : Profile} (hservice : s.ctxs[slot].state = .inService) (hp : activeProfile s id = some p)
    (hpslot : p.header.slot = slot.val) (e : Evaluation) : Passing X s (issueOutput id slot r p e x).1 := by
  unfold Machine.issueOutput
  dsimp only
  split
  · exact h.modShadow_same (f := fun sh => { sh with deferred := false }) fun _ => ⟨rfl, rfl⟩
  · split
    · rename_i w hw
      exact h.replaceProfile id slot p hw _
    · rename_i hw
      exact h.enqueueProfile r hservice hp hpslot hw _

theorem Passing.visitProfile {x : State × PassAccount} (h : Passing X s x.1) {id : ProfileId} {slot : Slot}
    (r : TargetRecord) (hservice : s.ctxs[slot].state = .inService) (hserves : profileServes s slot id = true) :
    Passing X s (visitProfile slot r id x).1 := by
  obtain ⟨p, hp, -, hpslot⟩ := profileServes_iff.1 hserves
  have hp' : activeProfile x.1 id = some p := (activeProfile_congr h.cs id).trans hp
  simp only [Machine.visitProfile, hp']
  exact Passing.issueOutput (x := (_, _)) (h.recordEvaluation id p _ false) r hservice hp hpslot _

theorem Passing.visitProfiles {x : State × PassAccount} (h : Passing X s x.1) {slot : Slot} (r : TargetRecord)
    (hservice : s.ctxs[slot].state = .inService) {ids : List ProfileId}
    (hids : ∀ id ∈ ids, profileServes s slot id = true) : Passing X s (visitProfiles slot r ids x).1 := by
  induction ids generalizing x with
  | nil => exact h
  | cons id ids ih =>
    exact ih (h.visitProfile r hservice (hids id List.mem_cons_self)) fun i hi => hids i (List.mem_cons_of_mem id hi)

theorem mem_insertByKey {α : Type} (key : α → Nat) (x y : α) (ys : List α) :
    y ∈ insertByKey key x ys ↔ y = x ∨ y ∈ ys := by
  induction ys with
  | nil => simp [insertByKey]
  | cons z zs ih =>
    unfold insertByKey
    split
    · simp
    · simp only [List.mem_cons, ih]
      tauto

theorem mem_sortByKey {α : Type} (key : α → Nat) (y : α) (ys : List α) : y ∈ sortByKey key ys ↔ y ∈ ys := by
  induction ys with
  | nil => simp [sortByKey]
  | cons z zs ih => simp [sortByKey, mem_insertByKey, ih]

/-- The profiles of a slot are those that serve it (R18). -/
theorem mem_slotProfiles {id : ProfileId} : id ∈ slotProfiles s slot ↔ profileServes s slot id = true := by
  simp [slotProfiles, mem_sortByKey, List.mem_finRange]

theorem Passing.visitSlots {x : State × PassAccount} (h : Passing X s x.1) {slots : List Slot}
    (hslots : ∀ i ∈ slots, s.ctxs[i].state = .inService) : Passing X s (visitSlots slots x).1 := by
  induction slots generalizing x with
  | nil => exact h
  | cons i is ih =>
    have hrest := fun j hj => hslots j (List.mem_cons_of_mem i hj)
    unfold Machine.visitSlots
    split
    · exact ih h hrest
    · rename_i r _
      refine ih (h.visitProfiles r (hslots i List.mem_cons_self) fun id hid => ?_) hrest
      have hserves := mem_slotProfiles.1 hid
      simpa [profileServes, activeProfile, h.cs] using hserves

theorem Passing.issueLatch {x : State × PassAccount} (h : Passing X s x.1) {slot : Slot} (addr : Byte) (entry : RegValue)
    (hservice : s.ctxs[slot].state = .inService) : Passing X s (issueLatch slot addr entry x).1 := by
  unfold Machine.issueLatch
  dsimp only
  split
  · rename_i w _
    have hmoved := h.lawful.modTransfer (f := fun y => { y with age := x.1.bm.nextAge }) w
      (fun _ => ⟨rfl, rfl, rfl, rfl, rfl⟩)
      ((evolves_modTransfer (S := ∅) (f := fun y => { y with age := x.1.bm.nextAge })
        (fun _ => ⟨rfl, rfl, rfl, rfl, rfl, fun h => h⟩) w _).oneOnBus h.lawful.one)
    exact ⟨hmoved.bmRest rfl rfl, h.settled, h.ctxs, h.cs⟩
  · rename_i hw
    split
    · refine ⟨h.lawful.sameRefs rfl rfl rfl (fun _ => rfl) fun k => ?_, h.settled, h.ctxs, h.cs⟩
      rw [refs_setLatch]
      split
      · rename_i hk
        rw [hk]
        rfl
      · rfl
    · have hrefs := refs_setLatch slot
        { x.1.ce.latches[slot] with deferred := false, waiting := some x.1.bm.nextId } x.1
      have hself := (hrefs (.inr slot)).trans (if_pos rfl)
      have hreferenced : Lawful X (setLatch slot
          { x.1.ce.latches[slot] with deferred := false, waiting := some x.1.bm.nextId } x.1) := by
        refine h.lawful.newReference (.inr slot) rfl rfl rfl (fun _ => rfl) (fun k' hk' => (hrefs k').trans (if_neg hk'))
          ((congrArg Prod.snd hself).trans rfl) fun y hy hX hfresh hk => ?_
        by_contra hon
        have hname : x.1.ce.latches[slot].waiting = some y.id :=
          (h.lawful.named y hy hX).waiting _ hk hfresh (by simpa using hon)
        rw [hw] at hname
        cases hname
      refine ⟨hreferenced.addTransfer _ (fun _ => ⟨slot, rfl, ?_⟩) fun _ => ?_, h.settled, h.ctxs, h.cs⟩
      · change x.1.ctxs[slot].state = .inService
        rw [h.ctxs]
        exact hservice
      · refine ⟨fun _ _ => ⟨slot, rfl, h.settled slot, nofun⟩, fun k hk _ _ => ?_, fun _ _ _ hbus => by cases hbus⟩
        obtain rfl : Sum.inr slot = k := Option.some.inj hk
        exact congrArg Prod.fst hself

theorem Passing.settleLatches {x : State × PassAccount} (h : Passing X s x.1) {slots : List Slot}
    (hslots : ∀ i ∈ slots, s.ctxs[i].state = .inService) : Passing X s (settleLatches slots x).1 := by
  induction slots generalizing x with
  | nil => exact h
  | cons i is ih =>
    refine ih ?_ fun j hj => hslots j (List.mem_cons_of_mem i hj)
    unfold settleLatch
    split
    · exact h
    · split
      · exact h
      · split
        · exact h.issueLatch _ _ (hslots i List.mem_cons_self)
        · exact h

theorem settleInvalidations_flag (slots : List Slot) (i : Slot) (s : State) :
    (settleInvalidations slots s).msgs.ceInvalidate[i] = if i ∈ slots then false else s.msgs.ceInvalidate[i] := by
  induction slots generalizing s with
  | nil => simp [settleInvalidations]
  | cons j js ih =>
    rw [settleInvalidations, ih, settleInvalidation_flag]
    by_cases hj : i = j <;> by_cases hi : i ∈ js <;> simp [hj, hi]

theorem settleInvalidations_frame (slots : List Slot) (s : State) :
    (settleInvalidations slots s).ctxs = s.ctxs ∧ (settleInvalidations slots s).bm = s.bm
      ∧ (settleInvalidations slots s).cs = s.cs ∧ (settleInvalidations slots s).mu = s.mu := by
  induction slots generalizing s with
  | nil => simp [settleInvalidations]
  | cons j js ih =>
    obtain ⟨hctxs, hbm, hcs, hmu⟩ := ih (settleInvalidation j s)
    exact ⟨hctxs.trans (by simp), hbm.trans (by simp), hcs.trans (by simp), hmu.trans (by simp)⟩

theorem Lawful.runPass (h : Lawful X s) : Lawful X (runPass s).1 := by
  have hcounted : Lawful X { s with ce := { s.ce with passCount := s.ce.passCount + 1 } } :=
    h.sameRefs rfl rfl rfl (fun _ => rfl) fun k => refs_congr rfl rfl k
  have hsettled := hcounted.settleInvalidations (List.finRange 8)
  obtain ⟨hctxs, -, hcs, -⟩ := settleInvalidations_frame (List.finRange 8)
    { s with ce := { s.ce with passCount := s.ce.passCount + 1 } }
  have hstart : Passing X s (Machine.settleInvalidations (List.finRange 8)
      { s with ce := { s.ce with passCount := s.ce.passCount + 1 } }) := by
    refine ⟨hsettled, fun i => ?_, hctxs, hcs⟩
    rw [settleInvalidations_flag, if_pos (List.mem_finRange i)]
  have hserved : ∀ i ∈ servedSlots s, s.ctxs[i].state = .inService := fun i hi => by
    simpa using (List.mem_filter.1 hi).2
  unfold Machine.runPass
  dsimp only
  generalize Machine.settleInvalidations (List.finRange 8)
    { s with ce := { s.ce with passCount := s.ce.passCount + 1 } } = u at hstart
  have hvisited := Passing.visitSlots (x := (u, PassAccount.none)) hstart hserved
  exact (hvisited.settleLatches hserved).lawful.decideIfEnqueued s

end Sys2Proof.Machine
end

section
/-! The laws through the withdrawal of a profile's writes (R54, R85), and through every command. -/

namespace Sys2Proof.Machine

variable {X : Excuse} {s t : State} {slot : Slot}

/-! ### The withdrawal of a profile's writes -/

/-- An excuse ends for a handle that names no queued transfer, or a stale one. -/
theorem Lawful.unexcuse (h : Lawful X s) (i : Nat) (hgone : ∀ x ∈ s.bm.queue, x.id = i → x.stale = true) :
    Lawful (fun j o => X j o ∧ j ≠ i) s := by
  refine ⟨h.one, h.ctx, h.transfer, fun x hx hnot => ?_⟩
  by_cases hid : x.id = i
  · have hstale := hgone x hx hid
    exact ⟨fun _ hfresh => by simp [hstale] at hfresh, fun _ _ hfresh => by simp [hstale] at hfresh,
      fun _ _ hfresh => by simp [hstale] at hfresh⟩
  · exact h.named x hx fun hexc => hnot ⟨hexc, hid⟩

/-- The withdrawn transfer: gone, or stale on the bus (R54). -/
def withdrawn (x : Transfer) (s : State) : State := if x.onBus then markStale x.id s else depart x.id s

theorem withdrawn_frame (x : Transfer) (s : State) :
    (withdrawn x s).ctxs = s.ctxs ∧ (withdrawn x s).cs = s.cs ∧ (withdrawn x s).ce = s.ce
      ∧ (withdrawn x s).msgs.ceInvalidate = s.msgs.ceInvalidate := by
  unfold withdrawn
  split <;> simp [depart]

theorem evolves_withdrawn (S : Set Slot) (x : Transfer) (s : State) : Evolves S s (withdrawn x s) := by
  unfold withdrawn
  split
  · exact evolves_markStale _ s
  · exact evolves_depart _ s

/-- A queued transfer behind the withdrawal of one is another one as it was, or the withdrawn one, stale on the bus. -/
theorem mem_withdrawn {x y : Transfer} (hone : OneOnBus s) (hx : x ∈ s.bm.queue) (hy : y ∈ (withdrawn x s).bm.queue) :
    (y ∈ s.bm.queue ∧ y.id ≠ x.id) ∨ (x.onBus = true ∧ y = { x with stale := true }) := by
  unfold withdrawn at hy
  split at hy
  · rename_i hbus
    obtain ⟨z, hz, rfl⟩ := List.mem_map.1 hy
    split
    · rename_i hid
      obtain rfl : z = x := hone.eq_of_id hz hx hid
      exact .inr ⟨hbus, if_pos hbus⟩
    · rename_i hid
      exact .inl ⟨hz, hid⟩
  · exact .inl ⟨List.mem_of_mem_filter hy, not_mem_depart hy⟩

/-- A context after its awaited step is withdrawn (R85). -/
def withdrawnCtx (x : Transfer) (c : Ctx) : Ctx :=
  { c with awaited := none, staleHold := if x.onBus then some x.id else c.staleHold }

theorem stepWithdrawn_cases (x : Transfer) (s : State) :
    (stepWithdrawn x s = s ∧ ∀ (id : ProfileId) (i : Slot), x.origin = .loadProfile id → x.slot = some i →
        s.ctxs[i].awaited ≠ some x.id)
      ∨ ∃ (id : ProfileId) (i : Slot), x.origin = .loadProfile id ∧ x.slot = some i ∧ s.ctxs[i].awaited = some x.id
        ∧ stepWithdrawn x s = advanceLoad i (modCtx i (withdrawnCtx x) s) := by
  unfold stepWithdrawn
  split
  · rename_i id i horigin hslot
    split
    · rename_i hawaited
      exact .inr ⟨id, i, horigin, hslot, hawaited, rfl⟩
    · rename_i hawaited
      refine .inl ⟨rfl, fun _ j _ hj => ?_⟩
      obtain rfl : i = j := Option.some.inj (hslot.symm.trans hj)
      exact hawaited
  · rename_i hnot
    exact .inl ⟨rfl, fun id i horigin hslot => (hnot id i horigin hslot).elim⟩

/-- A transfer is withdrawn that no load awaits. -/
theorem Lawful.withdrawn_unawaited (h : Lawful X s) {x : Transfer} (hx : x ∈ s.bm.queue)
    (hawaited : ∀ (id : ProfileId) (i : Slot), x.origin = .loadProfile id → x.slot = some i →
      s.ctxs[i].awaited ≠ some x.id) : Lawful X (withdrawn x s) := by
  obtain ⟨hctxs, hcs, hce, hflags⟩ := withdrawn_frame x s
  refine ⟨(evolves_withdrawn ∅ x s).oneOnBus h.one, by rw [hctxs]; exact h.ctx, fun y hy => ?_, fun y hy hX => ?_⟩
  · rcases mem_withdrawn h.one hx hy with ⟨hys, -⟩ | ⟨hbus, rfl⟩
    · exact (h.transfer y hys).congr hctxs
    · refine ⟨nofun, fun _ => hbus, fun _ id i hid hi => ?_⟩
      rw [hctxs]
      exact hawaited id i hid hi
  · rcases mem_withdrawn h.one hx hy with ⟨hys, -⟩ | ⟨-, rfl⟩
    · exact (h.named y hys hX).mono (fun _ _ => by rw [hflags]; exact id) (activeProfile_congr hcs) fun k _ =>
        refs_congr (by rw [hce]) (by rw [hce]) k
    · exact ⟨nofun, nofun, nofun⟩

/-- The awaited step of a load is withdrawn: its slot goes on quiet. -/
theorem Lawful.withdrawn_awaited (h : Lawful X s) {x : Transfer} (hx : x ∈ s.bm.queue) {id : ProfileId}
    (horigin : x.origin = .loadProfile id) (hslot : x.slot = some slot) (hawaited : s.ctxs[slot].awaited = some x.id) :
    s.ctxs[slot].state = .loading ∧ Lawful X (Machine.modCtx slot (withdrawnCtx x) (withdrawn x s)) := by
  obtain ⟨hctxs, hcs, hce, hflags⟩ := withdrawn_frame x s
  have hauto : x.automatic = true := cell_automatic (cell_of_profileOf (id := id) (by rw [horigin]; rfl))
  have hfresh : x.stale = false := by
    by_contra hstale
    exact (h.transfer x hx).withdrawn (by simpa using hstale) id slot horigin hslot hawaited
  have hloading : s.ctxs[slot].state = .loading := by
    have hmade := h.madeIn hx ⟨hauto, hfresh, hslot⟩
    simp only [MadeIn, horigin] at hmade
    exact hmade.1
  have hself : (Machine.modCtx slot (withdrawnCtx x) (withdrawn x s)).ctxs[slot] = withdrawnCtx x s.ctxs[slot] := by
    rw [modCtx_get_self, hctxs]
  refine ⟨hloading, h.quieted slot
    (((evolves_withdrawn {slot} x s).trans (evolves_modCtx slot _ _)).oneOnBus h.one) (fun y hy => ?_) ?_ ?_ (fun i hi => ?_)
    (fun i _ hfalse => ?_) (activeProfile_congr hcs) fun k => refs_congr (by simp [hce]) (by simp [hce]) k⟩
  · rcases mem_withdrawn h.one hx hy with ⟨hys, hne⟩ | ⟨hbus, rfl⟩
    · refine .inl ⟨hys, fun hlive => ?_⟩
      have hmade := h.madeIn hys hlive
      have hlive' := hlive.automatic
      unfold MadeIn at hmade
      rw [hloading, hawaited] at hmade
      split at hmade <;> simp_all [Transfer.automatic, Transfer.cls, Origin.cls]
    · exact .inr ⟨hbus, rfl, hslot⟩
  · rw [hself]
    have hc := h.ctx slot
    exact ⟨fun _ => rfl, hc.checkTimer, hc.faultTimer, hc.checking, nofun, hc.roomMark⟩
  · rw [hself]
    rfl
  · rw [modCtx_get_ne hi, hctxs]
  · change (withdrawn x s).msgs.ceInvalidate[i] = false
    rw [hflags]
    exact hfalse

/-- Behind the withdrawal of the transfer a reference names, it is excused no more. -/
theorem Lawful.withdraw (h : Lawful X s) (r : Option Ref) :
    Lawful (fun j o => X j o ∧ r.map Ref.id ≠ some j) (withdraw r s) := by
  unfold Machine.withdraw
  split
  · exact h.excuse fun _ _ hexc => ⟨hexc, nofun⟩
  · rename_i w
    have hexcuse {u : State} (hu : Lawful (fun j o => X j o ∧ j ≠ w.id) u) :
        Lawful (fun j o => X j o ∧ (some w).map Ref.id ≠ some j) u :=
      hu.excuse fun _ _ hexc => ⟨hexc.1, fun heq => hexc.2 (Option.some.inj heq).symm⟩
    split
    · rename_i hnone
      refine hexcuse (h.unexcuse w.id fun x hx hid => ?_)
      have := List.find?_eq_none.1 hnone x hx
      simp [hid] at this
    · rename_i x hfound
      have hx : x ∈ s.bm.queue := List.mem_of_find?_eq_some hfound
      have hid : x.id = w.id := by simpa using List.find?_some hfound
      have heq : (if x.onBus then markStale w.id s else Machine.depart w.id s) = withdrawn x s := by
        rw [withdrawn, hid]
      have hgone {u : State} (hu : u.bm = (withdrawn x s).bm) : ∀ y ∈ u.bm.queue, y.id = w.id → y.stale = true := by
        intro y hy hyid
        rw [hu] at hy
        rcases mem_withdrawn h.one hx hy with ⟨-, hne⟩ | ⟨-, rfl⟩
        · exact absurd (hyid.trans hid.symm) hne
        · rfl
      rw [heq]
      rcases stepWithdrawn_cases x (withdrawn x s) with ⟨hsame, hawaited⟩ | ⟨id, i, horigin, hslot, hawaited, hgo⟩
      · rw [hsame]
        rw [(withdrawn_frame x s).1] at hawaited
        exact hexcuse ((h.withdrawn_unawaited hx hawaited).unexcuse w.id (hgone rfl))
      · rw [hgo]
        rw [(withdrawn_frame x s).1] at hawaited
        obtain ⟨hloading, hquiet⟩ := h.withdrawn_awaited hx horigin hslot hawaited
        have hself : (Machine.modCtx i (withdrawnCtx x) (withdrawn x s)).ctxs[i] = withdrawnCtx x s.ctxs[i] := by
          rw [modCtx_get_self, (withdrawn_frame x s).1]
        refine hexcuse ((hquiet.unexcuse w.id (hgone rfl)).advanceLoad ?_ ?_)
        · rw [hself]
          rfl
        · rw [hself]
          exact hloading

/-- The writes of a profile are those of the profile origin's kind. -/
def writesOf (id : ProfileId) : Excuse := fun _ o => o.profileOf = some id

/-- The invalidation of a profile's shadow settles its writes, where the shadow names every fresh one. -/
theorem Lawful.invalidateProfile {id : ProfileId} (h : Lawful (fun i o => X i o ∨ writesOf id i o) s)
    (hnamed : ∀ x ∈ s.bm.queue, ¬ X x.id x.origin → x.stale = false → x.cell = some (.inl id) →
      (refs s (.inl id)).1 = some x.id ∨ (refs s (.inl id)).2 = some x.id) : Lawful X (invalidateProfile id s) := by
  have hrefs := refs_setShadow id Shadow.reset s
  have hreset : Lawful (fun i o => X i o ∨ (s.ce.shadows[id].waiting.map Ref.id = some i
      ∨ s.ce.shadows[id].onBus.map Ref.id = some i)) (setShadow id Shadow.reset s) := by
    refine ⟨oneOnBus_of_bm rfl rfl h.one, h.ctx, fun x hx => (h.transfer x hx).congr rfl, fun x hx hnot => ?_⟩
    have hnotX : ¬ X x.id x.origin := fun hexc => hnot (.inl hexc)
    by_cases hcell : x.cell = some (.inl id)
    · cases hstale : x.stale with
      | true =>
        exact ⟨fun _ hfresh => by simp [hstale] at hfresh, fun _ _ hfresh => by simp [hstale] at hfresh,
          fun _ _ hfresh => by simp [hstale] at hfresh⟩
      | false => exact absurd (.inr (hnamed x hx hnotX hstale hcell)) hnot
    · have hnotWrite : ¬ writesOf id x.id x.origin := fun hwrite => hcell (cell_of_profileOf hwrite)
      refine (h.named x hx fun hexc => hexc.elim hnotX hnotWrite).mono (fun _ _ => fun h => h) (fun _ => rfl) fun k hk => ?_
      rw [hrefs, if_neg]
      rintro rfl
      exact hcell hk
  refine ((hreset.withdraw s.ce.shadows[id].waiting).withdraw s.ce.shadows[id].onBus).excuse ?_
  rintro i o ⟨⟨hX | hw | hb, hnotw⟩, hnotb⟩
  · exact hX
  · exact absurd hw hnotw
  · exact absurd hb hnotb

/-- The invalidation of a profile's shadow keeps the laws. -/
theorem Lawful.invalidateProfile_same (h : Lawful X s) (id : ProfileId) : Lawful X (Machine.invalidateProfile id s) := by
  refine Lawful.invalidateProfile (h.excuse fun _ _ => .inl) fun x hx hX hfresh hk => ?_
  cases hbus : x.onBus with
  | false => exact .inl ((h.named x hx hX).waiting _ hk hfresh hbus)
  | true => exact .inr ((h.named x hx hX).onBus _ hk hfresh hbus)

theorem Lawful.keepProfile (h : Lawful X s) (id : ProfileId) (after : Option Profile) : Lawful X (keepProfile id after s) := by
  unfold Machine.keepProfile
  split
  · split
    · exact h
    · exact h.modShadow_same (f := fun sh => { sh with deferred := false }) fun _ => ⟨rfl, rfl⟩
  · exact h

theorem serene_setTrims (trims : Vector Int 64) (s : State) : Still s { s with ce := { s.ce with trims := trims } } :=
  ⟨rfl, rfl, rfl, rfl, rfl, rfl⟩

theorem Lawful.takeProfileChange (h : Lawful X s) (c : ProfileChange) : Lawful X (takeProfileChange c s) := by
  have htrim : Lawful X (if c.after.isNone then setTrimOf c.id 0 s else s) := by
    split
    · exact h.still (serene_setTrims _ s) fun _ => rfl
    · exact h
  unfold Machine.takeProfileChange
  dsimp only
  split
  · exact htrim.invalidateProfile_same c.id
  · exact htrim.keepProfile c.id c.after

/-! ### The commands -/

theorem Lawful.msgs (h : Lawful X s) {m : Msgs} (hflags : m.ceInvalidate = s.msgs.ceInvalidate) :
    Lawful X { s with msgs := m } :=
  h.serene ⟨⟨rfl, rfl, rfl, rfl, rfl, hflags⟩, ⟨rfl, rfl, rfl, rfl, rfl, rfl⟩⟩

theorem Lawful.sampleDerate (h : Lawful X s) (level : Bool) : Lawful X (sampleDerate level s) :=
  h.offLink (offLink_sampleDerate level s)

theorem Lawful.taken (h : Lawful X s) {m : Msgs} (hflags : m.ceInvalidate = s.msgs.ceInvalidate) (level : Bool) :
    Lawful X (Machine.sampleDerate level { s with msgs := m }) :=
  (h.msgs hflags).sampleDerate level

theorem lawful_worksAlone {c : Instr} (hX : X.Uniform) (hc : worksAlone c = true) (hs : Lawful X s)
    (h : exec c s = .next t) : Lawful X t := by
  cases c with
  | slotSetUp derate =>
    cases h
    split
    · have htaken : Lawful X (Machine.sampleDerate derate { s with msgs := { s.msgs with endTm := none } }) :=
          hs.taken (m := { s.msgs with endTm := none }) rfl derate
      exact (htaken.setUpSlots _ _).decideIfEnqueued s
    · exact hs
  | cycleCompleteAtCe derate =>
    cases h
    have htaken : Lawful X (Machine.sampleDerate derate (takeCeMu s)) :=
          hs.taken (m := { s.msgs with ceMu := s.msgs.ceMu.tail }) rfl derate
    split
    · split
      · exact htaken.runPass
      · exact htaken
    · exact hs
  | supplyChangeAtBm =>
    cases h
    split
    · rename_i c rest _
      have htaken : Lawful X { s with bm := { s.bm with supply := c }, msgs := { s.msgs with bmSupply := rest } } :=
        hs.serene ⟨⟨rfl, rfl, rfl, rfl, rfl, rfl⟩, ⟨rfl, rfl, rfl, rfl, rfl, rfl⟩⟩
      cases c with
      | normal => exact htaken.grantDecision
      | low => exact htaken
    · exact hs
  | supplyRecoveryChecks =>
    cases h
    split
    · rename_i c rest _
      have htaken : Lawful X { s with msgs := { s.msgs with tmSupply := rest } } := hs.msgs rfl
      cases c with
      | normal => exact (htaken.recoveryChecks _).decideIfEnqueued s
      | low => exact htaken
    · exact hs
  | slotInvalidation slot =>
    cases h
    exact hs.settleInvalidation slot
  | recordActivation derate =>
    cases h
    split
    · have htaken : Lawful X (Machine.sampleDerate derate (takeTmStore s)) :=
          hs.taken (m := { s.msgs with tmStore := s.msgs.tmStore.tail }) rfl derate
      exact (htaken.takeRecord _ _ _).decideIfEnqueued s
    · exact hs
  | recordRemoval =>
    cases h
    split
    · have htaken : Lawful X (takeTmStore s) := hs.msgs rfl
      exact htaken.takeRemoval _
    · exact hs
  | imageActivation derate =>
    cases h
    split
    · have htaken : Lawful X (Machine.sampleDerate derate (takeTmStore s)) :=
          hs.taken (m := { s.msgs with tmStore := s.msgs.tmStore.tail }) rfl derate
      dsimp only
      split
      · exact (htaken.activationProbe _).decideIfEnqueued s
      · exact htaken
    · exact hs
  | compensationFailureReport =>
    cases h
    split
    · rename_i rest _
      have htaken : Lawful X { s with msgs := { s.msgs with tmReports := rest } } := hs.msgs rfl
      dsimp only
      split
      · exact htaken.enterFaultHold _ _ _
      · exact htaken
    · exact hs
  | queueDeparture derate =>
    cases h
    split
    · exact hs
    · have htaken : Lawful X (Machine.sampleDerate derate
          { s with msgs := { s.msgs with departures := s.msgs.departures - 1 } }) :=
          hs.taken (m := { s.msgs with departures := s.msgs.departures - 1 }) rfl derate
      exact (htaken.retrySteps _).decideIfEnqueued s
  | checkTimerExpiry slot =>
    cases h
    split
    · rename_i at' htimer
      have hcheck := (hs.ctx slot).checkTimer (Option.isSome_iff_exists.2 ⟨at', htimer⟩)
      exact ((hs.serene (serene_advanceTo at' s)).startCheck hcheck.1 hcheck.2).decideIfEnqueued s
    · exact hs
  | faultHoldTimerExpiry slot derate =>
    cases h
    split
    · exact (((hs.serene (serene_advanceTo _ s)).sampleDerate derate).holdExpired slot).decideIfEnqueued s
    · exact hs
  | transactionEnd response derate =>
    cases h
    split
    · rename_i x hx
      split
      · exact hs
      · exact (hs.sampleDerate derate).endTransaction hX hx response
    · exact hs
  | recoverySequenceEnd run derate =>
    cases h
    split
    · exact (hs.sampleDerate derate).endRecovery hX run
    · exact hs
  | quietTimeEnd slot =>
    cases h
    split
    · rename_i at' _
      have hquiet : Lawful X (setQuiet slot none (advanceTo at' s)) := (hs.serene (serene_advanceTo at' s)).bmRest rfl rfl
      exact hquiet.grantDecision
    · exact hs
  | _ => simp [worksAlone, worksOnTransfers] at hc

theorem linkRel_lawful (X : Excuse) : LinkRel (fun s t => Lawful X s → Lawful X t) :=
  ⟨fun h hs => hs.offLink h, fun h h' => h' ∘ h⟩

theorem Lawful.enqueueManual (h : Lawful X s) (d : Dir) (a : ManualArgs) (addr : Byte) (f : Frame) :
    Lawful X (enqueueManual d a addr f s) := by
  have hrefused (r : Result) (content : List Byte) : Lawful X (refuseManual f r content s) :=
    (linkRel_lawful X).reply _ _ _ s h
  unfold Machine.enqueueManual
  split
  · exact hrefused _ _
  · split
    · exact hrefused _ _
    · exact hrefused _ _
    · have hpending := h.offLink (offLink_addPending f (.transfer s.bm.nextId) s)
      have hmanual : (manualRequest d a addr f.tag).origin = .request f.tag := rfl
      refine (hpending.addTransfer (manualRequest d a addr f.tag) (fun hauto => ?_) fun _ =>
        namedLaw_of_noCell (by rw [Request.record, hmanual]; nofun) rfl).grantDecision
      simp [Request.record, Transfer.automatic, Transfer.cls, hmanual, Origin.cls] at hauto

theorem Lawful.manual (h : Lawful X s) (d : Dir) (parsed : Option ManualArgs) (f : Frame) :
    Lawful X (manual d parsed f s) := by
  have hrefused (r : Result) (content : List Byte) : Lawful X (refuseManual f r content s) :=
    (linkRel_lawful X).reply _ _ _ s h
  unfold Machine.manual
  split
  · exact hrefused _ _
  · split
    · exact hrefused _ _
    · split
      · exact hrefused _ _
      · unfold admitManual
        split <;> split
        · exact h.enqueueManual ..
        · exact hrefused _ _
        · exact hrefused _ _
        · exact h.enqueueManual ..

theorem Lawful.admin (h : Lawful X s) (slot : Slot) (a : Action) (f : Frame) : Lawful X (admin slot a f s) := by
  have hlink := linkRel_lawful X
  unfold Machine.admin
  split
  · exact hlink.reply _ _ _ s h
  · split
    · exact hlink.reply _ _ _ s h
    · exact hlink.reply _ _ _ s h
    · exact ((hlink.reply _ _ _ s h).actOn a slot).decideIfEnqueued s

theorem lawful_works {c : Instr} (hX : X.Uniform) (hc : worksOnTransfers c = true) (hs : Lawful X s)
    (h : exec c s = .next t) : Lawful X t := by
  have hlink := linkRel_lawful X
  cases halone : worksAlone c with
  | true => exact lawful_worksAlone hX halone hs h
  | false =>
    cases c with
    | profileActivation derate =>
      cases h
      split
      · rename_i c rest _
        have htaken : Lawful X (Machine.sampleDerate derate { s with msgs := { s.msgs with ceProfile := rest } }) :=
          hs.taken (m := { s.msgs with ceProfile := rest }) rfl derate
        exact (htaken.takeProfileChange c).decideIfEnqueued s
      · exact hs
    | getShadow =>
      cases h
      refine hlink.request _ _ _ (fun b f u hu => ?_) s hs
      split
      · exact hlink.reply _ _ _ _ (hu.settleInvalidations _)
      · exact hlink.reply _ _ _ _ hu
    | passNow derate =>
      cases h
      refine hlink.dispatch _ (fun f u hu => ?_) s hs
      refine hlink.judged _ _ (fun a f u hu => ?_) f _ (hu.sampleDerate derate)
      exact hlink.reply _ _ _ _ hu.runPass
    | targetAdmin derate =>
      cases h
      refine hlink.dispatch _ (fun f u hu => ?_) s hs
      split
      · exact hlink.reply _ _ _ _ hu
      · exact (hu.sampleDerate derate).admin ..
    | manualRead =>
      cases h
      exact hlink.dispatch _ (fun f u hu => hu.manual ..) s hs
    | manualWrite =>
      cases h
      exact hlink.dispatch _ (fun f u hu => hu.manual ..) s hs
    | _ => simp_all [worksAlone, worksOnTransfers]

theorem lawful_of_lost (h : VolatileLost t) : Lawful X t := by
  have hqueue := h.queue
  refine ⟨?_, fun slot => ?_, by simp [hqueue], by simp [hqueue]⟩
  · simp [OneOnBus, hqueue]
  · rw [h.ctxs]
    exact ctxLaw_reset

theorem lawful_notLatch_still (h : Lawful notLatch s) (hstill : Still s t) : Lawful notLatch t := by
  refine h.stillProfiles hstill (fun _ _ hX => hX) fun x _ hX id p hid => ?_
  have hlatch : x.origin = .latch := by simpa [notLatch] using hX
  simp [hlatch, Origin.profileOf] at hid

theorem lawful_notLatch_exec {c : Instr} (hs : Lawful notLatch s) (h : exec c s = .next t) : Lawful notLatch t := by
  cases hworks : worksOnTransfers c with
  | true => exact lawful_works uniform_notLatch hworks hs h
  | false =>
    rcases still_or_lost_exec hworks h with hstill | hlost
    · exact lawful_notLatch_still hs hstill
    · exact lawful_of_lost hlost

/-- Settles O58: the laws are one invariant over the queued transfers, which every command keeps. -/
theorem everyStepKeepsSlotAndLatchLaws : Obligations.EveryStepKeepsSlotAndLatchLaws := by
  intro s t hone hslot hlatch hstep
  have hs : Lawful notLatch s := lawful_notLatch_iff.2 ⟨hone, hslot, hlatch⟩
  suffices h : Lawful notLatch t from (lawful_notLatch_iff.1 h).2
  rcases step_cases hstep with rfl | ⟨c, rest, hexec⟩
  · exact lawful_notLatch_still hs ⟨rfl, rfl, rfl, rfl, rfl, rfl⟩
  · exact lawful_notLatch_exec (s := { s with pending := rest }) (lawful_notLatch_still hs ⟨rfl, rfl, rfl, rfl, rfl, rfl⟩) hexec

end Sys2Proof.Machine
end

section
/-! The law of writes: while no profile activation is outstanding the active profiles change at a scan's end and at a
profile's commit alone. -/

namespace Sys2Proof.Machine

variable {s t u : State}

/-! ### The active profiles -/

theorem Copy.content_mapContent {α : Type} (f : α → Content) (c : Copy α) : (c.mapContent f).content = c.content.map f := by
  cases c <;> rfl

/-- The active profile is the content of the active copy. -/
theorem activeProfile_copyAt (s : State) (id : ProfileId) : (activeProfile s id).map Content.profile =
    (s.cs.dir.entry (.profile id)).active.bind fun n => (s.cs.store.copyAt (.profile id) n).content := by
  unfold activeProfile activeContent
  simp only [Directory.entry, Store.copyAt]
  cases s.cs.dir.profiles[id].active with
  | none => rfl
  | some n => cases n <;> exact (Copy.content_mapContent ..).symm

theorem activeProfile_of_copies {id : ProfileId}
    (hactive : (t.cs.dir.entry (.profile id)).active = (s.cs.dir.entry (.profile id)).active)
    (hcopy : ∀ n, (s.cs.dir.entry (.profile id)).active = some n →
      t.cs.store.copyAt (.profile id) n = s.cs.store.copyAt (.profile id) n) :
    activeProfile t id = activeProfile s id := by
  have hinjective : Function.Injective (Option.map Content.profile) := Option.map_injective fun p q h => by cases h; rfl
  apply hinjective
  rw [activeProfile_copyAt, activeProfile_copyAt, hactive]
  cases hn : (s.cs.dir.entry (.profile id)).active with
  | none => rfl
  | some n => exact congrArg Copy.content (hcopy n hn)

/-! ### Commands beside transfers and commits -/

/-- A command beside transfers, scans and commits keeps the active profiles or loses the volatile state. -/
theorem profilesKept_or_lost {c : Instr} (hworks : worksOnTransfers c = false) (hcommit : ∀ v, c ≠ .commitEnd v)
    (hscanning : s.cs.scanning = false) (h : exec c s = .next t) :
    (Still s t ∧ ∀ id, activeProfile t id = activeProfile s id) ∨ VolatileLost t := by
  have hkept (hc : t.cs = s.cs) : (Still s t ∧ ∀ id, activeProfile t id = activeProfile s id) ∨ VolatileLost t :=
    (still_or_lost_exec hworks h).imp_left fun hstill => ⟨hstill, activeProfile_congr hc⟩
  cases hnames : namesRegister c with
  | false =>
    have hcalm := calm_exec hworks hnames h
    exact .inl ⟨hcalm.toStill, fun id => activeProfile_of_copies (hcalm.actives _) fun n _ => by rw [hcalm.store]⟩
  | true =>
    cases c with
    | commitEnd v => exact absurd rfl (hcommit v)
    | startUpScanEnd d =>
      cases h
      rw [if_neg (by simp [hscanning])]
      exact .inl ⟨.refl s, fun _ => rfl⟩
    | setMode => exact hkept (setMode_keeps h).2.1
    | setTrim => exact hkept (setTrim_keeps h).2.1
    | setDerate d => exact hkept (setDerate_keeps h).2.1
    | endOfStart => exact hkept (endOfStart_keeps h).2.1
    | powerOnReset =>
      cases h
      exact .inr (volatileLost_holdInReset ..)
    | pinReset =>
      cases h
      exact .inr (volatileLost_holdInReset ..)
    | resetRelease straps =>
      cases h
      split
      · exact .inr (volatileLost_resetEnded ..)
      · exact .inl ⟨.refl s, fun _ => rfl⟩
    | frameSent straps =>
      cases h
      dsimp only
      split
      · split
        · exact .inr (volatileLost_resetEnded ..)
        · exact .inl ⟨by constructor <;> simp, activeProfile_congr (by simp)⟩
      · exact .inl ⟨.refl s, fun _ => rfl⟩
    | _ => simp [namesRegister] at hnames

/-! ### The end of a commit -/

theorem commitVerified_cs (c : Commit) (b : EditBuffer) (s : State) :
    (commitVerified c b s).cs.dir = (activateCopy c b s).cs.dir
      ∧ (commitVerified c b s).cs.store = (activateCopy c b s).cs.store := by
  simp [commitVerified, closeSession, announce_cs]

theorem activeProfile_of_dir {id : ProfileId} (hdir : t.cs.dir = s.cs.dir) (hstore : t.cs.store = s.cs.store) :
    activeProfile t id = activeProfile s id := by
  simp [activeProfile, hdir, hstore]

/-- A verified commit changes the active content of its object alone. -/
theorem commitVerified_activeProfile {c : Commit} {b : EditBuffer} (hfits : contentFits c.obj b.content = true)
    {id : ProfileId} (hne : ObjId.profile id ≠ c.obj) :
    activeProfile (commitVerified c b s) id = activeProfile s id := by
  obtain ⟨hdir, hstore⟩ := commitVerified_cs c b s
  rw [activeProfile_of_dir hdir hstore]
  refine activeProfile_of_copies ?_ fun n _ => ?_
  · rw [activateCopy_active, if_neg hne]
  · rw [activateCopy_store, writeCopy_copyAt hfits, if_neg fun hand => hne hand.1]

/-- A failed commit changes no active content. -/
theorem commitFailed_activeProfile {c : Commit} (haside : (s.cs.dir.entry c.obj).active ≠ some c.copy) (id : ProfileId) :
    activeProfile (commitFailed c s) id = activeProfile s id := by
  have hcs := commitFailed_cs c s
  refine activeProfile_of_copies ?_ fun n hn => ?_
  · rw [hcs, Directory.setEntry_entry]
    split
    · rename_i hobj
      rw [hobj, DirEntry.setInfo_active]
    · rfl
  · rw [hcs, spoilCopy_copyAt, if_neg]
    rintro ⟨hobj, rfl⟩
    exact haside (hobj ▸ hn)

theorem commitFailed_ceProfile (c : Commit) (s : State) : (commitFailed c s).msgs.ceProfile = s.msgs.ceProfile := by
  simp only [commitFailed, startEditTimer_fields, postNotice_fields, endPending_keeps]
  unfold resettle
  split <;> rfl

theorem activateCopy_ceProfile (c : Commit) (b : EditBuffer) (s : State) :
    (activateCopy c b s).msgs.ceProfile = s.msgs.ceProfile := by
  unfold activateCopy
  dsimp only
  split <;> rfl

/-- A verified commit announces the change of a profile to the CE, and no other object's (R159). -/
theorem commitVerified_ceProfile (c : Commit) (b : EditBuffer) (s : State) :
    (∃ i, c.obj = .profile i ∧ (commitVerified c b s).msgs.ceProfile =
        s.msgs.ceProfile ++ [⟨i, activeProfile s i, activeProfile (commitVerified c b s) i⟩])
      ∨ ((∀ i, c.obj ≠ .profile i) ∧ (commitVerified c b s).msgs.ceProfile = s.msgs.ceProfile) := by
  obtain ⟨hdir, hstore⟩ := commitVerified_cs c b s
  have hkept := activateCopy_ceProfile c b s
  have hmsgs : (commitVerified c b s).msgs.ceProfile = (announce c.obj s (activateCopy c b s)).msgs.ceProfile := by
    simp [commitVerified, closeSession]
  rw [hmsgs]
  cases hobj : c.obj with
  | profile i =>
    refine .inl ⟨i, rfl, ?_⟩
    rw [activeProfile_of_dir hdir hstore]
    simp [announce, hkept]
  | settings => exact .inr ⟨nofun, hkept⟩
  | target i => exact .inr ⟨nofun, hkept⟩
  | image i => exact .inr ⟨nofun, hkept⟩

/-- The end of a commit leaves the active profiles, or changes one of them and announces it. -/
theorem commitEnd_profiles {verified : Bool} (hlaw : StoreLaw s) (h : exec (.commitEnd verified) s = .next t) :
    Still s t ∧ (((∀ id, activeProfile t id = activeProfile s id) ∧ t.msgs.ceProfile = s.msgs.ceProfile)
      ∨ ∃ i, (∀ id ≠ i, activeProfile t id = activeProfile s id)
        ∧ t.msgs.ceProfile = s.msgs.ceProfile ++ [⟨i, activeProfile s i, activeProfile t i⟩]) := by
  cases h
  split
  · rename_i c b hc hb
    obtain ⟨-, haside, b', hb', hobj⟩ := hlaw.commitAside c hc
    obtain rfl : b = b' := Option.some.inj (hb.symm.trans hb')
    have hfits : contentFits c.obj b.content = true := by
      rw [← hobj, ← EditBuffer.fits_eq]
      exact hlaw.fits b hb
    have hnow := serene_advanceTo c.endTime s
    have hactive (id : ProfileId) : activeProfile (advanceTo c.endTime s) id = activeProfile s id :=
      activeProfile_congr hnow.cs id
    dsimp only
    split
    · refine ⟨hnow.toStill.trans (commitFrame_commitVerified _ _ _).toStill, ?_⟩
      rcases commitVerified_ceProfile c b (advanceTo c.endTime s) with ⟨i, hi, hannounced⟩ | ⟨hnot, hsame⟩
      · refine .inr ⟨i, fun id hid => ?_, ?_⟩
        · rw [commitVerified_activeProfile hfits (by rw [hi]; simpa using hid), hactive]
        · rw [hannounced, hactive]
          rfl
      · refine .inl ⟨fun id => ?_, hsame⟩
        rw [commitVerified_activeProfile hfits fun he => hnot id he.symm, hactive]
    · refine ⟨hnow.toStill.trans (commitFrame_commitFailed _ _).toStill, .inl ⟨fun id => ?_, ?_⟩⟩
      · exact (commitFailed_activeProfile (s := advanceTo c.endTime s) haside id).trans (hactive id)
      · rw [commitFailed_ceProfile]
        rfl
  · exact ⟨.refl s, .inl ⟨fun _ => rfl, rfl⟩⟩

/-! ### The law of writes -/

theorem lawful_onlyLatch_exec {c : Instr} (hs : Lawful onlyLatch s) (hlaw : StoreLaw s) (hscanning : s.cs.scanning = false)
    (hnone : s.msgs.ceProfile = []) (hnone' : t.msgs.ceProfile = []) (h : exec c s = .next t) : Lawful onlyLatch t := by
  cases hworks : worksOnTransfers c with
  | true => exact lawful_works uniform_onlyLatch hworks hs h
  | false =>
    by_cases hcommit : ∃ v, c = .commitEnd v
    · obtain ⟨v, rfl⟩ := hcommit
      obtain ⟨hstill, ⟨hactive, -⟩ | ⟨i, -, hannounced⟩⟩ := commitEnd_profiles hlaw h
      · exact hs.still hstill hactive
      · simp [hnone, hnone'] at hannounced
    · rcases profilesKept_or_lost hworks (fun v hv => hcommit ⟨v, hv⟩) hscanning h with ⟨hstill, hactive⟩ | hlost
      · exact hs.still hstill hactive
      · exact lawful_of_lost hlost

/-- A kept content names the slot it named. -/
theorem slot_of_not_invalidates {before after : Option Profile} (h : invalidates before after = false) :
    ∃ b a, before = some b ∧ after = some a ∧ a.header.slot = b.header.slot := by
  unfold invalidates at h
  split at h
  · rename_i b a
    simp at h
    exact ⟨b, a, rfl, rfl, h.1.1.1.symm⟩
  · cases h

/-- A profile's activation behind its commit settles the writes of the profile. -/
theorem lawful_activation (hs : Lawful onlyLatch s) (hstill : Still s t) {i : ProfileId}
    (hactive : ∀ id ≠ i, activeProfile t id = activeProfile s id) :
    Lawful onlyLatch (takeProfileChange ⟨i, activeProfile s i, activeProfile t i⟩ t) := by
  have hrefs := refs_congr hstill.shadows hstill.latches
  have hexcused : Lawful (fun j o => onlyLatch j o ∨ writesOf i j o) t := by
    refine hs.stillProfiles hstill (fun _ _ => .inl) fun x _ hnot id p hid hp => ?_
    have hne : id ≠ i := by
      rintro rfl
      exact hnot (.inr hid)
    exact ⟨p, (hactive id hne).trans hp, rfl⟩
  have htrimmed (u : State) (hu : u = if (activeProfile t i).isNone then setTrimOf i 0 t else t) :
      Still t u ∧ ∀ id, activeProfile u id = activeProfile t id := by
    rw [hu]
    split
    · exact ⟨serene_setTrims _ t, fun _ => rfl⟩
    · exact ⟨.refl t, fun _ => rfl⟩
  unfold takeProfileChange
  dsimp only
  obtain ⟨hstill', hactive'⟩ := htrimmed _ rfl
  split
  · refine Lawful.invalidateProfile (hexcused.still hstill' hactive') fun x hx hX hfresh hk => ?_
    rw [hstill'.queue, hstill.queue] at hx
    rw [refs_congr hstill'.shadows hstill'.latches, hrefs]
    cases hbus : x.onBus with
    | false => exact .inl ((hs.named x hx hX).waiting _ hk hfresh hbus)
    | true => exact .inr ((hs.named x hx hX).onBus _ hk hfresh hbus)
  · rename_i hnot
    obtain ⟨b, a, hb, ha, hslot⟩ := slot_of_not_invalidates (by simpa using hnot)
    have hkept : Lawful onlyLatch t := by
      refine hs.stillProfiles hstill (fun _ _ hX => hX) fun x _ _ id p hid hp => ?_
      by_cases hne : id = i
      · subst hne
        obtain rfl : b = p := Option.some.inj (hb.symm.trans hp)
        exact ⟨a, ha, hslot⟩
      · exact ⟨p, (hactive id hne).trans hp, rfl⟩
    exact (hkept.still hstill' hactive').keepProfile _ _

/-- Settles O59: the law of writes is the one invariant with latches excused; between a commit's end and its activation
the writes of the committed profile are excused too, and the activation withdraws them or leaves their slot. -/
theorem writesStayNamedByTheirShadows : Obligations.WritesStayNamedByTheirShadows := by
  refine ⟨fun s t hone hslot hlaw hwrite hscanning hnone hstep hnone' => ?_,
    fun verified derate s t u hone hslot hlaw hwrite hscanning hnone hcommit hactivation => ?_⟩
  · have hs : Lawful onlyLatch s := lawful_onlyLatch_iff.2 ⟨hone, hslot, hwrite⟩
    suffices h : Lawful onlyLatch t from (lawful_onlyLatch_iff.1 h).2.2
    rcases step_cases hstep with rfl | ⟨c, rest, hexec⟩
    · exact hs.still ⟨rfl, rfl, rfl, rfl, rfl, rfl⟩ fun _ => rfl
    · exact lawful_onlyLatch_exec (s := { s with pending := rest })
        (hs.still ⟨rfl, rfl, rfl, rfl, rfl, rfl⟩ fun _ => rfl) (storeLaw_of_cs (s := s) rfl (fun _ h => h) hlaw) hscanning hnone hnone'
        hexec
  · have hs : Lawful onlyLatch s := lawful_onlyLatch_iff.2 ⟨hone, hslot, hwrite⟩
    suffices h : Lawful onlyLatch u from (lawful_onlyLatch_iff.1 h).2.2
    obtain ⟨hstill, ⟨hactive, hsame⟩ | ⟨i, hactive, hannounced⟩⟩ := commitEnd_profiles hlaw hcommit
    · exact lawful_works uniform_onlyLatch rfl (hs.still hstill hactive) hactivation
    · rw [hnone, List.nil_append] at hannounced
      cases hactivation
      rw [hannounced]
      have htaken : Still s (sampleDerate derate { t with msgs := { t.msgs with ceProfile := [] } }) :=
        hstill.trans ⟨rfl, rfl, rfl, rfl, rfl, rfl⟩
      exact (lawful_activation hs htaken hactive).decideIfEnqueued t

end Sys2Proof.Machine
end

section
/-! The MU's completion of a cycle: its whole effect in one equation, from which the statements about
readings, remote condition, index, span and supply (O8 to O11) are read off. -/

namespace Sys2Proof.Machine

variable {s : State} {r : Readings}

/-! ### A completion in one equation -/

/-- The MU's registers as a completion with these readings leaves them. -/
def completedMu (r : Readings) (s : State) : Mu := completeMu (activeSettings s) r s.mu

/-- The notices of that completion. -/
def completedNotices (r : Readings) (s : State) : List Notice := completionNotices s.mu (completedMu r s) r

/-- The supply change of that completion, where there is one. -/
def supplyChanged (r : Readings) (s : State) : List SupplyCond :=
  if s.mu.supply = (completedMu r s).supply then [] else [(completedMu r s).supply]

theorem completeCycle_eq (r : Readings) (s : State) :
    completeCycle r s = { s with
      mu := if s.oc.part = .start
        then { completedMu r s with withheld := s.mu.withheld ++ completedNotices r s } else completedMu r s
      msgs := { s.msgs with
        notices := if s.oc.part = .start then s.msgs.notices else s.msgs.notices ++ completedNotices r s
        ceMu := s.msgs.ceMu ++ ((supplyChanged r s).map CeAnnounce.supplyChange
          ++ [.cycleComplete r ((completedMu r s).ti.getD 0) (completedMu r s).effSource (completedMu r s).supply s.mu.ti.isNone])
        tmSupply := s.msgs.tmSupply ++ supplyChanged r s
        bmSupply := s.msgs.bmSupply ++ supplyChanged r s }
      oc := if s.mu.ti.isNone then { s.oc with firstCompletion := true } else s.oc } := by
  unfold completeCycle supplyChanged giveNotices announceFirst
  dsimp only
  by_cases hpart : s.oc.part = .start <;> by_cases hsame : s.mu.supply = (completedMu r s).supply
    <;> cases hti : s.mu.ti.isNone
    <;> simp [hpart, hsame, completedMu, completedNotices] at hsame ⊢
  all_goals simp_all [completeMu, announceSupply, announceCycle, postNotices]

variable {die : Word16} {remote : RemoteConversion} {vmon : Nat} {c : Cycle}

/-- The readings of a completion, with the MU's registers and notices it leaves, whatever the clock shows. -/
theorem exec_cycleCompletion (hc : s.mu.cycle = some c) : exec (.cycleCompletion die remote vmon) s =
    .next (completeCycle (readingsOf die remote vmon) (advanceTo (c.start + 12) s)) := by
  change execCycleCompletion die remote vmon s = _
  unfold execCycleCompletion
  rw [hc]

/-- Where a completion's notices go, and what stood there before: withheld in START, handed to the NU elsewhere. -/
theorem completeCycle_appended (r : Readings) (s : State) :
    (if s.oc.part = .start then (completeCycle r s).mu.withheld else (completeCycle r s).msgs.notices)
      = (if s.oc.part = .start then s.mu.withheld else s.msgs.notices) ++ completedNotices r s := by
  rw [completeCycle_eq]
  split <;> rfl

theorem completeCycle_mu (r : Readings) (s : State) :
    ∃ w, (completeCycle r s).mu = { completedMu r s with withheld := w } := by
  rw [completeCycle_eq]
  split
  · exact ⟨_, rfl⟩
  · exact ⟨(completedMu r s).withheld, rfl⟩

/-! ### The statements -/

/-- Settles O8: a completion is the update that `completeCycle_eq` writes out. -/
theorem completionRecordsReadingsAndAnnounces : Obligations.CompletionRecordsReadingsAndAnnounces := by
  unfold Obligations.CompletionRecordsReadingsAndAnnounces
  intro die remote vmon s c hc
  refine ⟨_, exec_cycleCompletion hc, ?_⟩
  obtain ⟨w, hmu⟩ := completeCycle_mu (readingsOf die remote vmon) (advanceTo (c.start + 12) s)
  have hchanged : supplyChanged (readingsOf die remote vmon) (advanceTo (c.start + 12) s)
      = if (completedMu (readingsOf die remote vmon) s).supply = s.mu.supply then []
        else [(completedMu (readingsOf die remote vmon) s).supply] := by
    unfold supplyChanged
    simp only [eq_comm]
    rfl
  have hlast : (completedMu (readingsOf die remote vmon) s).lastPeriod = c.period := by
    simp [completedMu, completeMu, hc]
  rw [hmu, completeCycle_eq, hchanged]
  refine ⟨rfl, ⟨_, rfl, rfl, rfl, ?_, _, rfl, ?_⟩, rfl, rfl, rfl, hlast, rfl, rfl, rfl, rfl, ?_, rfl, rfl, rfl, rfl, rfl,
    rfl, rfl, rfl⟩
  · cases remote <;> exact ⟨rfl, rfl⟩
  · dsimp only
    rw [apply_ite (List.map CeAnnounce.supplyChange)]
    rfl
  · simp

/-- The judgement of the REMOTE reading of a completion (R5). -/
theorem judgeRemote_readingsOf (die : Word16) (remote : RemoteConversion) (vmon : Nat) :
    judgeRemote (readingsOf die remote vmon).remoteStatus (readingsOf die remote vmon).remote = (match remote with
      | .openCircuit => some SensorReason.openCircuit
      | .short => some SensorReason.short
      | .ok x => if x.toInt < -880 ∨ 2400 < x.toInt then some SensorReason.range else none) := by
  cases remote <;> rfl

/-- No notice of a completion but the SENSOR notice has that kind. -/
theorem spanSupplyNotice_not_sensor {old new : Mu} {n : Notice} (hn : n ∈ spanNotice old new ++ supplyNotice old new r)
    (a : SensorReason) (v : Int) (st : ConvStatus) (i e : IndexSource) : n.content ≠ .sensor a v st i e := by
  unfold spanNotice supplyNotice at hn
  dsimp only at hn
  rcases List.mem_append.1 hn with hspan | hsupply
  · split at hspan
    · cases hspan
    · rw [List.mem_singleton.1 hspan]
      exact NoticeContent.noConfusion
  · split at hsupply
    · cases hsupply
    · rw [List.mem_singleton.1 hsupply]
      exact NoticeContent.noConfusion

/-- The remote condition and the run count of a completion, and its notices with the SENSOR notice first. -/
theorem completedMu_remote (r : Readings) (s : State) :
    let moved := moveRemote s.mu.remoteCond s.mu.runCount (judgeRemote r.remoteStatus r.remote)
    (completedMu r s).remoteCond = moved.1 ∧ (completedMu r s).runCount = moved.2.1
      ∧ completedNotices r s = sensorNotice s.mu (completedMu r s) r
        ++ (spanNotice s.mu (completedMu r s) ++ supplyNotice s.mu (completedMu r s) r) := ⟨rfl, rfl, rfl⟩

theorem sensorNotice_of_faulted {old new : Mu} {reason : SensorReason} (hold : old.remoteCond = .good)
    (hj : judgeRemote r.remoteStatus r.remote = some reason) :
    sensorNotice old new r = [⟨.warn, .sensor reason r.remote r.remoteStatus new.sourceInUse new.effSource⟩] := by
  unfold sensorNotice
  rw [hj, hold]
  rfl

theorem sensorNotice_of_recovered {old new : Mu} (hold : old.remoteCond = .faulted) (hrun : old.runCount = 2)
    (hj : judgeRemote r.remoteStatus r.remote = none) :
    sensorNotice old new r = [⟨.info, .sensor .recovered r.remote r.remoteStatus new.sourceInUse new.effSource⟩] := by
  unfold sensorNotice
  rw [hj, hold, hrun]
  rfl

theorem sensorNotice_of_same {old new : Mu}
    (hsame : (moveRemote old.remoteCond old.runCount (judgeRemote r.remoteStatus r.remote)).1 = old.remoteCond) :
    sensorNotice old new r = [] := by
  have hnot : (moveRemote old.remoteCond old.runCount (judgeRemote r.remoteStatus r.remote)).2.2 = false := by
    revert hsame
    unfold moveRemote
    split
    · simp [*]
    · simp [*]
    · simp [*]
    · split <;> simp [*]
  unfold sensorNotice
  simp [hnot]

/-- Settles O9, row by row of `moveRemote`. -/
theorem remoteConditionFollowsJudgement : Obligations.RemoteConditionFollowsJudgement := by
  unfold Obligations.RemoteConditionFollowsJudgement
  intro die remote vmon s hcycle
  obtain ⟨c, hc⟩ := Option.isSome_iff_exists.1 hcycle
  refine ⟨_, exec_cycleCompletion hc, ?_⟩
  beta_reduce
  intro bad value status appended before
  have happended : appended = before ++ completedNotices (readingsOf die remote vmon) s :=
    completeCycle_appended _ (advanceTo (c.start + 12) s)
  have hbad : judgeRemote (readingsOf die remote vmon).remoteStatus (readingsOf die remote vmon).remote = bad :=
    judgeRemote_readingsOf die remote vmon
  have hvalue : (readingsOf die remote vmon).remote = value := by cases remote <;> rfl
  have hstatus : (readingsOf die remote vmon).remoteStatus = status := by cases remote <;> rfl
  obtain ⟨w, hmu⟩ := completeCycle_mu (readingsOf die remote vmon) (advanceTo (c.start + 12) s)
  obtain ⟨hcond, hcount, hnotices⟩ := completedMu_remote (readingsOf die remote vmon) s
  clear_value appended before bad value status
  rw [hbad] at hcond hcount
  rw [hnotices] at happended
  rw [hmu]
  change (_ → _ → (completedMu (readingsOf die remote vmon) s).remoteCond = _
    ∧ (completedMu (readingsOf die remote vmon) s).runCount = _) ∧ _
  refine ⟨fun hold hok => ?_, fun reason hold hreason => ⟨?_, ?_, ?_⟩, fun hold hno => ?_, fun hold hok hrun => ?_,
    fun hold hok hrun => ⟨?_, ?_, ?_⟩, fun hsame n hn => ?_⟩
  · rw [hcond, hcount, hold, hok]
    exact ⟨rfl, rfl⟩
  · exact hcond.trans (by rw [hold, hreason]; rfl)
  · exact hcount.trans (by rw [hold, hreason]; rfl)
  · rw [happended, sensorNotice_of_faulted hold (hbad.trans hreason), hvalue, hstatus]
    exact ⟨_, rfl⟩
  · obtain ⟨reason, rfl⟩ := Option.isSome_iff_exists.1 hno
    exact ⟨hcond.trans (by rw [hold]; rfl), hcount.trans (by rw [hold]; rfl)⟩
  · have hrow : moveRemote s.mu.remoteCond s.mu.runCount bad = (.faulted, s.mu.runCount + 1, false) := by
      rw [hold, hok]
      exact if_pos hrun
    exact ⟨hcond.trans (by rw [hrow]), hcount.trans (by rw [hrow])⟩
  · exact hcond.trans (by rw [hold, hok, hrun]; rfl)
  · exact hcount.trans (by rw [hold, hok, hrun]; rfl)
  · rw [happended, sensorNotice_of_recovered hold hrun (hbad.trans hok), hvalue, hstatus]
    exact ⟨_, rfl⟩
  · rw [happended, List.drop_left, sensorNotice_of_same (by rw [hbad, ← hcond]; exact hsame)] at hn
    exact spanSupplyNotice_not_sensor hn

/-! ### Index, span and supply -/

theorem effectiveSource_eq_remote {inUse : IndexSource} {cond : RemoteCond} :
    effectiveSource inUse cond = .remote ↔ inUse = .remote ∧ cond = .good := by
  cases inUse <;> cases cond <;> simp [effectiveSource]

theorem index_of_restart {restart : Bool} {oldTi : Option Int} (h : restart = true ∨ oldTi = none) (oldTf raw : Int)
    (k hyst : Nat) : index restart oldTf oldTi raw k hyst = (raw, raw) := by
  rcases h with rfl | rfl
  · rfl
  · cases restart <;> rfl

/-- Settles O10. -/
theorem indexRestartsOrFilters : Obligations.IndexRestartsOrFilters := by
  unfold Obligations.IndexRestartsOrFilters
  intro die remote vmon s hcycle
  obtain ⟨c, hc⟩ := Option.isSome_iff_exists.1 hcycle
  refine ⟨_, exec_cycleCompletion hc, ?_⟩
  beta_reduce
  intro x value raw
  obtain ⟨w, hmu⟩ := completeCycle_mu (readingsOf die remote vmon) (advanceTo (c.start + 12) s)
  have hraw : rawReading (completedMu (readingsOf die remote vmon) s).effSource (readingsOf die remote vmon) = raw := by
    have heff : (completeCycle (readingsOf die remote vmon) (advanceTo (c.start + 12) s)).mu.effSource
        = (completedMu (readingsOf die remote vmon) s).effSource := by rw [hmu]; rfl
    change _ = if _ then _ else _
    rw [heff]
    cases (completedMu (readingsOf die remote vmon) s).effSource <;> cases remote <;> rfl
  clear_value raw
  rw [hmu]
  change ((completedMu (readingsOf die remote vmon) s).effSource = _ ↔ _) ∧ _
  generalize hm : completedMu (readingsOf die remote vmon) s = m at hraw
  have hindex : (m.tf, m.ti) = ((index (restarts s.mu x m.effSource) s.mu.tf s.mu.ti raw x.k x.h).1,
      some (index (restarts s.mu x m.effSource) s.mu.tf s.mu.ti raw x.k x.h).2) := by
    rw [← hraw, ← hm]
    rfl
  obtain ⟨htf, hti⟩ := Prod.ext_iff.1 hindex
  refine ⟨?_, fun hrestart => ?_, fun ti hold heff hsource => ?_⟩
  · rw [← hm]
    exact effectiveSource_eq_remote
  · have hi : index (restarts s.mu x m.effSource) s.mu.tf s.mu.ti raw x.k x.h = (raw, raw) := by
      refine index_of_restart ?_ _ _ _ _
      rcases hrestart with hnone | heff | hsource
      · exact .inr hnone
      · left
        simp [restarts, show m.effSource ≠ s.mu.effSource by rw [← hm]; exact heff]
      · left
        simp [restarts, hsource]
    rw [hi, ← hm] at htf hti
    exact ⟨htf, hti⟩
  · have hno : restarts s.mu x m.effSource = false := by
      simp [restarts, hold, hsource, show m.effSource = s.mu.effSource by rw [← hm]; exact heff]
    rw [hno, hold, ← hm] at htf hti
    exact ⟨htf, hti⟩

theorem spanOf_eq_inside {ti low high : Int} : spanOf (spanPosition ti low high) = .inside ↔ low ≤ ti ∧ ti ≤ high := by
  unfold spanPosition spanOf
  split
  · simp
    omega
  · split <;> simp <;> omega

theorem sensorNotice_length (old new : Mu) (r : Readings) : (sensorNotice old new r).length ≤ 1 := by
  unfold sensorNotice
  dsimp only
  split
  · split <;> simp
  · simp

/-- Settles O11. -/
theorem spanAndSupplyJudgedWithHysteresis : Obligations.SpanAndSupplyJudgedWithHysteresis := by
  unfold Obligations.SpanAndSupplyJudgedWithHysteresis
  intro die remote vmon s hcycle
  obtain ⟨c, hc⟩ := Option.isSome_iff_exists.1 hcycle
  refine ⟨_, exec_cycleCompletion hc, ?_⟩
  beta_reduce
  intro x v appended before ti hti
  have happended : appended = before ++ completedNotices (readingsOf die remote vmon) s :=
    completeCycle_appended _ (advanceTo (c.start + 12) s)
  obtain ⟨w, hmu⟩ := completeCycle_mu (readingsOf die remote vmon) (advanceTo (c.start + 12) s)
  clear_value appended before
  rw [hmu] at hti ⊢
  change (completedMu (readingsOf die remote vmon) s).ti = some ti at hti
  change ((completedMu (readingsOf die remote vmon) s).span = _ ↔ _) ∧ _
  have hspan : (completedMu (readingsOf die remote vmon) s).span = spanOf (spanPosition ti x.low x.high) := by
    rw [← Option.some.inj hti]
    rfl
  have hsupply : (completedMu (readingsOf die remote vmon) s).supply = moveSupply s.mu.supply v x.floor x.margin := rfl
  refine ⟨by rw [hspan]; exact spanOf_eq_inside, fun hold => ?_, fun hold => ?_,
    sensorNotice s.mu (completedMu (readingsOf die remote vmon) s) (readingsOf die remote vmon), sensorNotice_length _ _ _, ?_⟩
  · refine hsupply.trans ?_
    rw [hold]
    rfl
  · refine hsupply.trans ?_
    rw [hold]
    rfl
  · rw [happended]
    have htiD : (completedMu (readingsOf die remote vmon) s).ti.getD 0 = ti := by rw [hti]; rfl
    have hspanNotice : spanNotice s.mu (completedMu (readingsOf die remote vmon) s)
        = if (completedMu (readingsOf die remote vmon) s).span = s.mu.span then [] else
          [⟨if (completedMu (readingsOf die remote vmon) s).span = .outside then .warn else .info,
            .indexSpan ti x.low x.high (spanPosition ti x.low x.high)⟩] := by
      unfold spanNotice
      simp only [htiD, eq_comm]
      rfl
    have hsupplyNotice : supplyNotice s.mu (completedMu (readingsOf die remote vmon) s) (readingsOf die remote vmon)
        = if (completedMu (readingsOf die remote vmon) s).supply = s.mu.supply then [] else
          [⟨if (completedMu (readingsOf die remote vmon) s).supply = .low then .fault else .info,
            .supply v x.floor x.margin (completedMu (readingsOf die remote vmon) s).supply⟩] := by
      unfold supplyNotice
      simp only [eq_comm]
      rfl
    unfold completedNotices completionNotices
    rw [hspanNotice, hsupplyNotice]
    rfl

end Sys2Proof.Machine
end

section
/-! Stages 2 to 6 of an evaluation: what the clamp and the slew do to a value (O14). -/

namespace Sys2Proof.Machine

/-! ### The clamp and the slew -/

theorem clampTo_eq {lower upper : Nat} (h : lower ≤ upper) (v : Nat) : clampTo lower upper v = max lower (min v upper) := by
  unfold clampTo
  split
  · omega
  · split <;> omega

theorem clampTo_of_lt {lower upper v : Nat} (h : v < lower) : clampTo lower upper v = lower := if_pos h

theorem clampTo_of_gt {lower upper v : Nat} (h : lower ≤ upper) (hv : upper < v) : clampTo lower upper v = upper := by
  rw [clampTo_eq h]
  omega

theorem clampTo_of_within {lower upper v : Nat} (hl : lower ≤ v) (hu : v ≤ upper) : clampTo lower upper v = v := by
  rw [clampTo_eq (hl.trans hu)]
  omega

theorem clampTo_ne_iff {lower upper v : Nat} (h : lower ≤ upper) : clampTo lower upper v ≠ v ↔ v < lower ∨ upper < v := by
  rw [clampTo_eq h]
  omega

theorem slewedValue_of_reference {limit : Nat} (hlimit : limit ≠ 0) (computed r : Nat) (start : Option Nat) :
    slewedValue computed limit (some r) start
      = if r ≤ computed then min computed (r + limit) else max computed (r - limit) := by
  unfold slewedValue
  rw [if_neg hlimit]
  dsimp only
  split
  · rw [if_pos (by omega)]
    omega
  · split
    · rw [if_neg (by omega)]
      omega
    · split <;> omega

/-- Settles O14, stage by stage. -/
theorem stagesTwoToSixOfAnEvaluation : Obligations.StagesTwoToSixOfAnEvaluation := by
  unfold Obligations.StagesTwoToSixOfAnEvaluation
  refine ⟨fun base trim => ?_, fun mode level v => ⟨?_, ?_, ?_, fun lower upper h => clampTo_of_lt h⟩, ?_⟩
  · unfold trimmedValue
    omega
  · rintro rfl
    rfl
  · rintro rfl
    exact Nat.div_one v
  · rintro rfl
    exact (Nat.div_div_eq_div_mul v (2 ^ level) 2).symm
  · intro p ti trim level reference hlimits
    have hclamped (v : Nat) : p.header.lower ≤ clampTo p.header.lower p.header.upper v
        ∧ clampTo p.header.lower p.header.upper v ≤ p.header.upper := by
      rw [clampTo_eq hlimits]
      omega
    intro lower upper limit pre e slewed
    have hslewed : slewedValue e.computed limit reference p.header.start = slewed := by
      by_cases hlimit : limit = 0
      · exact (if_pos hlimit).trans (if_pos hlimit).symm
      · refine Eq.trans ?_ (if_neg hlimit).symm
        cases reference with
        | none => exact if_neg hlimit
        | some r => exact slewedValue_of_reference hlimit e.computed r _
    have hcomputed : e.computed = clampTo lower upper pre := rfl
    have houtput : e.output = clampTo lower upper slewed := by
      rw [← hslewed]
      rfl
    have hlimitFlag : e.stages.limit = (clampTo lower upper pre != pre) := rfl
    have hfinalFlag : e.stages.final = (clampTo lower upper slewed != slewed) := by
      rw [← hslewed]
      rfl
    refine ⟨⟨(hclamped _).1, (hclamped _).2, houtput ▸ (hclamped _).1, houtput ▸ (hclamped _).2⟩, clampTo_of_lt,
      clampTo_of_gt hlimits, clampTo_of_within, houtput.trans (clampTo_eq hlimits _), fun r href hpos hrl hru => ?_, ?_, ?_, ?_⟩
    · have hslew : slewed = if r ≤ e.computed then min e.computed (r + limit) else max e.computed (r - limit) := by
        rw [← slewedValue_of_reference (by omega) e.computed r p.header.start, ← hslewed, href]
      have hin := hclamped pre
      rw [← hcomputed] at hin
      have hout : e.output = slewed := by
        rw [houtput, clampTo_of_within] <;> rw [hslew] <;> split <;> omega
      refine ⟨hout, ?_⟩
      rw [hout, hslew]
      split <;> omega
    · rw [hlimitFlag, bne_iff_ne]
      exact clampTo_ne_iff hlimits
    · rw [hfinalFlag, bne_iff_ne]
      exact clampTo_ne_iff hlimits
    · exact Bool.or_eq_true_iff

end Sys2Proof.Machine
end

section
/-! The end of the start-up scan: what the directory and the scan record hold of the copies (O5), and the end of
START with the notices it releases (O6). -/

namespace Sys2Proof.Machine

variable {s : State}

/-! ### The directory the scan reads -/

/-- The state the scan reads from a copy: a REMOVED copy of SETTINGS is taken as DAMAGED (R142). -/
def scannedInfo (obj : ObjId) (i : CopyInfo) : CopyInfo :=
  match obj with
  | .settings => settingsInfo i
  | _ => i

theorem Copy.mapContent_info {α : Type} (f : α → Content) (c : Copy α) : (c.mapContent f).info = c.info := by
  cases c <;> rfl

theorem readDirectory_entry (st : Store) (obj : ObjId) : (readDirectory st).entry obj
    = scanEntry (scannedInfo obj (st.copyAt obj .a).info) (scannedInfo obj (st.copyAt obj .b).info) := by
  cases obj <;> simp [readDirectory, Directory.entry, Store.copyAt, Copies.pick, Copy.mapContent_info, scannedInfo]

theorem disturb_copyAt (d : List (ObjId × CopyName)) (st : Store) (obj : ObjId) (n : CopyName) :
    (disturb d st).copyAt obj n = if (obj, n) ∈ d then .damaged else st.copyAt obj n := by
  induction d generalizing st with
  | nil => rfl
  | cons x rest ih =>
    obtain ⟨o, m⟩ := x
    rw [disturb, ih, spoilCopy_copyAt]
    by_cases hrest : (obj, n) ∈ rest <;> simp [hrest, cutCopy]

theorem scannedInfo_damaged (obj : ObjId) : scannedInfo obj .damaged = .damaged := by cases obj <;> rfl

/-! ### Presence and damage -/

/-- In an entry that shows the copies as they are, an object is present when its active content is. -/
theorem activeContent_isSome {α : Type} {e : DirEntry} {c : Copies α} (ha : e.a = c.a.info) (hb : e.b = c.b.info) :
    (activeContent e c).isSome = e.present := by
  unfold activeContent DirEntry.present DirEntry.activeInfo
  split
  · simp only [*, Option.map_some]
    cases c.a <;> rfl
  · simp only [*, Option.map_some]
    cases c.b <;> rfl
  · simp [*]

theorem DirEntry.absentByDamage_iff {e : DirEntry} :
    e.absentByDamage = true ↔ e.active = none ∧ (e.a = .damaged ∨ e.b = .damaged) := by
  unfold DirEntry.absentByDamage DirEntry.damagedCopies
  by_cases ha : e.a = .damaged <;> by_cases hb : e.b = .damaged <;> simp [ha, hb]

theorem objPlace_pairwise_allObjects : allObjects.Pairwise (fun i j => objPlace i < objPlace j) := by
  have hrange (n : Nat) : (List.finRange n).Pairwise (· < ·) := List.pairwise_lt_finRange n
  unfold allObjects
  rw [List.pairwise_cons, List.pairwise_append, List.pairwise_append, List.pairwise_map, List.pairwise_map, List.pairwise_map]
  refine ⟨?_, ?_, ⟨?_, ?_, ?_⟩, ?_⟩
  · intro o ho
    simp only [List.mem_append, List.mem_map] at ho
    obtain ⟨i, -, rfl⟩ | ⟨i, -, rfl⟩ | ⟨i, -, rfl⟩ := ho <;> simp only [objPlace] <;> omega
  · exact (hrange 8).imp fun h => by simpa [objPlace] using h
  · exact (hrange 8).imp fun h => by simpa [objPlace] using h
  · exact (hrange 64).imp fun h => by simpa [objPlace] using h
  · intro o ho o' ho'
    obtain ⟨i, -, rfl⟩ := List.mem_map.1 ho
    obtain ⟨j, -, rfl⟩ := List.mem_map.1 ho'
    simp only [objPlace]
    omega
  · intro o ho o' ho'
    obtain ⟨i, -, rfl⟩ := List.mem_map.1 ho
    obtain ⟨j, -, rfl⟩ | ⟨j, -, rfl⟩ := (List.mem_append.1 ho').imp List.mem_map.1 List.mem_map.1 <;> simp only [objPlace] <;> omega

theorem mem_allObjects (obj : ObjId) : obj ∈ allObjects := by
  cases obj <;> simp [allObjects]

/-- The entries of a vector with a property, counted, are the indices where it holds. -/
theorem vector_filter_length {α : Type} {n : Nat} (v : Vector α n) (p : α → Bool) :
    (v.toList.filter p).length = ((List.finRange n).filter (fun i => p v[i])).length := by
  have hlist : v.toList = (List.finRange n).map (fun i => v[i]) := by
    apply List.ext_getElem <;> simp
  rw [hlist, List.filter_map, List.length_map]
  rfl

/-- Settings without a REMOVED copy are present as soon as a copy is active. -/
theorem settleInEffect_eq {e : DirEntry} (hscan : ∃ a b, e = scanEntry (settingsInfo a) (settingsInfo b)) :
    settleInEffect e = if e.active.isSome then .stored
      else if e.a = .damaged ∨ e.b = .damaged then .factoryDamaged else .factory := by
  have hpresent : e.present = e.active.isSome := by
    obtain ⟨a, b, rfl⟩ := hscan
    cases hactive : (scanEntry (settingsInfo a) (settingsInfo b)).active with
    | none => simp [DirEntry.present, DirEntry.activeInfo, hactive]
    | some n =>
      have hgen := scanEntry_active_gen hactive
      cases n with
      | a => cases a <;> simp_all [DirEntry.present, DirEntry.activeInfo, scanEntry, settingsInfo, DirEntry.info, CopyInfo.gen]
      | b => cases b <;> simp_all [DirEntry.present, DirEntry.activeInfo, scanEntry, settingsInfo, DirEntry.info, CopyInfo.gen]
  unfold settleInEffect
  rw [hpresent]
  by_cases hactive : e.active.isSome = true
  · rw [if_pos hactive, if_pos hactive]
  · rw [if_neg hactive, if_neg hactive]
    simp only [DirEntry.absentByDamage_iff, Option.not_isSome_iff_eq_none.1 hactive, true_and]

/-- What the scan chooses, by the generations of the two copies (R141). -/
theorem chooseActive_cases (a b : CopyInfo) :
    (∀ ga gb, a.gen = some ga → b.gen = some gb →
      chooseActive a b = some (if 1 ≤ (gb - ga).toNat ∧ (gb - ga).toNat ≤ 32767 then .b else .a))
    ∧ (a.gen.isSome = true → b.gen = none → chooseActive a b = some .a)
    ∧ (a.gen = none → b.gen.isSome = true → chooseActive a b = some .b)
    ∧ (a.gen = none → b.gen = none → chooseActive a b = none) := by
  unfold chooseActive
  refine ⟨fun ga gb ha hb => ?_, fun ha hb => ?_, fun ha hb => ?_, fun ha hb => ?_⟩
  · simp only [ha, hb, newer, Bool.and_eq_true, decide_eq_true_eq]
    exact (apply_ite some _ _ _).symm
  · obtain ⟨g, hg⟩ := Option.isSome_iff_exists.1 ha
    simp [hg, hb]
  · obtain ⟨g, hg⟩ := Option.isSome_iff_exists.1 hb
    simp [hg, ha]
  · simp [ha, hb]

/-! ### O5 -/

theorem exec_startUpScanEnd (d : List (ObjId × CopyName)) (hs : s.cs.scanning = true) :
    exec (.startUpScanEnd d) s = .next (endScan d s) := by
  change execStartUpScanEnd d s = _
  unfold execStartUpScanEnd
  rw [if_pos hs]

/-- Settles O5. -/
theorem scanFillsDirectoryAndAnnouncesSettings : Obligations.ScanFillsDirectoryAndAnnouncesSettings := by
  unfold Obligations.ScanFillsDirectoryAndAnnouncesSettings
  intro d s
  refine ⟨fun hs => ⟨_, exec_startUpScanEnd d hs, ?_, rfl, ?_, rfl, rfl, rfl, rfl, rfl, rfl, rfl, rfl, rfl, rfl⟩, fun hs => ?_⟩
  · intro obj e seen
    have hseen (n : CopyName) : scannedInfo obj ((disturb d s.cs.store).copyAt obj n).info = seen n := by
      change _ = if _ then _ else _
      rw [disturb_copyAt]
      split
      · exact scannedInfo_damaged obj
      · cases obj <;> cases (s.cs.store.copyAt _ n).info <;> rfl
    have he : e = scanEntry (seen .a) (seen .b) := by
      rw [← hseen, ← hseen]
      exact readDirectory_entry _ obj
    clear_value e seen
    subst he
    obtain ⟨hboth, ha, hb, hnone⟩ := chooseActive_cases (seen .a) (seen .b)
    exact ⟨rfl, rfl, hboth, ha, hb, hnone, fun n hn => (disturb_copyAt d s.cs.store obj n).trans (if_neg hn)⟩
  · intro x eff found
    have heff : (endScan d s).cs.inEffect = eff := settleInEffect_eq ⟨_, _, rfl⟩
    have hcounted {α : Type} {n : Nat} (v : Vector (Copies α) n) :
        ((v.map fun c => scanEntry c.a.info c.b.info).toList.filter DirEntry.present).length
          = ((List.finRange n).filter fun i => (activeContent (v.map fun c => scanEntry c.a.info c.b.info)[i] v[i]).isSome).length := by
      rw [vector_filter_length]
      congr 2
      funext i
      rw [activeContent_isSome] <;> simp [scanEntry]
    refine ⟨heff, ?_, hcounted _, hcounted _, hcounted _, rfl, ?_, fun o => ?_⟩
    · rw [← heff]
      rfl
    · exact List.Pairwise.filter (fun o => ((endScan d s).cs.dir.entry o).absentByDamage) objPlace_pairwise_allObjects
    · change o ∈ allObjects.filter (fun o => ((endScan d s).cs.dir.entry o).absentByDamage) ↔ _
      exact (List.mem_filter.trans (and_iff_right (mem_allObjects o))).trans DirEntry.absentByDamage_iff
  · change execStartUpScanEnd d s = _
    unfold execStartUpScanEnd
    rw [hs]
    rfl

/-! ### O6 -/

theorem evalIndex_of_some {ti : Int} (h : s.mu.ti = some ti) : evalIndex s = ti := by
  unfold evalIndex
  rw [h]
  rfl

/-- The end of START, once the scan result and the first completion are taken. -/
theorem exec_endOfStart {r : ScanResult} (hr : s.oc.scanResult = some r) (hpart : s.oc.part = .start)
    (hfirst : s.oc.firstCompletion = true) : exec .endOfStart s = .next (endStart r s) := by
  change execEndOfStart s = _
  unfold execEndOfStart
  rw [hr]
  dsimp only
  rw [if_pos ⟨hpart, hfirst⟩]

/-- Settles O6. -/
theorem endOfStartChoosesPartStateAndReleasesNotices : Obligations.EndOfStartChoosesPartStateAndReleasesNotices := by
  unfold Obligations.EndOfStartChoosesPartStateAndReleasesNotices
  refine ⟨fun s r hr hpart hfirst => ?_, fun s => ⟨fun hend => ?_, fun hend => ?_, fun hend => ?_⟩⟩
  · intro part ti hti
    rw [exec_endOfStart hr hpart hfirst, ← evalIndex_of_some hti]
    rfl
  · refine ⟨_, congrArg Host.Outcome.next (if_pos hend), ?_⟩
    exact ⟨rfl, rfl, rfl, rfl, rfl, rfl⟩
  · refine ⟨_, congrArg Host.Outcome.next (if_pos hend), ?_⟩
    exact ⟨rfl, rfl, rfl, rfl, rfl, rfl, rfl, rfl⟩
  · refine ⟨_, congrArg Host.Outcome.next (if_pos hend), ?_⟩
    cases s.hl.startOverrun with
    | none => exact ⟨(List.append_nil _).symm, rfl, rfl, rfl, rfl, rfl, rfl⟩
    | some x => exact ⟨rfl, rfl, rfl, rfl, rfl, rfl, rfl⟩

end Sys2Proof.Machine
end

section
/-! The Compensation Engine's single steps: an invalidation (O19) and a pass's visit of a profile (O18). -/

namespace Sys2Proof.Machine

variable {s : State}

/-! ### Invalidation -/

theorem profileNames_iff {slot : Slot} {id : ProfileId} :
    profileNames s slot id = true ↔ ∃ p, activeProfile s id = some p ∧ p.header.slot = slot.val := by
  unfold profileNames
  split <;> simp [*]

theorem invalidateSlot_shadow (slot : Slot) (s : State) (id : ProfileId) :
    (invalidateSlot slot s).ce.shadows[id] = if profileNames s slot id then clearShadow s.ce.shadows[id] else s.ce.shadows[id] :=
  mapTable_get _ _ _

theorem settleInvalidation_of_flag {slot : Slot} (h : s.msgs.ceInvalidate[slot] = true) :
    settleInvalidation slot s = invalidateSlot slot s := if_pos h

theorem settleInvalidation_of_clear {slot : Slot} (h : s.msgs.ceInvalidate[slot] = false) : settleInvalidation slot s = s := by
  unfold settleInvalidation
  rw [h]
  rfl

theorem settleInvalidations_of_clear {slots : List Slot} (h : ∀ i : Slot, s.msgs.ceInvalidate[i] = false) :
    settleInvalidations slots s = s := by
  induction slots with
  | nil => rfl
  | cons i is ih => rw [settleInvalidations, settleInvalidation_of_clear (h i), ih]

/-- Settles O19. -/
theorem invalidationClearsSlotShadows : Obligations.InvalidationClearsSlotShadows := by
  unfold Obligations.InvalidationClearsSlotShadows
  intro slot s hflag
  refine ⟨_, congrArg Host.Outcome.next (settleInvalidation_of_flag hflag), fun id hnames => ?_, fun id hnot => ?_, ?_,
    fun i hi => ?_, rfl, rfl, rfl, rfl, rfl, rfl, rfl, rfl, rfl, rfl, rfl, rfl, rfl, rfl, rfl, rfl⟩
  · rw [invalidateSlot_shadow, if_pos (profileNames_iff.2 hnames)]
    rfl
  · rw [invalidateSlot_shadow, if_neg fun h => ?_]
    obtain ⟨p, hp, hslot⟩ := profileNames_iff.1 h
    exact hnot p hp hslot
  · simp [invalidateSlot, LatchState.reset]
  · have hne : (slot : Nat) ≠ i := fun h => hi (Fin.ext h.symm)
    simp [invalidateSlot, hne]

/-! ### The visit of a profile -/

/-- What a visit does with the write of a profile whose evaluation gives an output (R43 to R45). -/
inductive Visit where
  | kept
  | replaced (w : Ref)
  | enqueued
  | refused

/-- The choice of a visit. -/
def visitOf (s : State) (id : ProfileId) (v : Nat) : Visit :=
  if s.ce.shadows[id].reference = some v then .kept
  else match s.ce.shadows[id].waiting with
    | some w => .replaced w
    | none => match refuseEnqueue .compensate s with
      | some _ => .refused
      | none => .enqueued

/-- The shadow behind a visit; `fresh` is the handle of a transfer enqueued now. -/
def Visit.shadow (k : Visit) (fresh : Nat) (e : Evaluation) (sh : Shadow) : Shadow :=
  let seen : Shadow := { sh with computed := some e.computed, clamped := e.stages.flag }
  match k with
  | .kept => { seen with deferred := false }
  | .replaced w => { seen with waiting := some ⟨w.id, e.output⟩ }
  | .enqueued => { seen with waiting := some ⟨fresh, e.output⟩, deferred := false }
  | .refused => { seen with deferred := true }

/-- The queue behind a visit. -/
def Visit.queue (k : Visit) (write : Request) (bm : Bm) : Bm :=
  match k with
  | .replaced w => { bm with queue := bm.queue.map (fun t => if t.id = w.id then { t with data := write.data } else t) }
  | .enqueued => { bm with
      queue := bm.queue ++ [write.record bm.nextId bm.nextAge]
      nextId := bm.nextId + 1
      nextAge := bm.nextAge + 1 }
  | _ => bm

/-- The account behind a visit. -/
def Visit.account (k : Visit) (slot : Slot) (acc : PassAccount) : PassAccount :=
  match k with
  | .kept => { acc with evaluated := acc.evaluated + 1 }
  | .replaced _ => { acc with evaluated := acc.evaluated + 1, replaced := acc.replaced + 1, touched := slot :: acc.touched }
  | .enqueued => { acc with evaluated := acc.evaluated + 1, enqueued := acc.enqueued + 1, touched := slot :: acc.touched }
  | .refused => { acc with evaluated := acc.evaluated + 1, deferred := acc.deferred + 1 }

/-- The LIMIT notice of a visit, where the clamped flag changes (R34, R35). -/
def limitNotices (s : State) (id : ProfileId) (p : Profile) (e : Evaluation) (isLoad : Bool) : List Notice :=
  if s.ce.shadows[id].clamped = e.stages.flag then [] else [⟨.info, limitNotice id p e (evalIndex s) isLoad⟩]

theorem postNotices_nil (s : State) : postNotices [] s = s := by
  unfold postNotices
  rw [List.append_nil]

theorem recordEvaluation_eq (id : ProfileId) (p : Profile) (e : Evaluation) (isLoad : Bool) (s : State) :
    recordEvaluation id p e isLoad s = postNotices (limitNotices s id p e isLoad)
      (modShadow id (fun sh => { sh with computed := some e.computed, clamped := e.stages.flag }) s) := by
  unfold recordEvaluation limitNotices
  dsimp only
  split
  · rw [postNotices_nil]
  · rfl

/-- Two changes of one shadow, notices between them. -/
theorem modShadow_modShadow (id : ProfileId) (f g : Shadow → Shadow) (ns : List Notice) (s : State) :
    modShadow id g (postNotices ns (modShadow id f s)) = postNotices ns (setShadow id (g (f s.ce.shadows[id])) s) := by
  simp [modShadow, setShadow, postNotices]

/-- A visit in one equation: evaluation into the shadow, then the chosen treatment of the write. -/
theorem visitProfile_eq {x : State × PassAccount} {id : ProfileId} {p : Profile} (slot : Slot) (r : TargetRecord)
    (hp : activeProfile x.1 id = some p) {e : Evaluation} (he : evaluateNow x.1 id p = e) {k : Visit}
    (hk : visitOf x.1 id e.output = k) :
    visitProfile slot r id x =
      ({ postNotices (limitNotices x.1 id p e false) (setShadow id (k.shadow x.1.bm.nextId e x.1.ce.shadows[id]) x.1) with
          bm := k.queue (compensateRequest id slot r.addr p e.output) x.1.bm }, k.account slot x.2) := by
  unfold visitProfile
  rw [hp]
  dsimp only
  rw [he, recordEvaluation_eq]
  unfold issueOutput
  dsimp only
  have hseen : (postNotices (limitNotices x.1 id p e false) (modShadow id (fun sh =>
      { sh with computed := some e.computed, clamped := e.stages.flag }) x.1)).ce.shadows[id]
      = { x.1.ce.shadows[id] with computed := some e.computed, clamped := e.stages.flag } := by
    rw [postNotices, modShadow, setShadow_get, if_pos rfl]
  have href : ({ x.1.ce.shadows[id] with computed := some e.computed, clamped := e.stages.flag } : Shadow).reference
      = x.1.ce.shadows[id].reference := rfl
  rw [hseen, href]
  subst hk
  unfold visitOf
  split
  · rw [modShadow_modShadow]
    rfl
  · cases x.1.ce.shadows[id].waiting with
    | some w =>
      dsimp only
      unfold replaceProfile
      dsimp only
      rw [modShadow_modShadow]
      rfl
    | none =>
      dsimp only
      unfold enqueueProfile
      dsimp only
      have hroom : refuseEnqueue .compensate (postNotices (limitNotices x.1 id p e false) (modShadow id (fun sh =>
        { sh with computed := some e.computed, clamped := e.stages.flag }) x.1)) = refuseEnqueue .compensate x.1 := rfl
      rw [hroom]
      cases refuseEnqueue .compensate x.1 with
      | some why =>
        dsimp only
        rw [modShadow_modShadow]
        rfl
      | none =>
        dsimp only
        rw [modShadow_modShadow]
        rfl

theorem evaluateNow_eq {ti : Int} (h : s.mu.ti = some ti) (id : ProfileId) (p : Profile) :
    evaluateNow s id p = passOutput s ti id p := by
  unfold evaluateNow
  rw [evalIndex_of_some h]
  rfl

theorem refuseEnqueue_compensate :
    refuseEnqueue .compensate s = none ↔ s.bm.queue.length < 32 ∧ countClass .compensate s.bm.queue < 24 := by
  rw [refuseEnqueue_eq_none]
  exact ⟨fun ⟨_, hq, hc⟩ => ⟨hq, hc rfl⟩, fun ⟨hq, hc⟩ => ⟨fun h => (by cases h.1), hq, fun _ => hc⟩⟩

theorem visitOf_replaced {id : ProfileId} {v : Nat} (h : s.ce.shadows[id].reference ≠ some v) {w : Ref}
    (hw : s.ce.shadows[id].waiting = some w) : visitOf s id v = .replaced w := by
  unfold visitOf
  rw [if_neg h, hw]

theorem visitOf_enqueued {id : ProfileId} {v : Nat} (h : s.ce.shadows[id].reference ≠ some v)
    (hw : s.ce.shadows[id].waiting = none) (hroom : s.bm.queue.length < 32 ∧ countClass .compensate s.bm.queue < 24) :
    visitOf s id v = .enqueued := by
  unfold visitOf
  rw [if_neg h, hw, refuseEnqueue_compensate.2 hroom]

theorem visitOf_refused {id : ProfileId} {v : Nat} (h : s.ce.shadows[id].reference ≠ some v)
    (hw : s.ce.shadows[id].waiting = none) (hroom : ¬ (s.bm.queue.length < 32 ∧ countClass .compensate s.bm.queue < 24)) :
    visitOf s id v = .refused := by
  obtain ⟨why, hwhy⟩ := Option.ne_none_iff_exists'.1 fun hnone => hroom (refuseEnqueue_compensate.1 hnone)
  unfold visitOf
  rw [if_neg h, hw, hwhy]

/-- Settles O18. -/
theorem passVisitReplacesEnqueuesOrDefers : Obligations.PassVisitReplacesEnqueuesOrDefers := by
  unfold Obligations.PassVisitReplacesEnqueuesOrDefers
  intro slot rec id p s acc ti hp hti e sh x room
  obtain ⟨k, hk⟩ : ∃ k, visitOf s id e.output = k := ⟨_, rfl⟩
  have hx : x = _ := visitProfile_eq (x := (s, acc)) slot rec hp (evaluateNow_eq hti id p) hk
  have hshadow (j : ProfileId) : x.1.ce.shadows[j] = if j = id then k.shadow s.bm.nextId e sh else s.ce.shadows[j] := by
    rw [hx]
    exact setShadow_get id j _ s
  have hself := (hshadow id).trans (if_pos rfl)
  have hbm : x.1.bm = k.queue (compensateRequest id slot rec.addr p e.output) s.bm := by rw [hx]
  rw [hself, hbm]
  refine ⟨by cases k <;> rfl, by cases k <;> rfl, ?_, fun j hj => (hshadow j).trans (if_neg hj), fun href => ?_,
    fun w href hw => ?_, fun href hw hroom => ?_, fun href hw hroom => ?_⟩
  · rw [hx]
    simp only [limitNotices, limitNotice, evalIndex_of_some hti]
    rfl
  · obtain rfl : Visit.kept = k := (if_pos href).symm.trans hk
    exact ⟨rfl, rfl, href⟩
  · obtain rfl : Visit.replaced w = k := (visitOf_replaced href hw).symm.trans hk
    exact ⟨rfl, rfl⟩
  · obtain rfl : Visit.enqueued = k := (visitOf_enqueued href hw hroom).symm.trans hk
    exact ⟨rfl, rfl, rfl⟩
  · obtain rfl : Visit.refused = k := (visitOf_refused href hw hroom).symm.trans hk
    exact ⟨rfl, rfl, rfl⟩

end Sys2Proof.Machine
end

section
/-! What a grant moves at the Compensation Engine: one reference, from waiting to on-bus, with its value (R48). -/

namespace Sys2Proof.Machine

variable {s : State}

/-- A shadow whose waiting reference may have moved to the bus. -/
def MovedShadow (old new : Shadow) : Prop :=
  new = old ∨ ∃ w, old.waiting = some w ∧ new = { old with waiting := none, onBus := some w }

/-- A latch state whose waiting reference may have moved to the bus. -/
def MovedLatch (old new : LatchState) : Prop :=
  new = old ∨ ∃ w, old.waiting = some w ∧ new = { old with waiting := none, onBus := some w }

theorem MovedShadow.reference {old new : Shadow} (h : MovedShadow old new) : new.reference = old.reference := by
  rcases h with rfl | ⟨w, hw, rfl⟩
  · rfl
  · simp [Shadow.reference, hw]

theorem MovedShadow.fields {old new : Shadow} (h : MovedShadow old new) :
    new.computed = old.computed ∧ new.written = old.written ∧ new.deferred = old.deferred ∧ new.clamped = old.clamped := by
  rcases h with rfl | ⟨w, hw, rfl⟩ <;> exact ⟨rfl, rfl, rfl, rfl⟩

theorem setLatch_get (slot i : Slot) (l : LatchState) (s : State) :
    (setLatch slot l s).ce.latches[i] = if i = slot then l else s.ce.latches[i] := by
  by_cases h : i = slot
  · subst h
    simp
  · have hne : slot.val ≠ i.val := fun e => h (Fin.ext e.symm)
    simp [h, hne]

/-- A profile's waiting reference behind a grant. -/
theorem grantRef_shadow (id i : ProfileId) (tid : Nat) (s : State) :
    MovedShadow s.ce.shadows[i] (grantRef id tid s).ce.shadows[i] := by
  rw [grantRef, modShadow, setShadow_get]
  split
  · rename_i hi
    subst hi
    cases hw : s.ce.shadows[i].waiting with
    | none => exact .inl rfl
    | some w =>
      dsimp only
      split
      · exact .inr ⟨w, hw, rfl⟩
      · exact .inl rfl
  · exact .inl rfl

theorem grantReference_shadow (g : Transfer) (s : State) (i : ProfileId) :
    MovedShadow s.ce.shadows[i] (grantReference g s).ce.shadows[i] := by
  unfold grantReference
  split
  · exact grantRef_shadow _ i _ s
  · exact grantRef_shadow _ i _ s
  · unfold grantLatch
    dsimp only
    split <;> exact .inl rfl
  · exact .inl rfl

theorem grantLatch_latch (k slot : Slot) (tid : Nat) (s : State) : (grantLatch k tid s).ce.latches[slot] =
    if slot = k ∧ s.ce.latches[slot].waiting = some tid
    then { s.ce.latches[slot] with waiting := none, onBus := some tid } else s.ce.latches[slot] := by
  unfold grantLatch
  dsimp only
  by_cases hk : slot = k
  · subst hk
    simp only [true_and]
    split
    · exact (setLatch_get slot slot _ s).trans (if_pos rfl)
    · rfl
  · simp only [hk, false_and, if_false]
    split
    · exact (setLatch_get k slot _ s).trans (if_neg hk)
    · rfl

theorem grantReference_latch (g : Transfer) (s : State) (slot : Slot) : (grantReference g s).ce.latches[slot] =
    if g.origin = .latch ∧ g.slot = some slot ∧ s.ce.latches[slot].waiting = some g.id
    then { s.ce.latches[slot] with waiting := none, onBus := some g.id } else s.ce.latches[slot] := by
  unfold grantReference
  split
  · rename_i horigin
    simp [horigin, grantRef, modShadow]
  · rename_i horigin
    simp [horigin, grantRef, modShadow]
  · rename_i k horigin hslot
    rw [grantLatch_latch]
    simp only [horigin, hslot, true_and, Option.some.injEq, eq_comm]
  · rename_i hlatch
    exact (if_neg fun h : g.origin = .latch ∧ g.slot = some slot ∧ s.ce.latches[slot].waiting = some g.id =>
      hlatch _ h.1 h.2.1).symm

/-- A grant's part at the CE, shadow by shadow. -/
theorem grant_shadow (g : Transfer) (s : State) (i : ProfileId) :
    MovedShadow s.ce.shadows[i] (grant g s).ce.shadows[i] := grantReference_shadow g _ i

/-- A grant moves the latch reference that names the granted latch, and no other. -/
theorem grant_latch (g : Transfer) (s : State) (slot : Slot) : (grant g s).ce.latches[slot] =
    if g.origin = .latch ∧ g.slot = some slot ∧ s.ce.latches[slot].waiting = some g.id
    then { s.ce.latches[slot] with waiting := none, onBus := some g.id } else s.ce.latches[slot] :=
  grantReference_latch g _ slot

theorem grant_latch_moved (g : Transfer) (s : State) (slot : Slot) :
    MovedLatch s.ce.latches[slot] (grant g s).ce.latches[slot] := by
  rw [grant_latch]
  split
  · rename_i h
    exact .inr ⟨g.id, h.2.2, rfl⟩
  · exact .inl rfl

/-- A grant decision changes nothing or grants an eligible transfer of an idle bus. -/
theorem grantDecision_choice (s : State) :
    grantDecision s = s ∨ ∃ g ∈ s.bm.queue, busIdle s = true ∧ eligible s g = true ∧ grantDecision s = grant g s := by
  rcases grantDecision_cases s with hsame | ⟨hidle, -, g, hg, hgrant⟩
  · exact .inl hsame
  · obtain ⟨hmem, helig⟩ := mem_eligibleTransfers.1 (mem_of_arbiterChoice hg)
    exact .inr ⟨g, hmem, hidle, helig, hgrant⟩

theorem decideIfEnqueued_choice (before s : State) :
    decideIfEnqueued before s = s
      ∨ ∃ g ∈ s.bm.queue, busIdle s = true ∧ eligible s g = true ∧ decideIfEnqueued before s = grant g s := by
  unfold decideIfEnqueued
  split
  · exact grantDecision_choice s
  · exact .inl rfl

theorem grantDecision_shadow (s : State) (i : ProfileId) : MovedShadow s.ce.shadows[i] (grantDecision s).ce.shadows[i] := by
  rcases grantDecision_choice s with hsame | ⟨g, -, -, -, hgrant⟩
  · rw [hsame]
    exact .inl rfl
  · rw [hgrant]
    exact grant_shadow g s i

theorem grantDecision_latch (s : State) (i : Slot) : MovedLatch s.ce.latches[i] (grantDecision s).ce.latches[i] := by
  rcases grantDecision_choice s with hsame | ⟨g, -, -, -, hgrant⟩
  · rw [hsame]
    exact .inl rfl
  · rw [hgrant]
    exact grant_latch_moved g s i

theorem decideIfEnqueued_shadow (before s : State) (i : ProfileId) :
    MovedShadow s.ce.shadows[i] (decideIfEnqueued before s).ce.shadows[i] := by
  unfold decideIfEnqueued
  split
  · exact grantDecision_shadow s i
  · exact .inl rfl

theorem decideIfEnqueued_latch (before s : State) (i : Slot) :
    MovedLatch s.ce.latches[i] (decideIfEnqueued before s).ce.latches[i] := by
  unfold decideIfEnqueued
  split
  · exact grantDecision_latch s i
  · exact .inl rfl

/-- Beside references, a decision leaves the Compensation Engine as it is. -/
theorem decideIfEnqueued_ce (before s : State) : (decideIfEnqueued before s).ce = { s.ce with
    shadows := (decideIfEnqueued before s).ce.shadows
    latches := (decideIfEnqueued before s).ce.latches } := by
  unfold decideIfEnqueued
  split
  · exact grantDecision_ce s
  · rfl

end Sys2Proof.Machine
end

section
/-! The walk of a pass over the profiles it serves: the served profiles as one list of stops, and what stands after any
part of the walk (R42 to R45). -/

namespace Sys2Proof.Machine

variable {s t u : State} {ti : Int}

/-! ### What a pass leaves alone -/

/-- From `s` to `t` shadows, latches, the Bus Master and the notices may change, and nothing else. -/
def PassFrame (s t : State) : Prop := t = { s with
  ce := { s.ce with
    shadows := t.ce.shadows
    latches := t.ce.latches }
  bm := t.bm
  msgs := { s.msgs with notices := t.msgs.notices } }

theorem PassFrame.refl (s : State) : PassFrame s s := rfl

theorem PassFrame.trans (h : PassFrame s t) (h' : PassFrame t u) : PassFrame s u := by
  unfold PassFrame at h h'
  rw [h] at h'
  exact h'

theorem PassFrame.activeProfile (h : PassFrame s t) (id : ProfileId) : activeProfile t id = activeProfile s id := by
  rw [h]
  rfl

theorem PassFrame.recordInUse (h : PassFrame s t) (slot : Slot) : recordInUse t slot = recordInUse s slot := by
  rw [h]
  rfl

theorem PassFrame.slotProfiles (h : PassFrame s t) (slot : Slot) : slotProfiles t slot = slotProfiles s slot := by
  rw [h]
  rfl

/-- A profile whose shadow is still as the pass found it is evaluated at the pass's inputs. -/
theorem PassFrame.evaluateNow (h : PassFrame s t) (hti : evalIndex s = ti) {id : ProfileId}
    (hsame : t.ce.shadows[id] = s.ce.shadows[id]) (p : Profile) : evaluateNow t id p = passOutput s ti id p := by
  rw [Machine.evaluateNow, hsame, passOutput, ← hti, h]
  rfl

/-! ### One stop -/

/-- The choice of a visit suits the shadow it finds. -/
def Visit.Fits (k : Visit) (old : Shadow) (v : Nat) : Prop :=
  match k with
  | .kept => old.reference = some v
  | .replaced w => old.reference ≠ some v ∧ old.waiting = some w
  | .enqueued => old.reference ≠ some v ∧ old.waiting = none
  | .refused => old.reference ≠ some v ∧ old.waiting = none

theorem visitOf_fits (s : State) (id : ProfileId) (v : Nat) : (visitOf s id v).Fits s.ce.shadows[id] v := by
  unfold visitOf
  split
  · assumption
  · rename_i href
    cases hw : s.ce.shadows[id].waiting with
    | some w => exact ⟨href, hw⟩
    | none => cases refuseEnqueue .compensate s <;> exact ⟨href, hw⟩

theorem visitOf_refused_full {id : ProfileId} {v : Nat} (h : visitOf s id v = .refused) :
    32 ≤ s.bm.queue.length ∨ 24 ≤ countClass .compensate s.bm.queue := by
  unfold visitOf at h
  split at h
  · cases h
  · split at h
    · cases h
    · split at h
      · rename_i why hwhy
        by_contra hroom
        rw [refuseEnqueue_compensate.2 (by omega)] at hwhy
        cases hwhy
      · cases h

/-- The visits that issue a write. -/
def Visit.issues : Visit → Bool
  | .replaced _ => true
  | .enqueued => true
  | _ => false

/-- The visits of a profile that needs a write. -/
def Visit.writes : Visit → Bool
  | .kept => false
  | _ => true

theorem needsWrite_of_fits {id : ProfileId} {p : Profile} {k : Visit} (hp : activeProfile s id = some p)
    (hk : k.Fits s.ce.shadows[id] (passOutput s ti id p).output) : needsWrite s ti id = k.writes := by
  unfold needsWrite
  rw [hp]
  cases k with
  | kept => exact bne_eq_false_iff_eq.2 hk
  | replaced w => exact bne_iff_ne.2 hk.1
  | enqueued => exact bne_iff_ne.2 hk.1
  | refused => exact bne_iff_ne.2 hk.1

/-- A write was issued by the visits that replace and enqueue, and by no other. -/
theorem issuedWrite_of_fits {id : ProfileId} {p : Profile} {k : Visit} {fresh : Nat} (hp : activeProfile s id = some p)
    (hk : k.Fits s.ce.shadows[id] (passOutput s ti id p).output)
    (hnew : t.ce.shadows[id].reference = (k.shadow fresh (passOutput s ti id p) s.ce.shadows[id]).reference) :
    issuedWrite s t ti id = k.issues := by
  unfold issuedWrite
  rw [needsWrite_of_fits hp hk, hnew]
  cases k with
  | kept => rfl
  | replaced w =>
    rw [hk.2]
    rfl
  | enqueued =>
    rw [hk.2]
    exact bne_iff_ne.2 (Ne.symm hk.1)
  | refused =>
    rw [hk.2]
    exact bne_self_eq_false _

/-! ### The stops of a walk -/

/-- One stop of a pass: a served slot, its record and one of its profiles. -/
structure Stop where
  slot : Slot
  record : TargetRecord
  id : ProfileId

/-- The stops of some slots in the order of the pass (R42). -/
def stops (s : State) (slots : List Slot) : List Stop :=
  slots.flatMap fun slot => ((recordInUse s slot).map fun r => (slotProfiles s slot).map (Stop.mk slot r)).getD []

/-- The visits of a list of stops. -/
def walk : List Stop → State × PassAccount → State × PassAccount
  | [], x => x
  | v :: vs, x => walk vs (visitProfile v.slot v.record v.id x)

theorem walk_append (vs ws : List Stop) (x : State × PassAccount) : walk (vs ++ ws) x = walk ws (walk vs x) := by
  induction vs generalizing x with
  | nil => rfl
  | cons v vs ih => exact ih _

theorem visitProfiles_eq_walk (slot : Slot) (r : TargetRecord) (ids : List ProfileId) (x : State × PassAccount) :
    visitProfiles slot r ids x = walk (ids.map (Stop.mk slot r)) x := by
  induction ids generalizing x with
  | nil => rfl
  | cons id ids ih => exact ih _

theorem passFrame_visitProfile (slot : Slot) (r : TargetRecord) (id : ProfileId) (x : State × PassAccount) :
    PassFrame x.1 (visitProfile slot r id x).1 := by
  cases hp : activeProfile x.1 id with
  | none =>
    unfold visitProfile
    rw [hp]
    exact .refl _
  | some p =>
    rw [visitProfile_eq slot r hp rfl rfl]
    rfl

theorem passFrame_walk (vs : List Stop) (x : State × PassAccount) : PassFrame x.1 (walk vs x).1 := by
  induction vs generalizing x with
  | nil => exact .refl _
  | cons v vs ih => exact (passFrame_visitProfile _ _ _ x).trans (ih _)

theorem visitSlots_eq_walk {slots : List Slot} {x : State × PassAccount} (h : PassFrame s x.1) :
    visitSlots slots x = walk (stops s slots) x := by
  induction slots generalizing x with
  | nil => rfl
  | cons slot rest ih =>
    unfold visitSlots stops
    rw [h.recordInUse, List.flatMap_cons, walk_append]
    cases recordInUse s slot with
    | none => exact ih h
    | some r =>
      dsimp only [Option.map_some, Option.getD_some]
      rw [h.slotProfiles, visitProfiles_eq_walk]
      exact ih (h.trans (passFrame_walk _ x))

/-! ### What stands after a part of the walk -/

/-- A visited profile's shadow: the evaluation's values, and the treatment of its write. A refused one found no room. -/
structure VisitedTo (s : State) (ti : Int) (visits : Nat) (id : ProfileId) (p : Profile) (new : Shadow) (k : Visit)
    (fresh : Nat) : Prop where
  shadow : new = k.shadow fresh (passOutput s ti id p) s.ce.shadows[id]
  fits : k.Fits s.ce.shadows[id] (passOutput s ti id p).output
  full : k = .refused → 32 < s.bm.queue.length + visits ∨ 24 < countClass .compensate s.bm.queue + visits

/-- What stands after the visits `done` of a pass that began in `s`. -/
structure Walked (s : State) (ti : Int) (done : List Stop) (x : State × PassAccount) : Prop where
  frame : PassFrame s x.1
  latches : x.1.ce.latches = s.ce.latches
  untouched : ∀ id : ProfileId, (∀ v ∈ done, v.id ≠ id) → x.1.ce.shadows[id] = s.ce.shadows[id]
  visited : ∀ v ∈ done, ∀ p, activeProfile s v.id = some p →
    ∃ k fresh, VisitedTo s ti done.length v.id p x.1.ce.shadows[v.id] k fresh
  evaluated : x.2.evaluated = done.length
  replaced : x.2.replaced = (done.filter fun v => needsWrite s ti v.id && s.ce.shadows[v.id].waiting.isSome).length
  enqueued : x.2.enqueued
    = (done.filter fun v => issuedWrite s x.1 ti v.id && s.ce.shadows[v.id].waiting.isNone).length
  deferred : x.2.deferred = (done.filter fun v => needsWrite s ti v.id && !issuedWrite s x.1 ti v.id).length
  touched : ∀ slot, slot ∈ x.2.touched ↔ ∃ v ∈ done, v.slot = slot ∧ issuedWrite s x.1 ti v.id = true
  latchCounts : x.2.latchesEnqueued = 0 ∧ x.2.latchesMoved = 0 ∧ x.2.latchesDeferred = 0
  queueLength : x.1.bm.queue.length = s.bm.queue.length + x.2.enqueued
  queueClass : countClass .compensate x.1.bm.queue = countClass .compensate s.bm.queue + x.2.enqueued
  nextId : s.bm.nextId ≤ x.1.bm.nextId
  nextAge : s.bm.nextAge ≤ x.1.bm.nextAge
  keeps : ∀ y ∈ s.bm.queue, (∀ (id : ProfileId) v, s.ce.shadows[id].waiting ≠ some ⟨y.id, v⟩) → y ∈ x.1.bm.queue

theorem walked_start {x : State × PassAccount} (hx : x.1 = s) (hacc : x.2 = PassAccount.none) : Walked s ti [] x := by
  obtain ⟨u, acc⟩ := x
  obtain rfl : u = s := hx
  obtain rfl : acc = PassAccount.none := hacc
  exact ⟨.refl _, rfl, fun _ _ => rfl, nofun, rfl, rfl, rfl, rfl, fun _ => by simp [PassAccount.none], ⟨rfl, rfl, rfl⟩, rfl, rfl,
    le_rfl, le_rfl, fun _ h _ => h⟩

theorem length_filter_concat {α : Type} (p : α → Bool) (l : List α) (a : α) :
    ((l ++ [a]).filter p).length = (l.filter p).length + if p a then 1 else 0 := by
  rw [List.filter_append, List.length_append]
  cases h : p a <;> simp [h]

theorem countClass_map {f : Transfer → Transfer} (hf : ∀ z, (f z).cls = z.cls) (c : Class) (q : List Transfer) :
    countClass c (q.map f) = countClass c q := by
  simp [countClass, List.filter_map, Function.comp_def, hf]

theorem Walked.step {done : List Stop} {x : State × PassAccount} (h : Walked s ti done x) (hti : evalIndex s = ti)
    {v : Stop} (hnew : ∀ w ∈ done, w.id ≠ v.id) {p : Profile} (hp : activeProfile s v.id = some p) :
    Walked s ti (done ++ [v]) (visitProfile v.slot v.record v.id x) := by
  have hold := h.untouched v.id hnew
  have hpx : activeProfile x.1 v.id = some p := (h.frame.activeProfile v.id).trans hp
  obtain ⟨k, hk⟩ : ∃ k, visitOf x.1 v.id (passOutput s ti v.id p).output = k := ⟨_, rfl⟩
  have hfits : k.Fits s.ce.shadows[v.id] (passOutput s ti v.id p).output := by
    rw [← hk, ← hold]
    exact visitOf_fits x.1 v.id _
  have hy := visitProfile_eq v.slot v.record hpx (h.frame.evaluateNow hti hold p) hk
  generalize visitProfile v.slot v.record v.id x = y at hy ⊢
  have hshadow (j : ProfileId) : y.1.ce.shadows[j]
      = if j = v.id then k.shadow x.1.bm.nextId (passOutput s ti v.id p) s.ce.shadows[v.id] else x.1.ce.shadows[j] := by
    rw [hy, ← hold]
    exact setShadow_get v.id j _ x.1
  have hself := (hshadow v.id).trans (if_pos rfl)
  have hothers (w : Stop) (hw : w ∈ done) : y.1.ce.shadows[w.id] = x.1.ce.shadows[w.id] :=
    (hshadow w.id).trans (if_neg (hnew w hw))
  have hissued : issuedWrite s y.1 ti v.id = k.issues := issuedWrite_of_fits hp hfits (congrArg Shadow.reference hself)
  have hneeds : needsWrite s ti v.id = k.writes := needsWrite_of_fits hp hfits
  have hsame (w : Stop) (hw : w ∈ done) : issuedWrite s y.1 ti w.id = issuedWrite s x.1 ti w.id := by
    unfold issuedWrite
    rw [hothers w hw]
  have hframe : PassFrame x.1 y.1 := by
    rw [hy]
    rfl
  have hbm : y.1.bm = k.queue (compensateRequest v.id v.slot v.record.addr p (passOutput s ti v.id p).output) x.1.bm := by rw [hy]
  have hacc : y.2 = k.account v.slot x.2 := by rw [hy]
  have hcount (q r : Stop → Bool) (hq : ∀ w ∈ done, q w = r w) :
      ((done ++ [v]).filter q).length = (done.filter r).length + if q v then 1 else 0 := by
    rw [length_filter_concat, List.filter_congr hq]
  constructor
  case frame => exact h.frame.trans hframe
  case latches =>
    rw [hy]
    exact h.latches
  case untouched =>
    intro id hid
    rw [hshadow, if_neg fun he => hid v (by simp) he.symm]
    exact h.untouched id fun w hw => hid w (List.mem_append_left _ hw)
  case visited =>
    intro w hw q hq
    rw [List.length_append]
    rcases List.mem_append.1 hw with hw | hw
    · obtain ⟨k', fresh, hshadow', hfits', hfull⟩ := h.visited w hw q hq
      rw [hothers w hw]
      exact ⟨k', fresh, hshadow', hfits', fun hk' => by have := hfull hk'; simp only [List.length_singleton]; omega⟩
    · obtain rfl := List.mem_singleton.1 hw
      obtain rfl : p = q := Option.some.inj (hp.symm.trans hq)
      refine ⟨k, x.1.bm.nextId, hself, hfits, fun hk' => ?_⟩
      have hfull := visitOf_refused_full (hk.trans hk')
      have henq : x.2.enqueued ≤ done.length := by
        rw [h.enqueued]
        exact List.length_filter_le _ _
      rw [h.queueLength, h.queueClass] at hfull
      simp only [List.length_singleton]
      omega
  case evaluated =>
    rw [hacc, List.length_append, List.length_singleton, ← h.evaluated]
    cases k <;> rfl
  case replaced =>
    rw [hcount _ _ fun _ _ => rfl, ← h.replaced, hneeds, hacc]
    cases k with
    | replaced w =>
      rw [hfits.2]
      rfl
    | kept => rfl
    | enqueued =>
      rw [hfits.2]
      rfl
    | refused =>
      rw [hfits.2]
      rfl
  case enqueued =>
    rw [hcount _ _ fun w hw => by rw [hsame w hw], ← h.enqueued, hissued, hacc]
    cases k with
    | replaced w =>
      rw [hfits.2]
      rfl
    | kept => rfl
    | enqueued =>
      rw [hfits.2]
      rfl
    | refused => rfl
  case deferred =>
    rw [hcount _ _ fun w hw => by rw [hsame w hw], ← h.deferred, hissued, hneeds, hacc]
    cases k <;> rfl
  case touched =>
    intro slot
    have hmem : slot ∈ y.2.touched ↔ slot ∈ x.2.touched ∨ (v.slot = slot ∧ k.issues = true) := by
      rw [hacc]
      cases k <;> simp [Visit.account, Visit.issues, or_comm, eq_comm]
    rw [hmem, h.touched, ← hissued]
    constructor
    · rintro (⟨w, hw, hslot, hwrote⟩ | ⟨hslot, hwrote⟩)
      · exact ⟨w, List.mem_append_left _ hw, hslot, (hsame w hw).trans hwrote⟩
      · exact ⟨v, by simp, hslot, hwrote⟩
    · rintro ⟨w, hw, hslot, hwrote⟩
      rcases List.mem_append.1 hw with hw | hw
      · exact .inl ⟨w, hw, hslot, (hsame w hw).symm.trans hwrote⟩
      · obtain rfl := List.mem_singleton.1 hw
        exact .inr ⟨hslot, hwrote⟩
  case latchCounts =>
    rw [hacc]
    cases k <;> exact h.latchCounts
  case queueLength =>
    rw [hbm, hacc]
    cases k with
    | enqueued => simp [Visit.queue, Visit.account, h.queueLength, Nat.add_assoc]
    | replaced w => simp [Visit.queue, Visit.account, h.queueLength]
    | kept => exact h.queueLength
    | refused => exact h.queueLength
  case queueClass =>
    rw [hbm, hacc]
    cases k with
    | enqueued =>
      refine (length_filter_concat (fun z : Transfer => z.cls == .compensate) x.1.bm.queue _).trans ?_
      exact (congrArg (· + 1) h.queueClass).trans (Nat.add_assoc _ _ _)
    | replaced w =>
      exact (countClass_map (fun z => by split <;> rfl) _ _).trans h.queueClass
    | kept => exact h.queueClass
    | refused => exact h.queueClass
  case nextId =>
    rw [hbm]
    cases k with
    | enqueued => exact h.nextId.trans (Nat.le_succ _)
    | _ => exact h.nextId
  case nextAge =>
    rw [hbm]
    cases k with
    | enqueued => exact h.nextAge.trans (Nat.le_succ _)
    | _ => exact h.nextAge
  case keeps =>
    intro z hz hfree
    have hzx := h.keeps z hz hfree
    rw [hbm]
    cases k with
    | enqueued => exact List.mem_append_left _ hzx
    | replaced w => exact List.mem_map.2 ⟨z, hzx, if_neg fun he => hfree v.id w.value (by rw [hfits.2, he])⟩
    | kept => exact hzx
    | refused => exact hzx

theorem Walked.walk {done todo : List Stop} {x : State × PassAccount} (h : Walked s ti done x) (hti : evalIndex s = ti)
    (hnodup : ((done ++ todo).map Stop.id).Nodup) (hactive : ∀ v ∈ todo, (activeProfile s v.id).isSome = true) :
    Walked s ti (done ++ todo) (walk todo x) := by
  induction todo generalizing done x with
  | nil =>
    rw [List.append_nil]
    exact h
  | cons v rest ih =>
    obtain ⟨p, hp⟩ := Option.isSome_iff_exists.1 (hactive v List.mem_cons_self)
    have hnew : ∀ w ∈ done, w.id ≠ v.id := by
      intro w hw
      rw [List.map_append, List.nodup_append] at hnodup
      exact hnodup.2.2 w.id (List.mem_map_of_mem hw) v.id (by simp)
    have hstep := ih (h.step hti hnew hp) (by simpa using hnodup) fun w hw => hactive w (List.mem_cons_of_mem v hw)
    rw [List.append_assoc] at hstep
    exact hstep

/-! ### The stops are the served profiles -/

theorem insertByKey_perm {α : Type} (key : α → Nat) (x : α) (ys : List α) : (insertByKey key x ys).Perm (x :: ys) := by
  induction ys with
  | nil => exact .refl _
  | cons y ys ih =>
    unfold insertByKey
    split
    · exact .refl _
    · exact (ih.cons y).trans (.swap x y ys)

theorem sortByKey_perm {α : Type} (key : α → Nat) (ys : List α) : (sortByKey key ys).Perm ys := by
  induction ys with
  | nil => exact .refl _
  | cons y ys ih => exact (insertByKey_perm key y _).trans (ih.cons y)

theorem slotProfiles_nodup (s : State) (slot : Slot) : (slotProfiles s slot).Nodup :=
  (sortByKey_perm _ _).nodup_iff.2 ((List.nodup_finRange 64).filter _)

theorem mem_stops {slots : List Slot} {v : Stop} : v ∈ stops s slots ↔
    v.slot ∈ slots ∧ recordInUse s v.slot = some v.record ∧ profileServes s v.slot v.id = true := by
  unfold stops
  rw [List.mem_flatMap]
  constructor
  · rintro ⟨slot, hslot, hv⟩
    cases hr : recordInUse s slot with
    | none =>
      rw [hr] at hv
      cases hv
    | some r =>
      rw [hr] at hv
      obtain ⟨id, hid, rfl⟩ := List.mem_map.1 hv
      exact ⟨hslot, hr, mem_slotProfiles.1 hid⟩
  · rintro ⟨hslot, hr, hserves⟩
    refine ⟨v.slot, hslot, ?_⟩
    rw [hr]
    exact List.mem_map.2 ⟨v.id, mem_slotProfiles.2 hserves, rfl⟩

/-- A profile names one slot. -/
theorem profileServes_slot {i j : Slot} {id : ProfileId} (hi : profileServes s i id = true) (hj : profileServes s j id = true) :
    i = j := by
  obtain ⟨p, hp, -, hpi⟩ := profileServes_iff.1 hi
  obtain ⟨q, hq, -, hqj⟩ := profileServes_iff.1 hj
  obtain rfl : p = q := Option.some.inj (hp.symm.trans hq)
  exact Fin.ext (hpi.symm.trans hqj)

theorem stops_nodup {slots : List Slot} (h : slots.Nodup) : ((stops s slots).map Stop.id).Nodup := by
  induction slots with
  | nil => exact List.nodup_nil
  | cons slot rest ih =>
    obtain ⟨hnot, hrest⟩ := List.nodup_cons.1 h
    have hsplit : stops s (slot :: rest)
      = ((recordInUse s slot).map fun r => (slotProfiles s slot).map (Stop.mk slot r)).getD [] ++ stops s rest := List.flatMap_cons
    rw [hsplit, List.map_append, List.nodup_append]
    refine ⟨?_, ih hrest, ?_⟩
    · cases recordInUse s slot with
      | none => exact List.nodup_nil
      | some r =>
        simp only [Option.map_some, Option.getD_some, List.map_map]
        exact (List.map_id (slotProfiles s slot)).symm ▸ slotProfiles_nodup s slot
    · rintro i hi j hj rfl
      obtain ⟨v, hv, rfl⟩ := List.mem_map.1 hi
      obtain ⟨w, hw, hid⟩ := List.mem_map.1 hj
      have hvs : v ∈ stops s [slot] := by
        rw [stops, List.flatMap_singleton]
        exact hv
      obtain ⟨hslot, -, hserves⟩ := mem_stops.1 hvs
      obtain ⟨hwslot, -, hwserves⟩ := mem_stops.1 hw
      rw [hid] at hwserves
      rw [profileServes_slot hwserves hserves, List.mem_singleton.1 hslot] at hwslot
      exact hnot hwslot

theorem servedBy_eq (s : State) (slot : Slot) (id : ProfileId) : ServedBy s slot id =
    (s.ctxs[slot].state == .inService && (recordInUse s slot).isSome && profileServes s slot id) := rfl

theorem servedBy_iff {slot : Slot} {id : ProfileId} : ServedBy s slot id = true ↔
    s.ctxs[slot].state = .inService ∧ (recordInUse s slot).isSome = true ∧ profileServes s slot id = true := by
  simp only [servedBy_eq, Bool.and_eq_true, beq_iff_eq, and_assoc]

theorem mem_servedSlots {slot : Slot} : slot ∈ servedSlots s ↔ s.ctxs[slot].state = .inService := by
  simp [servedSlots]

theorem stops_perm_servedIds (s : State) : ((stops s (servedSlots s)).map Stop.id).Perm (servedIds s) := by
  refine (List.perm_ext_iff_of_nodup (stops_nodup ((List.nodup_finRange 8).filter _)) ((List.nodup_finRange 64).filter _)).2
    fun id => ?_
  constructor
  · intro hid
    obtain ⟨v, hv, rfl⟩ := List.mem_map.1 hid
    obtain ⟨hslot, hr, hserves⟩ := mem_stops.1 hv
    refine List.mem_filter.2 ⟨List.mem_finRange _, List.any_eq_true.2 ⟨v.slot, List.mem_finRange _, servedBy_iff.2 ?_⟩⟩
    exact ⟨mem_servedSlots.1 hslot, by rw [hr]; rfl, hserves⟩
  · intro hid
    obtain ⟨slot, -, hserved⟩ := List.any_eq_true.1 (List.mem_filter.1 hid).2
    obtain ⟨hstate, hr, hserves⟩ := servedBy_iff.1 hserved
    obtain ⟨r, hr⟩ := Option.isSome_iff_exists.1 hr
    exact List.mem_map.2 ⟨⟨slot, r, id⟩, mem_stops.2 ⟨mem_servedSlots.2 hstate, hr, hserves⟩, rfl⟩

/-- What stands after the whole walk of a pass. -/
theorem walked_visitSlots (hti : evalIndex s = ti) :
    Walked s ti (stops s (servedSlots s)) (visitSlots (servedSlots s) (s, PassAccount.none)) := by
  rw [visitSlots_eq_walk (.refl s)]
  have hstart : Walked s ti [] (s, PassAccount.none) := walked_start rfl rfl
  refine hstart.walk hti (stops_nodup ((List.nodup_finRange 8).filter _)) fun v hv => ?_
  obtain ⟨p, hp, -⟩ := profileServes_iff.1 (mem_stops.1 hv).2.2
  rw [hp]
  rfl

end Sys2Proof.Machine
end

section
/-! The latches of a pass: what stands after the latches of some served slots are settled (R46). -/

namespace Sys2Proof.Machine

variable {s : State} {u x : State × PassAccount}

/-- The latch a slot is due when the pass comes to its latches, with the slot's record. -/
def dueLatch (x : State × PassAccount) (slot : Slot) : Option (TargetRecord × RegValue) :=
  (recordInUse x.1 slot).bind fun r => r.latch.bind fun l =>
    if x.2.touched.contains slot || x.1.ce.latches[slot].deferred then some (r, l) else none

theorem settleLatch_eq (slot : Slot) (x : State × PassAccount) :
    settleLatch slot x = (match dueLatch x slot with
      | none => x
      | some d => issueLatch slot d.1.addr d.2 x) := by
  unfold settleLatch dueLatch
  cases recordInUse x.1 slot with
  | none => rfl
  | some r =>
    cases hl : r.latch with
    | none => simp [hl]
    | some l =>
      simp only [Option.bind_some, hl]
      split <;> rfl

/-- What became of the latch of a slot, when `n` slots have been settled behind the state `u`. -/
inductive LatchSettled (u : State × PassAccount) (n : Nat) (t : State) (slot : Slot) : Prop
  | idle (hdue : dueLatch u slot = none) (hsame : t.ce.latches[slot] = u.1.ce.latches[slot])
  | moved (d : TargetRecord × RegValue) (w : Nat) (hdue : dueLatch u slot = some d)
    (hw : u.1.ce.latches[slot].waiting = some w) (hsame : t.ce.latches[slot] = u.1.ce.latches[slot])
    (hage : ∀ y ∈ t.bm.queue, y.id = w → u.1.bm.nextAge ≤ y.age)
  | enqueued (d : TargetRecord × RegValue) (fresh age : Nat) (hdue : dueLatch u slot = some d)
    (hw : u.1.ce.latches[slot].waiting = none)
    (hnew : t.ce.latches[slot] = { u.1.ce.latches[slot] with deferred := false, waiting := some fresh })
    (hroom : u.1.bm.queue.length < 32 ∧ countClass .compensate u.1.bm.queue < 24) (hfresh : u.1.bm.nextId ≤ fresh)
    (hqueued : (latchRequest slot d.1.addr d.2).record fresh age ∈ t.bm.queue)
  | refused (d : TargetRecord × RegValue) (hdue : dueLatch u slot = some d) (hw : u.1.ce.latches[slot].waiting = none)
    (hnew : t.ce.latches[slot] = { u.1.ce.latches[slot] with deferred := true })
    (hfull : 32 < u.1.bm.queue.length + n ∨ 24 < countClass .compensate u.1.bm.queue + n)

/-- What stands after the latches of the slots `done` are settled, behind the walk that ended in `u`. -/
structure Latched (u : State × PassAccount) (done : List Slot) (x : State × PassAccount) : Prop where
  frame : PassFrame u.1 x.1
  shadows : x.1.ce.shadows = u.1.ce.shadows
  account : x.2 = { u.2 with
    latchesEnqueued := x.2.latchesEnqueued
    latchesMoved := x.2.latchesMoved
    latchesDeferred := x.2.latchesDeferred }
  untouched : ∀ slot ∉ done, x.1.ce.latches[slot] = u.1.ce.latches[slot]
  settled : ∀ slot ∈ done, LatchSettled u done.length x.1 slot
  moved : x.2.latchesMoved = u.2.latchesMoved
    + (done.filter fun i => (dueLatch u i).isSome && u.1.ce.latches[i].waiting.isSome).length
  enqueued : x.2.latchesEnqueued = u.2.latchesEnqueued
    + (done.filter fun i => (dueLatch u i).isSome && u.1.ce.latches[i].waiting.isNone && !x.1.ce.latches[i].deferred).length
  deferred : x.2.latchesDeferred = u.2.latchesDeferred
    + (done.filter fun i => (dueLatch u i).isSome && u.1.ce.latches[i].waiting.isNone && x.1.ce.latches[i].deferred).length
  growth : ∃ n ≤ done.length, x.1.bm.queue.length = u.1.bm.queue.length + n
    ∧ countClass .compensate x.1.bm.queue = countClass .compensate u.1.bm.queue + n
  nextId : u.1.bm.nextId ≤ x.1.bm.nextId
  nextAge : u.1.bm.nextAge ≤ x.1.bm.nextAge
  kept : ∀ y ∈ u.1.bm.queue, ∃ age, { y with age := age } ∈ x.1.bm.queue

theorem latched_start (u : State × PassAccount) : Latched u [] u :=
  ⟨.refl _, rfl, rfl, fun _ _ => rfl, nofun, rfl, rfl, rfl, ⟨0, le_rfl, rfl, rfl⟩, le_rfl, le_rfl, fun y hy => ⟨y.age, hy⟩⟩

theorem Latched.due {done : List Slot} (h : Latched u done x) {slot : Slot} (hnew : slot ∉ done) :
    dueLatch x slot = dueLatch u slot := by
  unfold dueLatch
  rw [h.frame.recordInUse, h.untouched slot hnew, h.account]

/-- A later step of the pass leaves what became of a slot's latch: it changes ages to later ones and adds transfers. -/
theorem LatchSettled.later {n m : Nat} {t t' : State} {slot : Slot} (h : LatchSettled u n t slot) (hnm : n ≤ m)
    (hsame : t'.ce.latches[slot] = t.ce.latches[slot]) 
    (hkept : ∀ y ∈ t.bm.queue, ∃ age, { y with age := age } ∈ t'.bm.queue)
    (hages : ∀ y ∈ t'.bm.queue, u.1.bm.nextAge ≤ y.age ∨ y ∈ t.bm.queue) : LatchSettled u m t' slot := by
  cases h with
  | idle hdue hold => exact .idle hdue (hsame.trans hold)
  | moved d w hdue hw hold hage =>
    exact .moved d w hdue hw (hsame.trans hold) fun y hy hid => (hages y hy).elim id fun hy' => hage y hy' hid
  | enqueued d fresh age hdue hw hnew hroom hfresh hqueued =>
    obtain ⟨age', hqueued'⟩ := hkept _ hqueued
    exact .enqueued d fresh age' hdue hw (hsame.trans hnew) hroom hfresh hqueued'
  | refused d hdue hw hnew hfull => exact .refused d hdue hw (hsame.trans hnew) (by omega)

/-- What settling the latch of one slot does: its own latch state, the counters, the queue grown. -/
structure LatchStep (u : State × PassAccount) (n : Nat) (slot : Slot) (x y : State × PassAccount) : Prop where
  frame : PassFrame x.1 y.1
  shadows : y.1.ce.shadows = x.1.ce.shadows
  account : y.2 = { x.2 with
    latchesEnqueued := y.2.latchesEnqueued
    latchesMoved := y.2.latchesMoved
    latchesDeferred := y.2.latchesDeferred }
  others : ∀ i ≠ slot, y.1.ce.latches[i] = x.1.ce.latches[i]
  settled : LatchSettled u n y.1 slot
  moved : y.2.latchesMoved = x.2.latchesMoved
    + if (dueLatch u slot).isSome && u.1.ce.latches[slot].waiting.isSome then 1 else 0
  enqueued : y.2.latchesEnqueued = x.2.latchesEnqueued
    + if (dueLatch u slot).isSome && u.1.ce.latches[slot].waiting.isNone && !y.1.ce.latches[slot].deferred then 1 else 0
  deferred : y.2.latchesDeferred = x.2.latchesDeferred
    + if (dueLatch u slot).isSome && u.1.ce.latches[slot].waiting.isNone && y.1.ce.latches[slot].deferred then 1 else 0
  growth : ∃ m ≤ 1, y.1.bm.queue.length = x.1.bm.queue.length + m
    ∧ countClass .compensate y.1.bm.queue = countClass .compensate x.1.bm.queue + m
  nextId : x.1.bm.nextId ≤ y.1.bm.nextId
  nextAge : x.1.bm.nextAge ≤ y.1.bm.nextAge
  kept : ∀ z ∈ x.1.bm.queue, ∃ age, { z with age := age } ∈ y.1.bm.queue
  ages : ∀ z ∈ y.1.bm.queue, x.1.bm.nextAge ≤ z.age ∨ z ∈ x.1.bm.queue

theorem Latched.extend {done : List Slot} (h : Latched u done x) {slot : Slot} (hnew : slot ∉ done) {y : State × PassAccount}
    (hstep : LatchStep u (done.length + 1) slot x y) : Latched u (done ++ [slot]) y := by
  have hdone (i : Slot) (hi : i ∈ done) : y.1.ce.latches[i] = x.1.ce.latches[i] := hstep.others i fun he => hnew (he ▸ hi)
  constructor
  case frame => exact h.frame.trans hstep.frame
  case shadows => exact hstep.shadows.trans h.shadows
  case account =>
    have haccount := hstep.account
    rw [h.account] at haccount
    exact haccount
  case untouched =>
    intro i hi
    rw [List.mem_append, not_or, List.mem_singleton] at hi
    exact (hstep.others i hi.2).trans (h.untouched i hi.1)
  case settled =>
    intro i hi
    rw [List.length_append, List.length_singleton]
    rcases List.mem_append.1 hi with hi | hi
    · exact (h.settled i hi).later (Nat.le_succ _) (hdone i hi) hstep.kept fun z hz =>
        (hstep.ages z hz).imp_left fun hage => h.nextAge.trans hage
    · obtain rfl := List.mem_singleton.1 hi
      exact hstep.settled
  case moved => rw [length_filter_concat, hstep.moved, h.moved, Nat.add_assoc]
  case enqueued =>
    rw [length_filter_concat, List.filter_congr fun i hi => by rw [hdone i hi], hstep.enqueued, h.enqueued, Nat.add_assoc]
  case deferred =>
    rw [length_filter_concat, List.filter_congr fun i hi => by rw [hdone i hi], hstep.deferred, h.deferred, Nat.add_assoc]
  case growth =>
    obtain ⟨n, hn, hlength, hclass⟩ := h.growth
    obtain ⟨m, hm, hlength', hclass'⟩ := hstep.growth
    exact ⟨n + m, by simp only [List.length_append, List.length_singleton]; omega, by omega, by omega⟩
  case nextId => exact h.nextId.trans hstep.nextId
  case nextAge => exact h.nextAge.trans hstep.nextAge
  case kept =>
    intro z hz
    obtain ⟨age, hz'⟩ := h.kept z hz
    exact hstep.kept { z with age := age } hz'

theorem Latched.step {done : List Slot} (h : Latched u done x) {slot : Slot} (hnew : slot ∉ done) :
    Latched u (done ++ [slot]) (settleLatch slot x) := by
  refine h.extend hnew ?_
  have hold := h.untouched slot hnew
  rw [settleLatch_eq, h.due hnew]
  cases hd : dueLatch u slot with
  | none =>
    exact ⟨.refl _, rfl, rfl, fun _ _ => rfl, .idle hd hold, by rw [hd]; rfl, by rw [hd]; rfl, by rw [hd]; rfl,
      ⟨0, by omega, rfl, rfl⟩, le_rfl, le_rfl, fun z hz => ⟨z.age, hz⟩, fun z hz => .inr hz⟩
  | some d =>
    dsimp only
    unfold issueLatch
    dsimp only
    rw [hold]
    cases hw : u.1.ce.latches[slot].waiting with
    | some w =>
      have hages : ∀ z ∈ (renewAge w x.1).bm.queue, (z.id = w → x.1.bm.nextAge ≤ z.age)
          ∧ (x.1.bm.nextAge ≤ z.age ∨ z ∈ x.1.bm.queue) := by
        intro z hz
        obtain ⟨z', hz', rfl⟩ := List.mem_map.1 hz
        split
        · exact ⟨fun _ => le_rfl, .inl le_rfl⟩
        · exact ⟨fun hid => absurd hid ‹_›, .inr hz'⟩
      have hsettled : LatchSettled u (done.length + 1) (renewAge w x.1) slot :=
        .moved d w hd hw hold fun z hz hid => h.nextAge.trans ((hages z hz).1 hid)
      refine ⟨rfl, rfl, rfl, fun _ _ => rfl, hsettled, by rw [hd, hw]; rfl, by rw [hd, hw]; rfl, by rw [hd, hw]; rfl,
        ⟨0, by omega, List.length_map _, countClass_map (fun z => by split <;> rfl) _ _⟩, le_rfl, Nat.le_succ _,
        fun z hz => ?_, fun z hz => (hages z hz).2⟩
      by_cases hid : z.id = w
      · exact ⟨_, List.mem_map.2 ⟨z, hz, if_pos hid⟩⟩
      · exact ⟨z.age, List.mem_map.2 ⟨z, hz, if_neg hid⟩⟩
    | none =>
      have hget (l : LatchState) (i : Slot) := setLatch_get slot i l x.1
      obtain ⟨n, hn, hlength, hclass⟩ := h.growth
      cases hroom : refuseEnqueue .compensate x.1 with
      | some why =>
        dsimp only
        generalize hl : (⟨true, none, u.1.ce.latches[slot].onBus⟩ : LatchState) = l
        have hself : (setLatch slot l x.1).ce.latches[slot] = { u.1.ce.latches[slot] with deferred := true } := by
          rw [hget, if_pos rfl, ← hl, ← hw]
        have hfull : 32 ≤ x.1.bm.queue.length ∨ 24 ≤ countClass .compensate x.1.bm.queue := by
          by_contra hnot
          rw [refuseEnqueue_compensate.2 (by omega)] at hroom
          cases hroom
        have hsettled : LatchSettled u (done.length + 1) (setLatch slot l x.1) slot := .refused d hd hw hself (by omega)
        exact ⟨rfl, rfl, rfl, fun i hi => (hget _ i).trans (if_neg hi), hsettled, by rw [hd, hw]; rfl, by rw [hd, hw, hself]; rfl,
          by rw [hd, hw, hself]; rfl, ⟨0, by omega, rfl, rfl⟩, le_rfl, le_rfl, fun z hz => ⟨z.age, hz⟩, fun z hz => .inr hz⟩
      | none =>
        dsimp only
        generalize hl : (⟨false, some x.1.bm.nextId, u.1.ce.latches[slot].onBus⟩ : LatchState) = l
        have hself : (addTransfer (latchRequest slot d.1.addr d.2) (setLatch slot l x.1)).ce.latches[slot]
            = { u.1.ce.latches[slot] with deferred := false, waiting := some x.1.bm.nextId } := by
          rw [← hl]
          exact (hget _ slot).trans (if_pos rfl)
        have hroom := refuseEnqueue_compensate.1 hroom
        have hsettled : LatchSettled u (done.length + 1)
            (addTransfer (latchRequest slot d.1.addr d.2) (setLatch slot l x.1)) slot :=
          .enqueued d x.1.bm.nextId x.1.bm.nextAge hd hw hself (by omega) h.nextId
            (List.mem_append_right _ (List.mem_singleton_self _))
        refine ⟨rfl, rfl, rfl, fun i hi => (hget _ i).trans (if_neg hi), hsettled, by rw [hd, hw]; rfl, by rw [hd, hw, hself]; rfl,
          by rw [hd, hw, hself]; rfl, ⟨1, le_rfl, List.length_append, ?_⟩, Nat.le_succ _, Nat.le_succ _,
          fun z hz => ⟨z.age, List.mem_append_left _ hz⟩, fun z hz => ?_⟩
        · exact length_filter_concat (fun z : Transfer => z.cls == .compensate) x.1.bm.queue _
        · rcases List.mem_append.1 hz with hz | hz
          · exact .inr hz
          · rw [List.mem_singleton.1 hz]
            exact .inl le_rfl

theorem Latched.settleLatches {done todo : List Slot} (h : Latched u done x) (hnodup : (done ++ todo).Nodup) :
    Latched u (done ++ todo) (settleLatches todo x) := by
  induction todo generalizing done x with
  | nil =>
    rw [List.append_nil]
    exact h
  | cons slot rest ih =>
    have hnew : slot ∉ done := fun hmem => (List.nodup_append.1 hnodup).2.2 slot hmem slot List.mem_cons_self rfl
    have hstep := ih (h.step hnew) (by rwa [List.append_assoc])
    rw [List.append_assoc] at hstep
    exact hstep

end Sys2Proof.Machine
end

section
/-! A pass taken whole: the walk, the latches and the grant behind them (O15, O16, O17). -/

namespace Sys2Proof.Machine

variable {s t : State} {ti : Int}

/-! ### The parts of a pass -/

/-- The state in which a pass begins its walk, where no invalidation is outstanding. -/
def countedPass (s : State) : State := { s with ce := { s.ce with passCount := s.ce.passCount + 1 } }

/-- The parts of a pass: the walk ends in `v`, the latches in `l`. -/
structure PassRun (s : State) (ti : Int) (v l : State × PassAccount) : Prop where
  walked : Walked (countedPass s) ti (stops (countedPass s) (servedSlots s)) v
  latched : Latched v (servedSlots s) l
  evolves : Evolves ∅ (countedPass s) l.1
  result : runPass s = (decideIfEnqueued s l.1, l.2)

theorem servedSlots_nodup (s : State) : (servedSlots s).Nodup := (List.nodup_finRange 8).filter _

theorem latched_settleLatches (u : State × PassAccount) {slots : List Slot} (h : slots.Nodup) :
    Latched u slots (settleLatches slots u) := (latched_start u).settleLatches (done := []) h

theorem passRun (hti : evalIndex s = ti) (hclear : ∀ i : Slot, s.msgs.ceInvalidate[i] = false) : ∃ v l, PassRun s ti v l := by
  have hbegin : settleInvalidations (List.finRange 8) (countedPass s) = countedPass s := settleInvalidations_of_clear hclear
  refine ⟨visitSlots (servedSlots s) (countedPass s, PassAccount.none), _, walked_visitSlots (s := countedPass s) hti,
    latched_settleLatches _ (servedSlots_nodup s),
    (evolves_visitSlots _ (countedPass s, PassAccount.none)).trans (evolves_settleLatches _ _), ?_⟩
  have hpass : runPass s = (fun u => (decideIfEnqueued s (settleLatches (servedSlots s) (visitSlots (servedSlots s)
      (u, PassAccount.none))).1, (settleLatches (servedSlots s) (visitSlots (servedSlots s) (u, PassAccount.none))).2))
      (settleInvalidations (List.finRange 8) (countedPass s)) := rfl
  rw [hpass, hbegin]

theorem passFrame_decideIfEnqueued (before s : State) : PassFrame s (decideIfEnqueued before s) := by
  have hkeeps := decideIfEnqueued_keeps before s
  have hce := decideIfEnqueued_ce before s
  unfold PassFrame
  generalize decideIfEnqueued before s = t at hkeeps hce ⊢
  obtain ⟨hpending, hnow, hfree, hpins, hmu, hctxs, hcs, hoc, hhl, hnu, hmsgs⟩ := hkeeps
  cases t
  rw [State.mk.injEq]
  exact ⟨hpending, hnow, hfree, hpins, hmu, hce, hctxs, rfl, hcs, hoc, hhl, hnu, by rw [show _ = s.msgs from hmsgs]; exact hmsgs⟩

section Run
variable {v l : State × PassAccount} (h : PassRun s ti v l)
include h

theorem PassRun.frame : PassFrame (countedPass s) l.1 := h.walked.frame.trans h.latched.frame

theorem PassRun.frame_result : PassFrame (countedPass s) (runPass s).1 := by
  rw [h.result]
  exact h.frame.trans (passFrame_decideIfEnqueued s l.1)

/-- A shadow behind the pass is the one behind the walk, its waiting reference perhaps moved by the grant. -/
theorem PassRun.shadow (id : ProfileId) : MovedShadow v.1.ce.shadows[id] (runPass s).1.ce.shadows[id] := by
  rw [h.result, ← h.latched.shadows]
  exact decideIfEnqueued_shadow s l.1 id

theorem PassRun.issuedWrite (id : ProfileId) :
    issuedWrite s (runPass s).1 ti id = issuedWrite (countedPass s) v.1 ti id := by
  unfold Machine.issuedWrite
  rw [(h.shadow id).reference]
  rfl

end Run

theorem stops_filter_length (s : State) (f : ProfileId → Bool) :
    ((stops (countedPass s) (servedSlots s)).filter fun v => f v.id).length = ((servedIds s).filter f).length := by
  have hperm := ((stops_perm_servedIds (countedPass s)).filter f).length_eq
  rw [List.filter_map, List.length_map] at hperm
  exact hperm

/-! ### O15 -/

theorem passDue_iff {first : Bool} : passDue s first = true ↔ first = false ∧ s.oc.part = .run ∧ s.ce.supply = .normal := by
  unfold passDue
  simp [and_assoc]

theorem exec_cycleCompleteAtCe {derate first : Bool} {r : Readings} {ti : Int} {src : IndexSource} {sup : SupplyCond}
    {rest : List CeAnnounce} (hm : s.msgs.ceMu = .cycleComplete r ti src sup first :: rest) :
    exec (.cycleCompleteAtCe derate) s = .next (if passDue s first
      then (runPass { s with pins := { s.pins with derate := derate }, msgs := { s.msgs with ceMu := rest } }).1
      else { s with pins := { s.pins with derate := derate }, msgs := { s.msgs with ceMu := rest } }) := by
  have htaken : sampleDerate derate (takeCeMu s)
      = { s with pins := { s.pins with derate := derate }, msgs := { s.msgs with ceMu := rest } } := by
    unfold sampleDerate takeCeMu
    rw [hm]
    rfl
  change execCycleCompleteAtCe derate s = _
  unfold execCycleCompleteAtCe
  rw [htaken, hm]

/-- A profile that no slot in service is served with keeps its shadow through a pass, but for a grant. -/
theorem PassRun.unserved {v l : State × PassAccount} (h : PassRun s ti v l) {id : ProfileId}
    (hid : ∀ slot : Slot, s.ctxs[slot].state = .inService → profileServes s slot id = false) :
    MovedShadow s.ce.shadows[id] (runPass s).1.ce.shadows[id] := by
  have hsame : v.1.ce.shadows[id] = s.ce.shadows[id] := h.walked.untouched id fun w hw he => by
    obtain ⟨hslot, -, hserves⟩ := mem_stops.1 hw
    rw [he] at hserves
    exact absurd (hid w.slot (mem_servedSlots.1 hslot)) (by
      have : profileServes s w.slot id = true := hserves
      simp [this])
  have hmoved := h.shadow id
  rwa [hsame] at hmoved

/-- Settles O15. -/
theorem passServesOnlySlotsInService : Obligations.PassServesOnlySlotsInService := by
  unfold Obligations.PassServesOnlySlotsInService
  intro derate first s r ti src sup rest hm
  have hexec := exec_cycleCompleteAtCe (derate := derate) hm
  refine ⟨fun hnot => ?_, fun hfirst hpart hsupply => ?_, fun hfirst hpart hsupply hclear => ?_⟩
  · rw [hexec, if_neg]
    rw [passDue_iff]
    rcases hnot with hfirst | hpart | hsupply
    · simp [hfirst]
    · simp [hpart]
    · simp [hsupply]
  · rw [hexec, if_pos (passDue_iff.2 ⟨hfirst, hpart, hsupply⟩)]
  · refine ⟨_, hexec.trans (congrArg Host.Outcome.next (if_pos (passDue_iff.2 ⟨hfirst, hpart, hsupply⟩))), ?_⟩
    obtain ⟨v, l, h⟩ := passRun (s := { s with pins := { s.pins with derate := derate }, msgs := { s.msgs with ceMu := rest } })
      rfl hclear
    have hmoved (id : ProfileId) (hid) := h.unserved (id := id) hid
    have hframe := h.frame_result
    generalize (runPass { s with pins := { s.pins with derate := derate }, msgs := { s.msgs with ceMu := rest } }).1 = t
      at hmoved hframe
    refine ⟨by rw [hframe]; rfl, by rw [hframe]; rfl, by rw [hframe]; rfl, by rw [hframe]; rfl, by rw [hframe]; rfl,
      by rw [hframe]; rfl, by rw [hframe]; rfl, by rw [hframe]; rfl, by rw [hframe]; rfl, by rw [hframe]; rfl,
      fun id hid => ?_⟩
    obtain ⟨hcomputed, hwritten, hdeferred, hclamped⟩ := (hmoved id hid).fields
    exact ⟨hcomputed, hwritten, hdeferred, hclamped, (hmoved id hid).reference⟩

/-! ### O16 -/

/-- What a visit makes of the reference value and of DEFERRED. -/
theorem VisitedTo.outcome {n : Nat} {id : ProfileId} {p : Profile} {new : Shadow} {k : Visit} {fresh : Nat}
    (h : VisitedTo s ti n id p new k fresh) :
    new.computed = some (passOutput s ti id p).computed ∧ new.clamped = (passOutput s ti id p).stages.flag
      ∧ new.written = s.ce.shadows[id].written
      ∧ (s.ce.shadows[id].reference = some (passOutput s ti id p).output →
          new.reference = some (passOutput s ti id p).output ∧ new.deferred = false)
      ∧ (k ≠ .refused → new.reference = some (passOutput s ti id p).output)
      ∧ (k = .refused → s.ce.shadows[id].waiting = none ∧ new.deferred = true ∧ new.reference = s.ce.shadows[id].reference) := by
  obtain ⟨rfl, hfits, -⟩ := h
  cases k with
  | kept => exact ⟨rfl, rfl, rfl, fun href => ⟨href, rfl⟩, fun _ => hfits, nofun⟩
  | replaced w => exact ⟨rfl, rfl, rfl, fun href => absurd href hfits.1, fun _ => rfl, nofun⟩
  | enqueued => exact ⟨rfl, rfl, rfl, fun href => absurd href hfits.1, fun _ => rfl, nofun⟩
  | refused =>
    exact ⟨rfl, rfl, rfl, fun href => absurd href hfits.1, fun hne => absurd rfl hne, fun _ => ⟨hfits.2, rfl, rfl⟩⟩

/-- A profile that the pass serves was visited. -/
theorem PassRun.visited {v l : State × PassAccount} (h : PassRun s ti v l) {slot : Slot} {id : ProfileId} {p : Profile}
    (hserved : ServedBy s slot id = true) (hp : activeProfile s id = some p) :
    ∃ k fresh, VisitedTo (countedPass s) ti (servedIds s).length id p v.1.ce.shadows[id] k fresh := by
  obtain ⟨hstate, hr, hserves⟩ := servedBy_iff.1 hserved
  obtain ⟨r, hr⟩ := Option.isSome_iff_exists.1 hr
  have hmem : (⟨slot, r, id⟩ : Stop) ∈ stops (countedPass s) (servedSlots s) :=
    mem_stops.2 ⟨mem_servedSlots.2 hstate, hr, hserves⟩
  have hlength := stops_filter_length s fun _ => true
  rw [List.filter_true, List.filter_true] at hlength
  rw [← hlength]
  exact h.walked.visited _ hmem p hp

/-- Settles O16. -/
theorem passVisitsEveryServedProfile : Obligations.PassVisitsEveryServedProfile := by
  unfold Obligations.PassVisitsEveryServedProfile
  intro s ti hti hclear x t
  obtain ⟨v, l, h⟩ := passRun (evalIndex_of_some hti) hclear
  have hx : x.2 = { v.2 with
      latchesEnqueued := x.2.latchesEnqueued
      latchesMoved := x.2.latchesMoved
      latchesDeferred := x.2.latchesDeferred } := by
    have haccount := h.latched.account
    have hresult : x.2 = l.2 := by rw [show x = _ from h.result]
    rwa [← hresult] at haccount
  refine ⟨fun slot id p hserved hp => ?_, ?_, ?_, ?_, ?_⟩
  · intro e old new
    obtain ⟨k, fresh, hvisit⟩ := h.visited hserved hp
    obtain ⟨hcomputed, hclamped, hwritten, hkept, hissued, hrefused⟩ := hvisit.outcome
    have hmoved : MovedShadow v.1.ce.shadows[id] new := h.shadow id
    obtain ⟨hcomputed', hwritten', hdeferred', hclamped'⟩ := hmoved.fields
    rw [← hmoved.reference, ← hdeferred'] at hkept hrefused
    rw [← hmoved.reference] at hissued
    refine ⟨hcomputed'.trans hcomputed, hclamped'.trans hclamped, hwritten'.trans hwritten, hkept, fun hw => ?_,
      fun hqueue hclass => ?_, ?_⟩
    · refine hissued fun hk => ?_
      have hnone : old.waiting = none := (hrefused hk).1
      simp [hnone] at hw
    · refine hissued fun hk => ?_
      have hfull : 32 < s.bm.queue.length + (servedIds s).length ∨ 24 < countClass .compensate s.bm.queue + (servedIds s).length :=
        hvisit.full hk
      omega
    · by_cases hk : k = .refused
      · exact .inr (hrefused hk).2
      · exact .inl (hissued hk)
  · rw [hx]
    have hall := stops_filter_length s fun _ => true
    rw [List.filter_true, List.filter_true] at hall
    exact h.walked.evaluated.trans hall
  · rw [hx]
    exact h.walked.replaced.trans (stops_filter_length s fun id => needsWrite s ti id && s.ce.shadows[id].waiting.isSome)
  · rw [hx]
    refine h.walked.enqueued.trans ?_
    simp only [← h.issuedWrite]
    exact stops_filter_length s fun id => issuedWrite s t ti id && s.ce.shadows[id].waiting.isNone
  · rw [hx]
    refine h.walked.deferred.trans ?_
    simp only [← h.issuedWrite]
    exact stops_filter_length s fun id => needsWrite s ti id && !issuedWrite s t ti id

end Sys2Proof.Machine
end

section
/-! The COMPENSATE latch of a slot through a pass, a grant and its DONE (O17). -/

namespace Sys2Proof.Machine

variable {s t : State} {ti : Int}

section Run
variable {v l : State × PassAccount} (h : PassRun s ti v l)
include h

theorem PassRun.latch (slot : Slot) : MovedLatch l.1.ce.latches[slot] (runPass s).1.ce.latches[slot] := by
  rw [h.result]
  exact decideIfEnqueued_latch s l.1 slot

theorem PassRun.latchesWalked : v.1.ce.latches = s.ce.latches := h.walked.latches

/-- A slot is due a latch exactly where the statement says so, and it is then a served slot. -/
theorem PassRun.latchDue_iff (slot : Slot) : latchDue s (runPass s).1 ti slot = true ↔
    slot ∈ servedSlots s ∧ (dueLatch v slot).isSome = true := by
  have htouched : v.2.touched.contains slot = true
      ↔ (List.finRange 64).any (fun id => ServedBy s slot id && Machine.issuedWrite s (runPass s).1 ti id) = true := by
    rw [List.contains_iff_mem, h.walked.touched, List.any_eq_true]
    constructor
    · rintro ⟨w, hw, rfl, hwrote⟩
      obtain ⟨hslot, hr, hserves⟩ := mem_stops.1 hw
      refine ⟨w.id, List.mem_finRange _, Bool.and_eq_true_iff.2 ⟨servedBy_iff.2 ⟨mem_servedSlots.1 hslot, ?_, hserves⟩, ?_⟩⟩
      · rw [show recordInUse s w.slot = some w.record from hr]
        rfl
      · rw [h.issuedWrite]
        exact hwrote
    · rintro ⟨id, -, hid⟩
      obtain ⟨hserved, hwrote⟩ := Bool.and_eq_true_iff.1 hid
      obtain ⟨hstate, hr, hserves⟩ := servedBy_iff.1 hserved
      obtain ⟨r, hr⟩ := Option.isSome_iff_exists.1 hr
      rw [h.issuedWrite] at hwrote
      exact ⟨⟨slot, r, id⟩, mem_stops.2 ⟨mem_servedSlots.2 hstate, hr, hserves⟩, rfl, hwrote⟩
  unfold latchDue dueLatch
  rw [Bool.and_eq_true_iff, Bool.and_eq_true_iff, beq_iff_eq, and_assoc, ← mem_servedSlots, Bool.or_eq_true_iff, ← htouched,
    h.walked.frame.recordInUse, h.latchesWalked]
  refine and_congr_right fun _ => ?_
  change (((recordInUse s slot).bind TargetRecord.latch).isSome = true ∧ _) ↔ ((recordInUse s slot).bind _).isSome = true
  cases recordInUse s slot with
  | none => simp
  | some r =>
    cases hl : r.latch with
    | none => simp [hl]
    | some entry =>
      simp only [Option.bind_some, hl, Option.isSome_some, true_and]
      split
      · rename_i hdue
        simpa [or_comm] using hdue
      · rename_i hdue
        simpa [or_comm] using hdue

/-- The due latch is the record's, of the active record or the one an outstanding removal carries. -/
theorem PassRun.dueLatch_eq {slot : Slot} {d r : TargetRecord} {e entry : RegValue} (hd : dueLatch v slot = some (d, e))
    (hr : recordInUse s slot = some r) (he : r.latch = some entry) : d = r ∧ e = entry := by
  unfold dueLatch at hd
  rw [h.walked.frame.recordInUse, show recordInUse (countedPass s) slot = some r from hr, Option.bind_some, he,
    Option.bind_some] at hd
  split at hd
  · exact ⟨(Prod.mk.inj (Option.some.inj hd)).1.symm, (Prod.mk.inj (Option.some.inj hd)).2.symm⟩
  · cases hd

/-- A slot that is not due keeps its latch state through a pass, but for a grant. -/
theorem PassRun.latch_of_not_due {slot : Slot} (hdue : latchDue s (runPass s).1 ti slot = false) :
    MovedLatch s.ce.latches[slot] (runPass s).1.ce.latches[slot] := by
  have hsame : l.1.ce.latches[slot] = s.ce.latches[slot] := by
    rw [← h.latchesWalked]
    by_cases hserved : slot ∈ servedSlots s
    · have hnone : dueLatch v slot = none := by
        by_contra hsome
        rw [(h.latchDue_iff slot).2 ⟨hserved, Option.isSome_iff_ne_none.2 hsome⟩] at hdue
        cases hdue
      cases h.latched.settled slot hserved with
      | idle _ hsame => exact hsame
      | moved d w hd => simp [hnone] at hd
      | enqueued d fresh age hd => simp [hnone] at hd
      | refused d hd => simp [hnone] at hd
    · exact h.latched.untouched slot hserved
  rw [← hsame]
  exact h.latch slot

/-- What became of the latch of a slot that is due one. -/
theorem PassRun.latch_of_due {slot : Slot} (hdue : latchDue s (runPass s).1 ti slot = true) :
    (dueLatch v slot).isSome = true ∧ LatchSettled v (servedSlots s).length l.1 slot := by
  obtain ⟨hserved, hsome⟩ := (h.latchDue_iff slot).1 hdue
  exact ⟨hsome, h.latched.settled slot hserved⟩

/-- How far the queue had grown when the latches began. -/
theorem PassRun.growth : ∃ n ≤ (servedIds s).length, v.1.bm.queue.length = s.bm.queue.length + n
    ∧ countClass .compensate v.1.bm.queue = countClass .compensate s.bm.queue + n := by
  refine ⟨v.2.enqueued, ?_, h.walked.queueLength, h.walked.queueClass⟩
  rw [h.walked.enqueued]
  exact (List.length_filter_le _ _).trans (by
    have hall := stops_filter_length s fun _ => true
    rw [List.filter_true, List.filter_true] at hall
    exact hall.le)

end Run

theorem decideIfEnqueued_queue (before s : State) {y : Transfer} (hy : y ∈ s.bm.queue) :
    ∃ b, { y with onBus := b } ∈ (decideIfEnqueued before s).bm.queue := by
  rcases decideIfEnqueued_choice before s with hsame | ⟨g, -, -, -, hgrant⟩
  · exact ⟨y.onBus, by rw [hsame]; exact hy⟩
  · rw [hgrant, grant_queue]
    by_cases hid : y.id = g.id
    · exact ⟨true, List.mem_map.2 ⟨y, hy, if_pos hid⟩⟩
    · exact ⟨y.onBus, List.mem_map.2 ⟨y, hy, if_neg hid⟩⟩

/-- A waiting latch behind a grant decision: it still waits and is named so, or it is on the bus and named so. -/
theorem decideIfEnqueued_waitingLatch (before : State) (hone : OneOnBus s) {y : Transfer} {slot : Slot} (hy : y ∈ s.bm.queue)
    (horigin : y.origin = .latch) (hslot : y.slot = some slot) (hwaits : y.onBus = false)
    (hnamed : s.ce.latches[slot].waiting = some y.id) :
    ∃ z ∈ (decideIfEnqueued before s).bm.queue, z = { y with onBus := z.onBus }
      ∧ (z.onBus = false → (decideIfEnqueued before s).ce.latches[slot].waiting = some y.id)
      ∧ (z.onBus = true → (decideIfEnqueued before s).ce.latches[slot].onBus = some y.id) := by
  rcases decideIfEnqueued_choice before s with hsame | ⟨g, hg, -, -, hgrant⟩
  · rw [hsame]
    exact ⟨y, hy, rfl, fun _ => hnamed, fun hbus => by rw [hwaits] at hbus; cases hbus⟩
  · rw [hgrant, grant_queue, grant_latch]
    by_cases hid : y.id = g.id
    · obtain rfl := hone.eq_of_id hy hg hid
      refine ⟨_, List.mem_map.2 ⟨y, hy, if_pos rfl⟩, rfl, nofun, fun _ => ?_⟩
      rw [if_pos ⟨horigin, hslot, hnamed⟩]
    · refine ⟨y, List.mem_map.2 ⟨y, hy, if_neg hid⟩, rfl, fun _ => ?_, fun hbus => by rw [hwaits] at hbus; cases hbus⟩
      rw [if_neg fun hand => hid (Option.some.inj (hnamed.symm.trans hand.2.2))]
      exact hnamed

theorem oneOnBus_decideIfEnqueued (before : State) (h : OneOnBus s) : OneOnBus (decideIfEnqueued before s) := by
  unfold decideIfEnqueued
  split
  · exact oneOnBus_grantDecision h
  · exact h

/-- A waiting latch that a pass moves stays queued as the same transfer with a later age, or is granted. -/
theorem PassRun.movedLatch {v l : State × PassAccount} (h : PassRun s ti v l) {slot : Slot} {w : Nat}
    (hsame : l.1.ce.latches[slot] = v.1.ce.latches[slot]) (hw : v.1.ce.latches[slot].waiting = some w)
    (hage : ∀ y ∈ l.1.bm.queue, y.id = w → v.1.bm.nextAge ≤ y.age) {x : Transfer} (hx : x ∈ s.bm.queue) (hone : OneOnBus s)
    (hid : x.id = w) (horigin : x.origin = .latch) (hslot : x.slot = some slot) (hwaits : x.onBus = false)
    (hfree : ∀ (id : ProfileId) v, s.ce.shadows[id].waiting ≠ some ⟨w, v⟩) :
    ∃ y ∈ (runPass s).1.bm.queue, y = { x with age := y.age, onBus := y.onBus } ∧ s.bm.nextAge ≤ y.age
      ∧ (∀ z ∈ (runPass s).1.bm.queue, z.id = w → z = y)
      ∧ (y.onBus = false → (runPass s).1.ce.latches[slot].waiting = some w)
      ∧ (y.onBus = true → (runPass s).1.ce.latches[slot].onBus = some w) := by
  subst hid
  obtain ⟨age, haged⟩ := h.latched.kept x (h.walked.keeps x hx hfree)
  have hone' : OneOnBus l.1 := h.evolves.oneOnBus (oneOnBus_of_bm (s := s) rfl rfl hone)
  obtain ⟨z, hz, hzeq, hwaiting, honBus⟩ := decideIfEnqueued_waitingLatch s hone' haged horigin hslot hwaits
    (by rw [hsame]; exact hw)
  have hzid : z.id = x.id := by rw [hzeq]
  have hzage : z.age = age := by rw [hzeq]
  rw [h.result]
  refine ⟨z, hz, by rw [hzage]; exact hzeq, ?_, fun z' hz' hid' => ?_, hwaiting, honBus⟩
  · rw [hzage]
    exact h.walked.nextAge.trans (hage _ haged rfl)
  · exact (oneOnBus_decideIfEnqueued s hone').eq_of_id hz' hz (hid'.trans hzid.symm)

end Sys2Proof.Machine
end

section
/-! The end of a transaction as a whole (R116): the outcome, the departure of the transfer, its delivery and the
grant decision behind it. -/

namespace Sys2Proof.Machine

variable {s : State} {t : Transfer} {r : BusResponse} {derate : Bool}

theorem exec_transactionEnd (hbus : onBusTransfer s = some t) (hidle : s.bm.recovering = false) :
    exec (.transactionEnd r derate) s = .next (endTransaction t r (sampleDerate derate s)) := by
  change execTransactionEnd r derate s = _
  unfold execTransactionEnd
  rw [hbus]
  dsimp only
  rw [hidle]
  rfl

/-! ### Outcomes (R113, R114) -/

theorem firstRefusal_eq_none {acks : List Bool} {count : Nat} (h : ∀ n, n < count → acks[n]? = some true) :
    firstRefusal acks count = none := by
  unfold firstRefusal
  rw [List.find?_eq_none]
  intro n hn
  simp [ackAt, List.getD_eq_getElem?_getD, h n (List.mem_range.1 hn)]

theorem writeOutcome_done {acks : List Bool} {count : Nat} (h : ∀ n, n < count + 2 → acks[n]? = some true) :
    writeOutcome acks count = .done := by
  unfold writeOutcome
  rw [firstRefusal_eq_none h]

theorem readOutcome_done {acks : List Bool} (h : ∀ n, n < 3 → acks[n]? = some true) : readOutcome acks = .done := by
  unfold readOutcome
  rw [firstRefusal_eq_none h]

/-! ### The transfer leaves -/

/-- The Bus Master when a transfer with a final outcome has left: the wire record, the quiet time of a DONE, the STOP owed
after a TIMEOUT, the departure. -/
def concluded (t : Transfer) (r : BusResponse) (s : State) : State :=
  let out := transactionOutcome t r
  let ended := oweStop out (modTransfer t.id counted (setWire (transactionWire t r) s))
  depart t.id (if out = .done then startQuiet (counted t) ended else ended)

theorem oweStop_eq (out : BusOutcome) (s : State) : oweStop out s = { s with bm := { s.bm with
    owedStop := (oweStop out s).bm.owedStop } } := by
  unfold oweStop
  split <;> rfl

/-- A transaction with a final outcome: the transfer leaves, is delivered, and a grant is decided. -/
theorem endTransaction_final (hstuck : transactionOutcome t r ≠ .busStuck)
    (hfinal : transactionOutcome t r = .done ∨ retried s (counted t) = false) :
    endTransaction t r s
      = grantDecision (deliver (counted t) (transactionOutcome t r) (deliveredBytes t r) (concluded t r s)) := by
  unfold endTransaction settle finish concluded
  dsimp only
  rw [if_neg hstuck]
  by_cases hdone : transactionOutcome t r = .done
  · rw [if_pos hdone, if_pos hdone]
    rfl
  · rw [if_neg hdone, if_neg hdone, oweStop_eq]
    have hnot : retried { modTransfer t.id counted (setWire (transactionWire t r) s) with
        bm := { (modTransfer t.id counted (setWire (transactionWire t r) s)).bm with
          owedStop := (oweStop (transactionOutcome t r) (modTransfer t.id counted (setWire (transactionWire t r) s))).bm.owedStop } }
        (counted t) = false := hfinal.resolve_left hdone
    rw [if_neg (by rw [hnot]; exact Bool.false_ne_true)]
    rfl

/-- A transfer that leaves takes a change of its own record with it. -/
theorem depart_modTransfer {f : Transfer → Transfer} (hf : ∀ x, (f x).id = x.id) (id : Nat) (s : State) :
    depart id (modTransfer id f s) = depart id s := by
  have hcomp (p : Nat → Bool) : ((fun x : Transfer => p x.id) ∘ fun x => if x.id = id then f x else x) = fun x => p x.id := by
    funext x
    simp only [Function.comp_apply]
    split
    · rw [hf]
    · rfl
  have hkept : (s.bm.queue.map fun x => if x.id = id then f x else x).filter (fun x => !(x.id == id))
      = s.bm.queue.filter fun x => !(x.id == id) := by
    rw [List.filter_map, hcomp fun i => !(i == id)]
    refine (List.map_congr_left fun x hx => if_neg ?_).trans (List.map_id _)
    simpa using (List.mem_filter.1 hx).2
  have hgone : ((s.bm.queue.map fun x => if x.id = id then f x else x).filter fun x => x.id == id).length
      = (s.bm.queue.filter fun x => x.id == id).length := by
    rw [List.filter_map, List.length_map, hcomp fun i => i == id]
  simp only [depart, departWhere, modTransfer, hkept, hgone]

/-- The quiet times behind a transaction with an outcome (R112). -/
def quietAfter (t : Transfer) (out : BusOutcome) (s : State) : Vector (Option Nat) 8 :=
  if out = .done then (startQuiet (counted t) s).bm.quiet else s.bm.quiet

/-- What a concluded transaction leaves: the queue without the transfer, the wire record, one departure announced. -/
theorem concluded_eq (t : Transfer) (r : BusResponse) (s : State) : concluded t r s = { s with
    bm := { s.bm with
      queue := s.bm.queue.filter fun x => !(x.id == t.id)
      owedStop := s.bm.owedStop || decide (transactionOutcome t r = .timeout)
      quiet := quietAfter t (transactionOutcome t r) s
      wire := transactionWire t r }
    msgs := { s.msgs with departures := s.msgs.departures + (s.bm.queue.filter fun x => x.id == t.id).length } } := by
  have hdeparted (o : Bool) (q : Vector (Option Nat) 8) : depart t.id { modTransfer t.id counted (setWire (transactionWire t r) s) with
      bm := { (modTransfer t.id counted (setWire (transactionWire t r) s)).bm with owedStop := o, quiet := q } }
      = { depart t.id (setWire (transactionWire t r) s) with
        bm := { (depart t.id (setWire (transactionWire t r) s)).bm with owedStop := o, quiet := q } } := by
    rw [← depart_modTransfer (f := counted) (fun _ => rfl) t.id (setWire (transactionWire t r) s)]
    rfl
  have howed : oweStop (transactionOutcome t r) (modTransfer t.id counted (setWire (transactionWire t r) s))
      = { modTransfer t.id counted (setWire (transactionWire t r) s) with
        bm := { (modTransfer t.id counted (setWire (transactionWire t r) s)).bm with
          owedStop := s.bm.owedStop || decide (transactionOutcome t r = .timeout) } } := by
    unfold oweStop
    split
    · rw [decide_eq_true ‹_›, Bool.or_true]
    · rw [decide_eq_false ‹_›, Bool.or_false]
      rfl
  have hquiet (u : State) (hnow : u.now = s.now) (hq : u.bm.quiet = s.bm.quiet) : startQuiet (counted t) u
      = { u with bm := { u.bm with quiet := (startQuiet (counted t) s).bm.quiet } } := by
    unfold startQuiet
    split
    · rw [← hq]
    · split
      · rw [setQuiet, setQuiet, hnow, hq]
      · rw [← hq]
  unfold concluded quietAfter
  dsimp only
  rw [howed]
  split
  · refine (congrArg (depart t.id) (hquiet _ ?_ ?_)).trans (hdeparted _ (startQuiet (counted t) s).bm.quiet)
    · rfl
    · rfl
  · exact hdeparted _ s.bm.quiet

end Sys2Proof.Machine
end

section
/-! O17: the latch of a slot through a pass, a grant and its DONE. -/

namespace Sys2Proof.Machine

variable {s : State} {ti : Int}

theorem transactionOutcome_write {t : Transfer} {acks : List Bool} {data : List Byte} (hdir : t.dir = .write)
    (h : ∀ n, n < t.data.length + 2 → acks[n]? = some true) : transactionOutcome t (.complete acks data) = .done := by
  unfold transactionOutcome
  dsimp only
  rw [hdir]
  exact writeOutcome_done h

/-- The granted transfers keep their handles, so that a departed one does not come back. -/
theorem grantDecision_ids {id : Nat} (h : ∀ x ∈ s.bm.queue, x.id ≠ id) : ∀ x ∈ (grantDecision s).bm.queue, x.id ≠ id := by
  rcases grantDecision_choice s with hsame | ⟨g, -, -, -, hgrant⟩
  · rwa [hsame]
  · rw [hgrant, grant_queue]
    intro x hx
    obtain ⟨y, hy, rfl⟩ := List.mem_map.1 hx
    split <;> exact h y hy

theorem concluded_ids (t : Transfer) (r : BusResponse) (s : State) : ∀ x ∈ (concluded t r s).bm.queue, x.id ≠ t.id := by
  intro x hx
  rw [concluded_eq] at hx
  simpa using (List.mem_filter.1 hx).2

/-- The DONE of a latch that is not stale clears the reference that names it. -/
theorem compensateOutcome_latchDone {t : Transfer} {slot : Slot} (hslot : t.slot = some slot) (horigin : t.origin = .latch)
    (hstale : t.stale = false) (hnamed : s.ce.latches[slot].onBus = some t.id) :
    compensateOutcome t .done s = setLatch slot { s.ce.latches[slot] with onBus := none } s := by
  unfold compensateOutcome latchOutcome
  rw [hslot, horigin, hstale]
  dsimp only
  rw [hnamed]
  simp

theorem MovedLatch.deferred {old new : LatchState} (h : MovedLatch old new) : new.deferred = old.deferred := by
  rcases h with rfl | ⟨w, -, rfl⟩ <;> rfl

theorem MovedLatch.named {old new : LatchState} (h : MovedLatch old new) {w : Nat} (hw : old.waiting = some w) :
    new.waiting = some w ∨ new.onBus = some w := by
  rcases h with rfl | ⟨w', hw', rfl⟩
  · exact .inl hw
  · exact .inr (hw'.symm.trans hw)

theorem MovedLatch.eq_of_none {old new : LatchState} (h : MovedLatch old new) (hw : old.waiting = none) : new = old := by
  rcases h with rfl | ⟨w, hw', -⟩
  · rfl
  · rw [hw] at hw'
    cases hw'

theorem grant_shadows_of_latch {g : Transfer} (horigin : g.origin = .latch) (s : State) :
    (grant g s).ce.shadows = s.ce.shadows := by
  unfold grant grantReference
  dsimp only
  rw [horigin]
  split
  · cases ‹Origin.latch = _›
  · cases ‹Origin.latch = _›
  · unfold grantLatch
    dsimp only
    split <;> rfl
  · rfl

/-- The slots a pass counts by their latches are the due ones. -/
theorem PassRun.count {v l : State × PassAccount} (h : PassRun s ti v l) (q : Slot → Bool) :
    ((servedSlots s).filter fun i => (dueLatch v i).isSome && q i).length
      = ((List.finRange 8).filter fun i => latchDue s (runPass s).1 ti i && q i).length := by
  have hdue (i : Slot) : latchDue s (runPass s).1 ti i = (s.ctxs[i].state == .inService && (dueLatch v i).isSome) := by
    rw [Bool.eq_iff_iff, h.latchDue_iff, mem_servedSlots, Bool.and_eq_true_iff, beq_iff_eq]
  rw [servedSlots, List.filter_filter]
  refine congrArg List.length (List.filter_congr fun i _ => ?_)
  rw [hdue i, Bool.and_comm, Bool.and_assoc]

/-- Settles O17. -/
theorem latchIsEnqueuedMovedOrDeferred : Obligations.LatchIsEnqueuedMovedOrDeferred := by
  unfold Obligations.LatchIsEnqueuedMovedOrDeferred
  refine ⟨fun s ti hti hclear => ?_, fun s t slot horigin hslot hw => ?_, ?_⟩
  · intro x t
    obtain ⟨v, l, h⟩ := passRun (evalIndex_of_some hti) hclear
    have hbegin (i : Slot) : v.1.ce.latches[i] = s.ce.latches[i] := by rw [h.latchesWalked]
    have hflag (i : Slot) : t.ce.latches[i].deferred = l.1.ce.latches[i].deferred := (h.latch i).deferred
    have hx : x.2 = l.2 := by rw [show x = _ from h.result]
    refine ⟨fun slot => ?_, ?_, ?_, ?_⟩
    · intro old new
      have hmoved : MovedLatch l.1.ce.latches[slot] new := h.latch slot
      have hold := hbegin slot
      refine ⟨fun hdue => ?_, fun r e hdue hr he => ?_⟩
      · have hkept := h.latch_of_not_due hdue
        exact ⟨hkept.deferred, hkept⟩
      · obtain ⟨hsome, hsettled⟩ := h.latch_of_due hdue
        obtain ⟨n, hn, hlength, hclass⟩ := h.growth
        have height : (servedSlots s).length ≤ 8 := List.length_filter_le _ _
        cases hsettled with
        | idle hnone => simp [hnone] at hsome
        | moved d w hd hw hsame hage =>
          have hwaits : old.waiting = some w := by rw [← hw, hold]
          have hdeferred : new.deferred = old.deferred := by rw [hmoved.deferred, hsame, hold]
          refine ⟨fun w' hw' => ?_, ?_, ?_, ?_, ?_⟩
          · obtain rfl : w = w' := Option.some.inj (hwaits.symm.trans hw')
            refine ⟨hdeferred, hmoved.named (by rw [hsame]; exact hw), fun z hz hone hid horigin hzslot hbus hfree => ?_⟩
            exact h.movedLatch hsame hw hage hz hone hid horigin hzslot hbus hfree
          all_goals
            intro hnone
            simp [hwaits] at hnone
        | enqueued d fresh age hd hw hnew hroom hfresh hqueued =>
          obtain ⟨rfl, rfl⟩ := h.dueLatch_eq hd hr he
          have hnone : old.waiting = none := by rw [← hw, hold]
          have hdeferred : new.deferred = false := by rw [hmoved.deferred, hnew]
          refine ⟨fun w hw' => ?_, fun _ _ => ?_, fun _ hset => ?_, fun _ _ _ => hdeferred, fun _ hfull => ?_⟩
          · simp [hnone] at hw'
          · obtain ⟨b, hb⟩ := decideIfEnqueued_queue s l.1 hqueued
            refine ⟨_, show _ ∈ (runPass s).1.bm.queue by rw [h.result]; exact hb, h.walked.nextId.trans hfresh,
              hmoved.named (by rw [hnew]; rfl), rfl, rfl, rfl, rfl, rfl, rfl, rfl, rfl, rfl⟩
          · simp [hdeferred] at hset
          · omega
        | refused d hd hw hnew hfull =>
          have hnone : old.waiting = none := by rw [← hw, hold]
          have hset : new = { old with deferred := true } := by
            rw [hmoved.eq_of_none (by rw [hnew]; exact hw), hnew, hold]
          refine ⟨fun w hw' => ?_, fun _ hclear' => ?_, fun _ _ => hset, fun _ hq hc => ?_, fun _ _ => by rw [hset]⟩
          · simp [hnone] at hw'
          · simp [hset] at hclear'
          · omega
    · rw [hx, h.latched.moved, h.walked.latchCounts.2.1, Nat.zero_add]
      simp only [hbegin]
      exact h.count fun i => s.ce.latches[i].waiting.isSome
    · rw [hx, h.latched.enqueued, h.walked.latchCounts.1, Nat.zero_add]
      simp only [Bool.and_assoc, hbegin, hflag]
      exact h.count fun i => s.ce.latches[i].waiting.isNone && !l.1.ce.latches[i].deferred
    · rw [hx, h.latched.deferred, h.walked.latchCounts.2.2, Nat.zero_add]
      simp only [Bool.and_assoc, hbegin, hflag]
      exact h.count fun i => s.ce.latches[i].waiting.isNone && l.1.ce.latches[i].deferred
  · refine ⟨?_, fun i hi => ?_, ?_⟩
    · rw [grant_latch, if_pos ⟨horigin, hslot, hw⟩]
    · rw [grant_latch, if_neg fun hand => hi (Option.some.inj (hand.2.1.symm.trans hslot))]
    · exact grant_shadows_of_latch horigin s
  · intro derate acks data s t slot hone hbus hidle hslot horigin hdir hstale hnamed hwaiting hacks
    refine ⟨_, exec_transactionEnd hbus hidle, ?_⟩
    have hout : transactionOutcome t (.complete acks data) = .done := transactionOutcome_write hdir hacks
    rw [endTransaction_final (by rw [hout]; exact BusOutcome.noConfusion) (.inl hout), hout]
    generalize hu : concluded t (.complete acks data) (sampleDerate derate s) = u
    have hids := concluded_ids t (.complete acks data) (sampleDerate derate s)
    rw [hu] at hids
    have hframe := concluded_eq t (.complete acks data) (sampleDerate derate s)
    rw [hu] at hframe
    have hce : u.ce = s.ce := by rw [hframe]; rfl
    have hdelivered : deliver (counted t) .done (deliveredBytes t (.complete acks data)) u
        = setLatch slot { s.ce.latches[slot] with onBus := none } u := by
      have hcls : (counted t).cls = .compensate := by
        change t.origin.cls = _
        rw [horigin]
        rfl
      unfold deliver
      rw [hcls]
      dsimp only
      rw [compensateOutcome_latchDone (t := counted t) hslot horigin hstale (by rw [hce]; exact hnamed), hce]
    rw [hdelivered]
    have hmoved := grantDecision_latch (setLatch slot { s.ce.latches[slot] with onBus := none } u) slot
    rw [setLatch_get, if_pos rfl] at hmoved
    refine ⟨fun hnone => ?_, fun w hw => ?_, grantDecision_ids hids, ?_, ?_, ?_⟩
    · rw [hmoved.eq_of_none hnone]
      exact congrArg (LatchState.mk _ · none) hnone
    · rcases hmoved with hsame | ⟨w', hw', hmoved⟩
      · rw [hsame]
        exact .inl (congrArg (LatchState.mk _ · none) hw)
      · rw [hmoved]
        obtain rfl : w = w' := Option.some.inj (hw.symm.trans hw')
        exact .inr rfl
    · simp [hframe]
    · simp [hframe]
    · simp [hframe]

end Sys2Proof.Machine
end

section
/-! The reference value of a shadow and the transfer it names (O29), and what a transaction shows on the wire (O38). -/

namespace Sys2Proof.Machine

variable {s : State}

/-! ### O29 -/

/-- A grant of a profile's write is the move of the profile's reference, beside the Bus Master. -/
theorem grant_eq_of_profile {t : Transfer} {id : ProfileId} (h : t.origin = .profile id ∨ t.origin = .loadProfile id) (s : State) :
    grant t s = grantRef id t.id { s with bm := (grant t s).bm } := by
  rw [grant_bm]
  unfold grant grantReference
  dsimp only
  rcases h with h | h <;> rw [h] <;> rfl

theorem departed_count {t : Transfer} (hone : OneOnBus s) (ht : t ∈ s.bm.queue) :
    (s.bm.queue.filter fun x => x.id == t.id).length = 1 := by
  have hall : ∀ x ∈ s.bm.queue.filter fun x => x.id == t.id, x = t := fun x hx =>
    hone.eq_of_id (List.mem_filter.1 hx).1 ht (by simpa using (List.mem_filter.1 hx).2)
  have hmem : t ∈ s.bm.queue.filter fun x => x.id == t.id := List.mem_filter.2 ⟨ht, by simp⟩
  have hnodup : (s.bm.queue.filter fun x => x.id == t.id).Nodup :=
    (hone.1.imp fun hne he => hne (congrArg Transfer.id he)).filter _
  have hperm := (List.perm_ext_iff_of_nodup hnodup (List.nodup_singleton t)).2 fun x =>
    ⟨fun hx => List.mem_singleton.2 (hall x hx), fun hx => by rw [List.mem_singleton.1 hx]; exact hmem⟩
  exact hperm.length_eq

theorem reference_of_waiting {sh : Shadow} {w : Ref} (hw : sh.waiting = some w) : sh.reference = some w.value := by
  simp [Shadow.reference, hw]

theorem reference_of_onBus {sh : Shadow} {b : Ref} (hw : sh.waiting = none) (hb : sh.onBus = some b) :
    sh.reference = some b.value := by
  simp [Shadow.reference, hw, hb]

theorem reference_of_written {sh : Shadow} (hw : sh.waiting = none) (hb : sh.onBus = none) : sh.reference = sh.written := by
  simp [Shadow.reference, hw, hb]

theorem MovedShadow.eq_of_none {old new : Shadow} (h : MovedShadow old new) (hw : old.waiting = none) : new = old := by
  rcases h with rfl | ⟨w, hw', -⟩
  · rfl
  · rw [hw] at hw'
    cases hw'

theorem doneShadow_named {sh : Shadow} {tid v : Nat} (h : sh.onBus = some ⟨tid, v⟩) :
    doneShadow tid sh = { sh with written := some v, onBus := none } := by
  unfold doneShadow
  rw [h]
  exact if_pos rfl

theorem grantRef_named {id : ProfileId} {tid v : Nat} (h : s.ce.shadows[id].waiting = some ⟨tid, v⟩) :
    grantRef id tid s = setShadow id { s.ce.shadows[id] with waiting := none, onBus := some ⟨tid, v⟩ } s := by
  unfold grantRef modShadow
  dsimp only
  rw [h]
  dsimp only
  rw [if_pos rfl]

/-- The DONE of a pass's write that is not stale and that the on-bus reference names makes its value the written one. -/
theorem compensateOutcome_profileDone {t : Transfer} {slot : Slot} {id : ProfileId} {v : Nat} (hslot : t.slot = some slot)
    (horigin : t.origin = .profile id) (hstale : t.stale = false) (hnamed : s.ce.shadows[id].onBus = some ⟨t.id, v⟩) :
    compensateOutcome t .done s = setShadow id { s.ce.shadows[id] with written := some v, onBus := none } s := by
  have hby : namedBy t.id s.ce.shadows[id].onBus = true := by
    rw [hnamed]
    exact beq_self_eq_true t.id
  unfold compensateOutcome profileOutcome
  rw [hslot, horigin, hstale]
  dsimp only
  rw [hby]
  exact congrArg (fun sh => setShadow id sh s) (doneShadow_named hnamed)

/-- Settles O29. -/
theorem referenceFollowsItsTransfer : Obligations.ReferenceFollowsItsTransfer := by
  unfold Obligations.ReferenceFollowsItsTransfer
  refine ⟨fun sh => ⟨fun w hw => reference_of_waiting hw, fun b hw hb => reference_of_onBus hw hb,
    fun v hw hb hv => (reference_of_written hw hb).trans hv, fun hw hb hv => (reference_of_written hw hb).trans hv⟩, ?_, ?_⟩
  · intro s t id v horigin hw u
    have hu : u = setShadow id { s.ce.shadows[id] with waiting := none, onBus := some ⟨t.id, v⟩ } { s with bm := u.bm } :=
      (grant_eq_of_profile horigin s).trans (grantRef_named hw)
    have hget (j : ProfileId) : u.ce.shadows[j]
        = if j = id then { s.ce.shadows[id] with waiting := none, onBus := some ⟨t.id, v⟩ } else s.ce.shadows[j] := by
      rw [hu]
      exact setShadow_get _ _ _ _
    have hbm : u.bm = { s.bm with
        queue := s.bm.queue.map (fun x => if x.id = t.id then { x with onBus := true } else x)
        starvation := u.bm.starvation
        speed := (activeSettings s).speed
        owedStop := false } := by
      rw [show u.bm = _ from grant_bm t s]
    refine ⟨(hget id).trans (if_pos rfl), (grant_shadow t s id).reference, fun j hj => (hget j).trans (if_neg hj), ?_⟩
    rw [← hbm]
    rw [hu]
    rfl
  · intro derate acks data s t slot id v hone hbus hidle hslot horigin hdir hstale hnamed hacks hwaiting
    refine ⟨_, exec_transactionEnd hbus hidle, ?_⟩
    have hout : transactionOutcome t (.complete acks data) = .done := transactionOutcome_write hdir hacks
    rw [endTransaction_final (by rw [hout]; exact BusOutcome.noConfusion) (.inl hout), hout]
    have hids := concluded_ids t (.complete acks data) (sampleDerate derate s)
    have hframe := concluded_eq t (.complete acks data) (sampleDerate derate s)
    generalize concluded t (.complete acks data) (sampleDerate derate s) = u at hids hframe ⊢
    have hce : u.ce = s.ce := by rw [hframe]; rfl
    have hdelivered : deliver (counted t) .done (deliveredBytes t (.complete acks data)) u
        = setShadow id { s.ce.shadows[id] with written := some v, onBus := none } u := by
      have hcls : (counted t).cls = .compensate := by
        change t.origin.cls = _
        rw [horigin]
        rfl
      unfold deliver
      rw [hcls]
      dsimp only
      rw [compensateOutcome_profileDone (t := counted t) hslot horigin hstale (by rw [hce]; exact hnamed), hce]
    rw [hdelivered]
    have hmoved := grantDecision_shadow (setShadow id { s.ce.shadows[id] with written := some v, onBus := none } u) id
    rw [setShadow_get, if_pos rfl] at hmoved
    refine ⟨hmoved.fields.2.1, fun hnone => ⟨?_, ?_⟩, fun w hw => ?_, grantDecision_ids hids, ?_, ?_, ?_, ?_, ?_⟩
    · rw [hmoved.eq_of_none hnone]
    · exact hmoved.reference.trans (reference_of_written hnone rfl)
    · exact hmoved.reference.trans (reference_of_waiting hw)
    · simp [hframe, departed_count hone (mem_onBusTransfer hbus).1]
    · simp [hframe]
    · simp [hframe]
    · simp [hframe]
    · simp [hframe]

end Sys2Proof.Machine
end

section
/-! What a transaction shows on SCL and SDA and how it ends (O38). -/

namespace Sys2Proof.Machine

/-! ### Bytes sent and received -/

theorem addressByte_write (addr : Byte) : addressByte addr .write = addr <<< 1 := by simp [addressByte]

theorem ackAt_of_some {acks : List Bool} {n : Nat} {b : Bool} (h : acks[n]? = some b) : ackAt acks n = b := by
  simp [ackAt, List.getD_eq_getElem?_getD, h]

theorem sentBytes_all {acks : List Bool} {bs : List Byte} {n : Nat} (h : ∀ i, i < bs.length → acks[n + i]? = some true) :
    sentBytes acks n bs = bs.map fun b => .sent b true := by
  induction bs generalizing n with
  | nil => rfl
  | cons b bs ih =>
    have hrest := ih (n := n + 1) fun i hi => by
      rw [Nat.add_assoc, Nat.add_comm 1 i]
      exact h (i + 1) (Nat.succ_lt_succ hi)
    rw [sentBytes, ackAt_of_some (n := n) (h 0 (Nat.succ_pos _)), hrest]
    rfl

theorem sentBytes_refused {acks : List Bool} {before : List Byte} {b : Byte} {after : List Byte} {n : Nat}
    (h : ∀ i, i < before.length → acks[n + i]? = some true) (hb : acks[n + before.length]? = some false) :
    sentBytes acks n (before ++ b :: after) = before.map (fun b => .sent b true) ++ [.sent b false] := by
  induction before generalizing n with
  | nil =>
    rw [List.nil_append, sentBytes, ackAt_of_some (n := n) hb]
    rfl
  | cons a before ih =>
    have hrest := ih (n := n + 1) (fun i hi => by
      rw [Nat.add_assoc, Nat.add_comm 1 i]
      exact h (i + 1) (Nat.succ_lt_succ hi)) (by
      rw [Nat.add_assoc, Nat.add_comm 1]
      exact hb)
    rw [List.cons_append, sentBytes, ackAt_of_some (n := n) (h 0 (Nat.succ_pos _)), hrest]
    rfl

theorem receivedItems_concat (bs : List Byte) (b : Byte) :
    receivedItems (bs ++ [b]) = bs.map (fun b => .received b true) ++ [.received b false] := by
  induction bs with
  | nil => rfl
  | cons a bs ih =>
    cases bs with
    | nil => rfl
    | cons a' bs => exact congrArg (WireItem.received a true :: ·) ih

theorem receivedItems_receivedBytes (data : List Byte) (n : Nat) : receivedItems (receivedBytes data (n + 1))
    = (List.range n).map (fun i => .received (data.getD i 0xFF) true) ++ [.received (data.getD n 0xFF) false] := by
  rw [receivedBytes, List.range_succ, List.map_append, List.map_singleton, receivedItems_concat, List.map_map]
  rfl

/-! ### Outcomes -/

theorem firstRefusal_eq_some {acks : List Bool} {count k : Nat} (hk : k < count) (h : ∀ n, n < k → acks[n]? = some true)
    (hrefused : acks[k]? = some false) : firstRefusal acks count = some k := by
  unfold firstRefusal
  rw [List.find?_range_eq_some]
  refine ⟨by rw [ackAt_of_some hrefused]; rfl, List.mem_range.2 hk, fun n hn => ?_⟩
  rw [ackAt_of_some (h n hn)]
  rfl

theorem stopCond_not_mem_sentBytes (acks : List Bool) (n : Nat) (bs : List Byte) : .stopCond ∉ sentBytes acks n bs := by
  induction bs generalizing n with
  | nil => exact List.not_mem_nil
  | cons b bs ih =>
    unfold sentBytes
    split
    · simpa using ih (n + 1)
    · simp

theorem stopCond_not_mem_receivedItems (bs : List Byte) : .stopCond ∉ receivedItems bs := by
  induction bs with
  | nil => exact List.not_mem_nil
  | cons b bs ih =>
    cases bs with
    | nil => simp [receivedItems]
    | cons b' bs => simpa [receivedItems] using ih

/-- A complete transaction ends with its only STOP. -/
theorem completeWire_eq_concat (t : Transfer) (acks : List Bool) (data : List Byte) :
    ∃ w, completeWire t acks data = w ++ [.stopCond] ∧ .stopCond ∉ w := by
  unfold completeWire
  dsimp only
  have hsent : ∀ bs, .stopCond ∉ sentBytes acks 0 bs := stopCond_not_mem_sentBytes acks 0
  split
  · exact ⟨.startCond :: sentBytes acks 0 _, rfl, by simpa using hsent _⟩
  · have hreceived := stopCond_not_mem_receivedItems (receivedBytes data t.readLen)
    split
    · split
      · refine ⟨.startCond :: (sentBytes acks 0 [addressByte t.addr .write, t.reg]
          ++ .startCond :: .sent (addressByte t.addr .read) true :: receivedItems (receivedBytes data t.readLen)), ?_, ?_⟩
        · simp
        · simpa using ⟨hsent _, hreceived⟩
      · refine ⟨.startCond :: (sentBytes acks 0 [addressByte t.addr .write, t.reg]
          ++ [.startCond, .sent (addressByte t.addr .read) false]), ?_, ?_⟩
        · simp
        · simpa using hsent _
    · exact ⟨.startCond :: sentBytes acks 0 _, rfl, by simpa using hsent _⟩

theorem heldWire_spec (t : Transfer) (n : Nat) (acks : List Bool) (data : List Byte) :
    transactionWire t (.clockHeld n acks data) <+: transactionWire t (.complete acks data)
      ∧ (transactionWire t (.clockHeld n acks data)).length = min n ((transactionWire t (.complete acks data)).length - 1)
      ∧ .stopCond ∉ transactionWire t (.clockHeld n acks data) := by
  obtain ⟨w, hw, hstop⟩ := completeWire_eq_concat t acks data
  simp only [transactionWire, hw, List.dropLast_concat]
  exact ⟨(List.take_prefix n w).trans (List.prefix_append w _), by simp, fun h => hstop (List.mem_of_mem_take h)⟩

theorem stopCond_not_mem_stuckWire (t : Transfer) (repeated : Bool) : .stopCond ∉ stuckWire t repeated := by
  unfold stuckWire
  split <;> simp

/-! ### Complete transactions -/

theorem completeWire_write {t : Transfer} (h : t.dir = .write) (acks : List Bool) (data : List Byte) :
    completeWire t acks data = .startCond :: (sentBytes acks 0 ((t.addr <<< 1) :: t.reg :: t.data) ++ [.stopCond]) := by
  rw [completeWire, h, addressByte_write]

theorem writeOutcome_refused {acks : List Bool} {count k : Nat} (hk : k < count + 2)
    (h : ∀ n, n < k → acks[n]? = some true) (hrefused : acks[k]? = some false) :
    writeOutcome acks count = if k = 0 then .nackAddress else .nackData := by
  rw [writeOutcome, firstRefusal_eq_some hk h hrefused]
  cases k <;> rfl

theorem readOutcome_refused {acks : List Bool} {k : Nat} (hk : k < 3)
    (h : ∀ n, n < k → acks[n]? = some true) (hrefused : acks[k]? = some false) :
    readOutcome acks = if k = 1 then .nackData else .nackAddress := by
  rw [readOutcome, firstRefusal_eq_some hk h hrefused]
  match k, hk with
  | 0, _ | 1, _ | 2, _ => rfl

/-- What a READ shows by the acknowledges of its address, register and second address byte. -/
theorem completeWire_read {t : Transfer} (h : t.dir = .read) {acks : List Bool} (data : List Byte) :
    completeWire t acks data = if ackAt acks 0 && ackAt acks 1 then
      .startCond :: (sentBytes acks 0 [t.addr <<< 1, t.reg] ++ .startCond :: (if ackAt acks 2 then
        .sent ((t.addr <<< 1) ||| 1) true :: (receivedItems (receivedBytes data t.readLen) ++ [.stopCond])
      else [.sent ((t.addr <<< 1) ||| 1) false, .stopCond]))
    else .startCond :: (sentBytes acks 0 [t.addr <<< 1, t.reg] ++ [.stopCond]) := by
  rw [completeWire, h, addressByte_write]
  rfl

theorem lt_one_acked {acks : List Bool} (h0 : acks[0]? = some true) : ∀ n, n < 1 → acks[n]? = some true
  | 0, _ => h0

theorem lt_two_acked {acks : List Bool} (h0 : acks[0]? = some true) (h1 : acks[1]? = some true) :
    ∀ n, n < 2 → acks[n]? = some true
  | 0, _ => h0
  | 1, _ => h1

theorem lt_three_acked {acks : List Bool} (h0 : acks[0]? = some true) (h1 : acks[1]? = some true)
    (h2 : acks[2]? = some true) : ∀ n, n < 3 → acks[n]? = some true
  | 0, _ => h0
  | 1, _ => h1
  | 2, _ => h2

/-- Settles O38: a WRITE and a READ by their first refused byte; a held clock shows a first part of the lines, whose STOP
is their last item. -/
theorem transactionsOnTheWire : Obligations.TransactionsOnTheWire := by
  unfold Obligations.TransactionsOnTheWire
  refine ⟨fun t acks data hdir => ?_, fun t acks data hdir => ?_, fun t n acks data repeated => ?_⟩
  · intro bytes
    have hwire : transactionWire t (.complete acks data) = .startCond :: (sentBytes acks 0 bytes ++ [.stopCond]) :=
      completeWire_write hdir acks data
    have hout : transactionOutcome t (.complete acks data) = writeOutcome acks t.data.length := by
      rw [transactionOutcome, hdir]
    refine ⟨fun hacks => ⟨?_, ?_⟩, fun k b before after hbytes hlen hacks hrefused => ⟨?_, ?_⟩⟩
    · rw [hout, writeOutcome_done hacks]
    · rw [hwire, sentBytes_all fun i hi => by simpa using hacks i hi]
    · have hk : k < t.data.length + 2 := by
        have hcount : t.data.length + 2 = bytes.length := rfl
        rw [hcount, hbytes, ← hlen]
        simp
      rw [hout, writeOutcome_refused hk hacks hrefused]
    · subst hlen
      rw [hwire, hbytes, sentBytes_refused (fun i hi => by simpa using hacks i hi) (by simpa using hrefused)]
      simp
  · intro toWrite toRead shows
    have hwire (acks) : transactionWire t (.complete acks data) = _ := completeWire_read hdir data
    have hout : transactionOutcome t (.complete acks data) = readOutcome acks := by
      rw [transactionOutcome, hdir]
    refine ⟨fun n hn h0 h1 h2 => ⟨?_, ?_⟩, fun h0 => ⟨?_, ?_⟩, fun h0 h1 => ⟨?_, ?_⟩, fun h0 h1 h2 => ⟨?_, ?_⟩⟩
    · rw [hout, readOutcome_done (lt_three_acked h0 h1 h2)]
    · simp [hwire, sentBytes, ackAt_of_some h0, ackAt_of_some h1, ackAt_of_some h2, hn, receivedItems_receivedBytes, toWrite,
        toRead]
    · rw [hout, readOutcome_refused (k := 0) (by decide) nofun h0]
      rfl
    · simp [hwire, sentBytes, ackAt_of_some h0, toWrite]
    · rw [hout, readOutcome_refused (k := 1) (by decide) (lt_one_acked h0) h1]
      rfl
    · simp [hwire, sentBytes, ackAt_of_some h0, ackAt_of_some h1, toWrite]
    · rw [hout, readOutcome_refused (k := 2) (by decide) (lt_two_acked h0 h1) h2]
      rfl
    · simp [hwire, sentBytes, ackAt_of_some h0, ackAt_of_some h1, ackAt_of_some h2, toWrite, toRead]
  · obtain ⟨hprefix, hlength, hstop⟩ := heldWire_spec t n acks data
    exact ⟨rfl, rfl, hprefix, hlength, hstop, stopCond_not_mem_stuckWire t repeated⟩

end Sys2Proof.Machine
end

section
/-! What the dispatch of a new request answers (R176 to R183): the state in which its body runs, and the reply with which
an immediate body ends. -/

namespace Sys2Proof.Machine

/-! ### The transmitter's choice with a reply queued -/

section
variable {s : State}

theorem txChoose_of_idle_notice {r : Reply} {rest : List Reply} (htx : s.hl.tx = none) (hr : s.hl.replies = r :: rest)
    (h : noticeEligible s.nu = true ∧ 4 ≤ s.hl.fairness) : txChoose s = sendNotice s := by
  simp [txChoose, htx, hr, h]

theorem txChoose_of_idle_reply {r : Reply} {rest : List Reply} (htx : s.hl.tx = none) (hr : s.hl.replies = r :: rest)
    (h : ¬ (noticeEligible s.nu = true ∧ 4 ≤ s.hl.fairness)) : txChoose s = sendReply r rest s := by
  simp [txChoose, htx, hr, h]

theorem txChoose_of_idle_empty (htx : s.hl.tx = none) (hr : s.hl.replies = []) :
    txChoose s = if noticeEligible s.nu then sendNotice s else s := by
  simp [txChoose, htx, hr]

/-- What the transmitter's choice leaves unchanged where no ended operation waits. -/
structure Chosen (s t : State) : Prop where
  offLink : OffLink s t
  freeDraws : t.freeDraws = s.freeDraws
  hrdy : t.pins.hrdy = s.pins.hrdy
  derate : t.pins.derate = s.pins.derate
  intake : t.hl.intake = s.hl.intake
  pend : t.hl.pend = s.hl.pend
  cache : t.hl.cache = s.hl.cache
  ended : t.hl.endedCount = s.hl.endedCount
  rx : t.hl.rx = s.hl.rx ∧ t.hl.gap = s.hl.gap
  overruns : t.hl.overruns = s.hl.overruns ∧ t.hl.startOverrun = s.hl.startOverrun
  busy : s.hl.tx.isSome = true → t = s
  replies : ∀ r ∈ s.hl.replies, r ∈ t.hl.replies ∨ t.hl.tx = some ⟨frameBytes kindReply r.tag r.payload, r.restart⟩

theorem Chosen.refl (s : State) : Chosen s s :=
  ⟨.refl s, rfl, rfl, rfl, rfl, rfl, rfl, rfl, ⟨rfl, rfl⟩, ⟨rfl, rfl⟩, fun _ => rfl, fun _ h => .inl h⟩

theorem chosen_sendNotice (htx : s.hl.tx = none) : Chosen s (sendNotice s) := by
  unfold sendNotice
  split
  · exact .refl s
  · exact ⟨by constructor <;> rfl, rfl, rfl, rfl, rfl, rfl, rfl, rfl, ⟨rfl, rfl⟩, ⟨rfl, rfl⟩, by simp [htx], fun _ h => .inl h⟩

theorem chosen_sendReply {r : Reply} {rest : List Reply} (htx : s.hl.tx = none) (hr : s.hl.replies = r :: rest)
    (hsettled : ∀ e ∈ s.hl.pend, e.ended = none) : Chosen s (sendReply r rest s) := by
  rw [sendReply, fillReplies_settled _ _ (by exact hsettled)]
  refine ⟨by constructor <;> rfl, rfl, rfl, rfl, rfl, rfl, rfl, rfl, ⟨rfl, rfl⟩, ⟨rfl, rfl⟩, by simp [htx], fun x hx => ?_⟩
  obtain rfl | hx := List.mem_cons.1 (hr ▸ hx)
  · exact .inr rfl
  · exact .inl hx

theorem chosen_txChoose (hsettled : ∀ e ∈ s.hl.pend, e.ended = none) : Chosen s (txChoose s) := by
  cases htx : s.hl.tx with
  | some tx =>
    rw [txChoose_busy s (by rw [htx]; rfl)]
    exact .refl s
  | none =>
    cases hr : s.hl.replies with
    | nil =>
      rw [txChoose_of_idle_empty htx hr]
      split
      · exact chosen_sendNotice htx
      · exact .refl s
    | cons r rest =>
      by_cases h : noticeEligible s.nu = true ∧ 4 ≤ s.hl.fairness
      · rw [txChoose_of_idle_notice htx hr h]
        exact chosen_sendNotice htx
      · rw [txChoose_of_idle_reply htx hr h]
        exact chosen_sendReply htx hr hsettled

/-! ### Replies -/

theorem Chosen.sameButLink {t : State} (h : Chosen s t) : SameButLink s t where
  pending := h.offLink.pending
  now := h.offLink.now
  freeDraws := h.freeDraws
  mu := h.offLink.mu
  ce := h.offLink.ce
  ctxs := h.offLink.ctxs
  bm := h.offLink.bm
  cs := h.offLink.cs
  oc := h.offLink.oc
  msgs := h.offLink.msgs
  derate := h.derate
  pend := h.pend
  ended := h.ended
  rx := h.rx
  overruns := h.overruns
  notices hbusy := by rw [h.busy hbusy]; exact ⟨rfl, rfl⟩

theorem SameButLink.trans {t u : State} (h : SameButLink s t) (htx : t.hl.tx = s.hl.tx) (h' : SameButLink t u) : SameButLink s u where
  pending := h'.pending.trans h.pending
  now := h'.now.trans h.now
  freeDraws := h'.freeDraws.trans h.freeDraws
  mu := h'.mu.trans h.mu
  ce := h'.ce.trans h.ce
  ctxs := h'.ctxs.trans h.ctxs
  bm := h'.bm.trans h.bm
  cs := h'.cs.trans h.cs
  oc := h'.oc.trans h.oc
  msgs := h'.msgs.trans h.msgs
  derate := h'.derate.trans h.derate
  pend := h'.pend.trans h.pend
  ended := h'.ended.trans h.ended
  rx := ⟨h'.rx.1.trans h.rx.1, h'.rx.2.trans h.rx.2⟩
  overruns := ⟨h'.overruns.1.trans h.overruns.1, h'.overruns.2.trans h.overruns.2⟩
  notices hbusy :=
    have hkept := h.notices hbusy
    have hkept' := h'.notices (by rw [htx]; exact hbusy)
    ⟨hkept'.1.trans hkept.1, hkept'.2.trans hkept.2⟩

/-- A reply pushed and cached stands in the queue, or goes out at once, and changes nothing but the link. -/
theorem answerNow_spec {tag : Byte} {code : Option Byte} {digest : Word16} {payload : List Byte} {restart : Bool}
    (hsettled : ∀ e ∈ s.hl.pend, e.ended = none) :
    (answerNow tag code digest payload restart s).hl.intake = s.hl.intake
      ∧ ReplyGiven tag payload restart (answerNow tag code digest payload restart s)
      ∧ ⟨tag, code, digest, payload⟩ ∈ (answerNow tag code digest payload restart s).hl.cache
      ∧ SameButLink s (answerNow tag code digest payload restart s) := by
  have hchosen := chosen_txChoose (s := cacheReply ⟨tag, code, digest, payload⟩ (pushReply ⟨tag, payload, restart⟩ s)) hsettled
  have hsame : SameButLink s (cacheReply ⟨tag, code, digest, payload⟩ (pushReply ⟨tag, payload, restart⟩ s)) :=
    ⟨rfl, rfl, rfl, rfl, rfl, rfl, rfl, rfl, rfl, rfl, rfl, rfl, rfl, ⟨rfl, rfl⟩, ⟨rfl, rfl⟩, fun _ => ⟨rfl, rfl⟩⟩
  refine ⟨hchosen.intake, hchosen.replies ⟨tag, payload, restart⟩ (by simp [cacheReply, pushReply]), ?_,
    hsame.trans rfl hchosen.sameButLink⟩
  rw [answerNow, hchosen.cache]
  simp [cacheReply]

theorem reply_spec {f : Frame} {r : Result} {content : List Byte} (hsettled : ∀ e ∈ s.hl.pend, e.ended = none) :
    Answered f (replyPayload f.code r content) s.hl.intake (reply f r content s) ∧ SameButLink s (reply f r content s) := by
  obtain ⟨hintake, hreply, hcache, hsame⟩ := answerNow_spec (tag := f.tag) (code := f.code) (digest := digestOf f.payload)
    (payload := replyPayload f.code r content) (restart := false) hsettled
  exact ⟨⟨hintake, hreply, hcache⟩, hsame⟩

end

/-! ### The dispatch of a new request -/

/-- The state in which the body of a new request runs: its frame has left the intake, and a cached reply under its TAG
the cache. -/
def taken (f : Frame) (rest : List Frame) (s : State) : State := evictTag f.tag (setIntake rest s)

section
variable {s : State} {f : Frame} {rest : List Frame}

theorem sameButLink_taken (f : Frame) (rest : List Frame) (s : State) : SameButLink s (taken f rest s) :=
  ⟨rfl, rfl, rfl, rfl, rfl, rfl, rfl, rfl, rfl, rfl, rfl, rfl, rfl, ⟨rfl, rfl⟩, ⟨rfl, rfl⟩, fun _ => ⟨rfl, rfl⟩⟩

theorem Asked.mayDispatch (h : Asked s f rest) : mayDispatch s = true := by
  have hroom : s.hl.replies.length < Config.replyPlaces := h.room
  simp [Machine.mayDispatch, hroom, h.running, h.noRestart]

theorem evictTag_of_absent {tag : Byte} (h : ∀ e ∈ s.hl.cache, e.tag ≠ tag) : evictTag tag s = s := by
  have hfilter : s.hl.cache.filter (fun e => e.tag != tag) = s.hl.cache := List.filter_eq_self.2 fun e he => by simpa using h e he
  rw [evictTag, hfilter]

theorem judgeTag_asked (h : Asked s f rest) (body : Frame → State → State) :
    judgeTag f body (setIntake rest s) = body f (taken f rest s) := by
  have hpend : (setIntake rest s).hl.pend.any (fun e => e.tag == f.tag) = false := by
    simpa using h.tagFree
  rw [judgeTag, hpend, if_neg Bool.false_ne_true]
  split
  · next e hfound =>
    have htag : e.tag = f.tag := by simpa using List.find?_some hfound
    rw [if_neg (h.notRepeat e (List.mem_of_find?_eq_some hfound) htag)]
    rfl
  · next hnone =>
    rw [taken, evictTag_of_absent]
    simpa using hnone

theorem dispatch_asked (h : Asked s f rest) {names : Option Byte → Bool} (hnames : names f.code = true)
    (body : Frame → State → State) : dispatch names body s = body f (taken f rest s) := by
  rw [dispatch, h.front]
  dsimp only
  rw [h.mayDispatch, hnames, Bool.true_and, if_pos rfl, judgeTag_asked h]

theorem exec_of_dispatch {c : Instr} {code : Byte} {body : Frame → State → State}
    (hexec : exec c s = .next (dispatch (named code) body s)) (h : Asked s f rest) (hcode : f.code = some code) :
    exec c s = .next (body f (taken f rest s)) := by
  rw [hexec, dispatch_asked h (by rw [hcode]; exact beq_self_eq_true _)]

/-- A body that ends with its reply in a state that differs from `after` on the link alone. -/
theorem answersWith_of {c : Instr} {r : Result} {content : List Byte} {u after : State}
    (hexec : exec c s = .next (reply f r content u)) (hsettled : ∀ e ∈ u.hl.pend, e.ended = none)
    (hintake : u.hl.intake = rest) (hsame : SameButLink after u) (htx : u.hl.tx = after.hl.tx) :
    AnswersWith c s f rest (replyPayload f.code r content) after := by
  obtain ⟨hanswered, hreply⟩ := reply_spec (f := f) (r := r) (content := content) hsettled
  exact ⟨_, hexec, hintake ▸ hanswered, hsame.trans htx hreply⟩

theorem answersWith_taken {c : Instr} {code : Byte} {r : Result} {content : List Byte} {after : State} (h : Asked s f rest)
    (hcode : f.code = some code) (hhl : after.hl = s.hl) (hexec : exec c s = .next (reply f r content (taken f rest after))) :
    AnswersWith c s f rest (code :: r.code :: content) after := by
  have hpayload : replyPayload f.code r content = code :: r.code :: content := by rw [replyPayload, hcode]; rfl
  rw [← hpayload]
  exact answersWith_of hexec (by rw [taken, evictTag, setIntake]; exact hhl ▸ h.settled) rfl (sameButLink_taken f rest after) rfl

theorem onlyAnswers_taken {c : Instr} {code : Byte} {r : Result} {content : List Byte} (h : Asked s f rest)
    (hcode : f.code = some code) (hexec : exec c s = .next (reply f r content (taken f rest s))) :
    OnlyAnswers c s f rest (code :: r.code :: content) := answersWith_taken h hcode rfl hexec

/-! ### Encoding and part state -/

theorem judged_none {α : Type} {parsed : Option α} {admitted : State → Bool} {body : α → Frame → State → State} {u : State}
    (h : parsed = none) : judged parsed admitted body f u = reply f .badArgument [] u := by rw [h]; rfl

theorem judged_some {α : Type} {parsed : Option α} {admitted : State → Bool} {body : α → Frame → State → State} {u : State} {a : α}
    (h : parsed = some a) (hadmitted : admitted u = true) : judged parsed admitted body f u = body a f u := by
  rw [h, judged, if_pos hadmitted]

theorem judged_refused {α : Type} {parsed : Option α} {admitted : State → Bool} {body : α → Frame → State → State} {u : State} {a : α}
    (h : parsed = some a) (hadmitted : admitted u = false) : judged parsed admitted body f u = refuseState f u := by
  rw [h, judged, if_neg (by rw [hadmitted]; exact Bool.false_ne_true)]

theorem afterStart_of_ne {u : State} (h : u.oc.part ≠ .start) : afterStart u = true := by simpa [afterStart] using h

theorem not_afterStart {u : State} (h : u.oc.part = .start) : afterStart u = false := by simp [afterStart, h]

end

end Sys2Proof.Machine
end

section
/-! The edit session opens and closes (O41). -/

namespace Sys2Proof.Machine

/-! ### Bytes of indices and objects -/

theorem byteOf_toNat {n : Nat} (h : n < 256) : (byteOf n).toNat = n := by
  rw [byteOf, BitVec.toNat_ofNat, Nat.mod_eq_of_lt h]

theorem byteOf_toNat_of_byte (b : Byte) : byteOf b.toNat = b := by
  rw [byteOf, BitVec.ofNat_toNat, BitVec.setWidth_eq]

theorem byteOf_slot (i : Slot) : (byteOf i.val).toNat = i.val := byteOf_toNat (by omega)

theorem byteOf_profile (i : ProfileId) : (byteOf i.val).toNat = i.val := byteOf_toNat (by omega)

theorem slotOf_byteOf (i : Slot) : slotOf (byteOf i.val) = some i := by
  simp only [slotOf, byteOf_slot, i.isLt, dif_pos]

theorem slotOf_eq_none {b : Byte} (h : 8 ≤ b.toNat) : slotOf b = none := dif_neg (Nat.not_lt.2 h)

theorem profileIdOf_byteOf (i : ProfileId) : profileIdOf (byteOf i.val) = some i := by
  simp only [profileIdOf, byteOf_profile, i.isLt, dif_pos]

theorem profileIdOf_eq_none {b : Byte} (h : 64 ≤ b.toNat) : profileIdOf b = none := dif_neg (Nat.not_lt.2 h)

theorem objOf_obj (obj : ObjId) : objOf (objKind obj) (objIdByte obj) = some obj := by
  cases obj with
  | settings => rfl
  | target i => simp [objOf, objKind, objIdByte, byteOf_slot]
  | image i => simp [objOf, objKind, objIdByte, byteOf_slot]
  | profile i => simp [objOf, objKind, objIdByte, byteOf_profile]

theorem openArgs_obj (obj : ObjId) : openArgs [objKind obj, objIdByte obj] = some (objKind obj, objIdByte obj) := by
  cases obj <;> rfl

/-- EDIT_OPEN's object is out of range where its kind is none of the four, or its id is not one of its kind's. -/
theorem objOf_eq_none {kind id : Byte} (h : (kind = 0 ∧ id ≠ 0) ∨ (kind = 3 ∧ 64 ≤ id.toNat)
    ∨ ((kind = 1 ∨ kind = 2) ∧ 8 ≤ id.toNat)) : objOf kind id = none := by
  obtain ⟨rfl, hid⟩ | ⟨rfl, hid⟩ | ⟨rfl | rfl, hid⟩ := h
  · exact if_neg hid
  · exact dif_neg (Nat.not_lt.2 hid)
  · exact dif_neg (Nat.not_lt.2 hid)
  · exact dif_neg (Nat.not_lt.2 hid)

/-! ### What EDIT_OPEN loads -/

theorem fillPositions_spec {α : Type} {capacity : Nat} (filler : Nat → α) {items : List α} (h : items.length ≤ capacity) :
    (fillPositions capacity filler items).length = capacity ∧ (fillPositions capacity filler items).take items.length = items := by
  constructor
  · simp [fillPositions]
    omega
  · simp [fillPositions, List.take_take, Nat.min_eq_left h]

section
variable {s : State}

theorem openBuffer_present {obj : ObjId} {c : BufferContent} (h : presentContent s obj = some c) :
    openBuffer s obj = ⟨obj, false, false, c⟩ := by rw [openBuffer, h]

theorem openBuffer_absent {obj : ObjId} (h : presentContent s obj = none) :
    openBuffer s obj = ⟨obj, true, false, defaultContent obj⟩ := by rw [openBuffer, h]

theorem openedFrom_openBuffer (s : State) (obj : ObjId) : OpenedFrom s obj (openBuffer s obj) := by
  cases obj with
  | settings => exact ⟨fun x hx => openBuffer_present (by rw [presentContent, hx]; rfl),
      fun h => openBuffer_absent (by rw [presentContent, h]; rfl)⟩
  | target i => exact ⟨fun r hr => openBuffer_present (by rw [presentContent, hr]; rfl),
      fun h => openBuffer_absent (by rw [presentContent, h]; rfl)⟩
  | image i => exact ⟨fun es hes hlen => ⟨_, openBuffer_present (by rw [presentContent, hes]; rfl), fillPositions_spec _ hlen⟩,
      fun h => openBuffer_absent (by rw [presentContent, h]; rfl)⟩
  | profile i => exact ⟨fun p hp hlen => ⟨_, openBuffer_present (by rw [presentContent, hp]; rfl), fillPositions_spec _ hlen⟩,
      fun h => openBuffer_absent (by rw [presentContent, h]; rfl)⟩

theorem generationShown_open (e : DirEntry) :
    GenerationShown e (optional 2 ((e.activeInfo.bind CopyInfo.gen).map (fun g => be16 g.toNat))) := by
  refine ⟨fun hnone => ?_, fun n g hactive hgen => ?_⟩
  · simp [DirEntry.activeInfo, hnone, optional]
  · have hinfo : e.activeInfo.bind CopyInfo.gen = some g := by rw [DirEntry.activeInfo, hactive]; exact hgen
    rw [hinfo]
    rfl

variable {f : Frame} {rest : List Frame}

/-! ### EDIT_OPEN -/

theorem exec_editOpen (h : Asked s f rest) (hcode : f.code = some 0x30) :
    exec .editOpen s = .next (judged (openArgs f.args) afterStart openEdit f (taken f rest s)) :=
  exec_of_dispatch (body := fun f s => judged (openArgs f.args) afterStart openEdit f s) rfl h hcode

theorem editOpen_loads (h : Asked s f rest) (hpart : s.oc.part ≠ .start) {obj : ObjId} (hcode : f.code = some 0x30)
    (hargs : f.args = [objKind obj, objIdByte obj]) (hclosed : s.cs.session = .closed) :
    exec .editOpen s = .next (reply f .ok (openContent s (openBuffer s obj)) (taken f rest (openSession obj s))) := by
  rw [exec_editOpen h hcode, hargs, judged_some (openArgs_obj obj) (afterStart_of_ne (by exact hpart)), openEdit]
  simp only [objOf_obj]
  rw [if_pos (by exact hclosed)]
  rfl

theorem editOpen_busy (h : Asked s f rest) (hpart : s.oc.part ≠ .start) {obj : ObjId} (hcode : f.code = some 0x30)
    (hargs : f.args = [objKind obj, objIdByte obj]) (hclosed : s.cs.session ≠ .closed) :
    exec .editOpen s = .next (reply f .busy [] (taken f rest s)) := by
  rw [exec_editOpen h hcode, hargs, judged_some (openArgs_obj obj) (afterStart_of_ne (by exact hpart)), openEdit]
  simp only [objOf_obj]
  rw [if_neg (by exact hclosed)]

theorem openArgs_kind {kind id : Byte} (h : kind.toNat ≤ 3) : openArgs [kind, id] = some (kind, id) := if_pos h

theorem editOpen_outOfRange (h : Asked s f rest) (hpart : s.oc.part ≠ .start) {kind id : Byte} (hcode : f.code = some 0x30)
    (hargs : f.args = [kind, id])
    (hrange : 3 < kind.toNat ∨ (kind = 0 ∧ id ≠ 0) ∨ (kind = 3 ∧ 64 ≤ id.toNat) ∨ ((kind = 1 ∨ kind = 2) ∧ 8 ≤ id.toNat)) :
    exec .editOpen s = .next (reply f .badArgument [] (taken f rest s)) := by
  rw [exec_editOpen h hcode, hargs]
  obtain hkind | hid := hrange
  · have hnone : openArgs [kind, id] = none := if_neg (Nat.not_le.2 hkind)
    rw [judged_none hnone]
  · have hkind : kind.toNat ≤ 3 := by
      obtain ⟨rfl, -⟩ | ⟨rfl, -⟩ | ⟨rfl | rfl, -⟩ := hid <;> decide
    rw [judged_some (openArgs_kind hkind) (afterStart_of_ne (by exact hpart)), openEdit]
    simp only [objOf_eq_none hid]

/-! ### EDIT_ABANDON -/

theorem exec_editAbandon (h : Asked s f rest) (hcode : f.code = some 0x38) :
    exec .editAbandon s = .next (judged (noArgs f.args) afterStart abandonEdit f (taken f rest s)) :=
  exec_of_dispatch (body := fun f s => judged (noArgs f.args) afterStart abandonEdit f s) rfl h hcode

theorem editAbandon_taken (h : Asked s f rest) (hpart : s.oc.part ≠ .start) (hcode : f.code = some 0x38)
    (hargs : f.args = []) : exec .editAbandon s = .next (abandonEdit () f (taken f rest s)) := by
  rw [exec_editAbandon h hcode, hargs, judged_some (a := ()) (parsed := noArgs []) rfl (afterStart_of_ne (by exact hpart))]

theorem abandonEdit_opened {u : State} (h : u.cs.session = .opened) : abandonEdit () f u = reply f .ok [] (closeSession u) := by
  rw [abandonEdit, h]

theorem abandonEdit_committing {u : State} (h : u.cs.session = .committing) : abandonEdit () f u = reply f .busy [] u := by
  rw [abandonEdit, h]

theorem abandonEdit_closed {u : State} (h : u.cs.session = .closed) : abandonEdit () f u = reply f .noEdit [] u := by
  rw [abandonEdit, h]

end

/-- Settles O41: EDIT_OPEN and EDIT_ABANDON by the session. -/
theorem editSessionOpensAndCloses : Obligations.EditSessionOpensAndCloses := by
  unfold Obligations.EditSessionOpensAndCloses
  refine fun s f rest h hpart => ⟨fun obj hcode hargs hclosed => ?_, fun obj hcode hargs hopen => ?_,
    fun kind id hcode hargs hrange => ?_, fun hcode hargs => ⟨fun hopen => ?_, fun hclosed => ?_, fun hcommit => ?_⟩⟩
  · have hobj : (openBuffer s obj).obj = obj := openBuffer_obj s obj
    refine ⟨openBuffer s obj, _, openedFrom_openBuffer s obj, generationShown_open _, ?_⟩
    have hanswer := answersWith_taken (after := openSession obj s) h hcode rfl (editOpen_loads h hpart hcode hargs hclosed)
    rw [openContent, hobj] at hanswer
    exact hanswer
  · exact onlyAnswers_taken h hcode (editOpen_busy h hpart hcode hargs hopen)
  · exact onlyAnswers_taken h hcode (editOpen_outOfRange h hpart hcode hargs hrange)
  · exact answersWith_taken (after := closeSession s) h hcode rfl
      ((editAbandon_taken h hpart hcode hargs).trans (congrArg _ (abandonEdit_opened hopen)))
  · exact onlyAnswers_taken h hcode ((editAbandon_taken h hpart hcode hargs).trans (congrArg _ (abandonEdit_closed hclosed)))
  · exact onlyAnswers_taken h hcode ((editAbandon_taken h hpart hcode hargs).trans (congrArg _ (abandonEdit_committing hcommit)))

end Sys2Proof.Machine
end

section
/-! The editing requests in each state of the session, and the lists, the count, the removal mark and EDIT_SHOW (O43). -/

namespace Sys2Proof.Machine

section
variable {s : State} {f : Frame} {rest : List Frame} {b : EditBuffer}

/-! ### The forms of an editing request -/

section
variable {α : Type} {c : Instr} {code : Byte} {parsed : Option α} {body : α → EditBuffer → Frame → State → State} {a : α}

theorem edit_badArgument (h : Asked s f rest) (hcode : f.code = some code)
    (hexec : exec c s = .next (editing parsed body f (taken f rest s))) (hparsed : parsed = none) :
    AnswersWith c s f rest [code, 0x02] (restartIfOpen s) := by
  have hrestart : restartIfOpen (taken f rest s) = taken f rest (restartIfOpen s) := by
    by_cases hopen : s.cs.session = .opened
    · exact (if_pos hopen).trans (by rw [restartIfOpen, if_pos hopen]; rfl)
    · exact (if_neg hopen).trans (by rw [restartIfOpen, if_neg hopen])
  have hhl : (restartIfOpen s).hl = s.hl := by unfold restartIfOpen; split <;> rfl
  refine answersWith_taken (r := .badArgument) h hcode hhl ?_
  rw [hexec, hparsed, ← hrestart]
  rfl

theorem edit_start (h : Asked s f rest) (hcode : f.code = some code)
    (hexec : exec c s = .next (editing parsed body f (taken f rest s))) (hparsed : parsed = some a) (hpart : s.oc.part = .start) :
    OnlyAnswers c s f rest [code, 0x05, 0x00] := by
  refine onlyAnswers_taken (r := .wrongState) h hcode ?_
  rw [hexec, hparsed, editing, if_pos (by exact hpart), refuseState]
  exact congrArg (fun x => Host.Outcome.next (reply f .wrongState [PartState.code x] (taken f rest s))) hpart

theorem edit_committing (h : Asked s f rest) (hcode : f.code = some code)
    (hexec : exec c s = .next (editing parsed body f (taken f rest s))) (hparsed : parsed = some a) (hpart : s.oc.part ≠ .start)
    (hsession : s.cs.session = .committing) : OnlyAnswers c s f rest [code, 0x03] := by
  refine onlyAnswers_taken (r := .busy) h hcode ?_
  have hsession' : (taken f rest s).cs.session = .committing := hsession
  rw [hexec, hparsed, editing, if_neg (by exact hpart), hsession']

theorem edit_closed (h : Asked s f rest) (hcode : f.code = some code)
    (hexec : exec c s = .next (editing parsed body f (taken f rest s))) (hparsed : parsed = some a) (hpart : s.oc.part ≠ .start)
    (hsession : s.cs.session = .closed) : OnlyAnswers c s f rest [code, 0x07] := by
  refine onlyAnswers_taken (r := .noEdit) h hcode ?_
  have hsession' : (taken f rest s).cs.session = .closed := hsession
  rw [hexec, hparsed, editing, if_neg (by exact hpart), hsession']

theorem exec_of_editing_opened (hexec : exec c s = .next (editing parsed body f (taken f rest s))) (hparsed : parsed = some a)
    (hpart : s.oc.part ≠ .start) (hsession : s.cs.session = .opened) (hb : s.cs.buffer = some b) :
    exec c s = .next (body a b f (taken f rest (startEditTimer s))) := by
  have hsession' : (taken f rest s).cs.session = .opened := hsession
  have hb' : (taken f rest s).cs.buffer = some b := hb
  rw [hexec, hparsed, editing, if_neg (by exact hpart), hsession', hb']
  rfl

/-- The part after an editing request taken in OPEN: its buffer as given, and the edit timer at 30 s. -/
def edited (b : EditBuffer) (s : State) : State :=
  { s with cs := { s.cs with buffer := some b, editTimer := some (s.now + 30000) } }

theorem edited_self (hb : s.cs.buffer = some b) : startEditTimer s = edited b s := by rw [edited, ← hb]; rfl

theorem edit_changed (h : Asked s f rest) (hcode : f.code = some code)
    (hexec : exec c s = .next (editing parsed body f (taken f rest s))) (hparsed : parsed = some a) (hpart : s.oc.part ≠ .start)
    (hsession : s.cs.session = .opened) (hb : s.cs.buffer = some b) {new : Option BufferContent}
    {content : BufferContent → List Byte} (hbody : ∀ u, body a b f u = changeBuffer b new content f u) {x : BufferContent}
    (hnew : new = some x) :
    AnswersWith c s f rest (code :: 0x00 :: content x) (edited { b with content := x, removal := false } s) := by
  refine answersWith_taken (r := .ok) h hcode rfl ?_
  rw [exec_of_editing_opened hexec hparsed hpart hsession hb, hbody, hnew]
  rfl

theorem edit_refused (h : Asked s f rest) (hcode : f.code = some code)
    (hexec : exec c s = .next (editing parsed body f (taken f rest s))) (hparsed : parsed = some a) (hpart : s.oc.part ≠ .start)
    (hsession : s.cs.session = .opened) (hb : s.cs.buffer = some b)
    (hbody : ∀ u, body a b f u = reply f .badArgument [] u) : AnswersWith c s f rest [code, 0x02] (edited b s) := by
  refine answersWith_taken (r := .badArgument) h hcode rfl ?_
  rw [exec_of_editing_opened hexec hparsed hpart hsession hb, hbody, edited_self hb]

theorem edit_unread (h : Asked s f rest) (hcode : f.code = some code)
    (hexec : exec c s = .next (editing parsed body f (taken f rest s))) (hparsed : parsed = none)
    (hsession : s.cs.session = .opened) (hb : s.cs.buffer = some b) : AnswersWith c s f rest [code, 0x02] (edited b s) := by
  have hanswer := edit_badArgument h hcode hexec hparsed
  rwa [restartIfOpen, if_pos hsession, edited_self hb] at hanswer

end

/-! ### Points and entries in bytes -/

theorem nat16_be16 {n : Nat} (h : n ≤ 65535) : nat16 (byteOf (n / 256)) (byteOf n) = n := by
  simp only [nat16, byteOf, BitVec.toNat_ofNat]
  omega

theorem be16_nat16 (hi lo : Byte) : be16 (nat16 hi lo) = [hi, lo] := by
  have hhi : byteOf (nat16 hi lo / 256) = hi := BitVec.eq_of_toNat_eq (by simp only [byteOf, nat16, BitVec.toNat_ofNat]; omega)
  have hlo : byteOf (nat16 hi lo) = lo := BitVec.eq_of_toNat_eq (by simp only [byteOf, nat16, BitVec.toNat_ofNat]; omega)
  rw [be16, hhi, hlo]

theorem int16_signed16 {t : Int} (hlo : -32768 ≤ t) (hhi : t ≤ 32767) :
    int16 (byteOf ((BitVec.ofInt 16 t).toNat / 256)) (byteOf (BitVec.ofInt 16 t).toNat) = t := by
  rw [int16, nat16_be16 (Nat.le_of_lt_succ (BitVec.ofInt 16 t).isLt), BitVec.ofNat_toNat, BitVec.setWidth_eq, BitVec.toInt_ofInt,
    Int.bmod_eq_of_le (by omega) (by omega)]

theorem pointsOf_points {items : List Point} (h : ∀ q ∈ items, -32768 ≤ q.temp ∧ q.temp ≤ 32767 ∧ q.value ≤ 65535) :
    pointsOf (items.flatMap pointBytes) = items := by
  induction items with
  | nil => rfl
  | cons q items ih =>
    obtain ⟨hlo, hhi, hvalue⟩ := h q List.mem_cons_self
    change (⟨int16 _ _, nat16 _ _⟩ : Point) :: pointsOf (items.flatMap pointBytes) = q :: items
    rw [ih fun x hx => h x (List.mem_cons_of_mem q hx), int16_signed16 hlo hhi, nat16_be16 hvalue]

theorem points_length (items : List Point) : (items.flatMap pointBytes).length = 4 * items.length := by
  induction items with
  | nil => rfl
  | cons q items ih =>
    have hq : (pointBytes q).length = 4 := rfl
    rw [List.flatMap_cons, List.length_append, ih, List.length_cons, hq]
    omega

theorem entries_length (items : List ImageEntry) : (items.flatMap entryBytes).length = 5 * items.length := by
  induction items with
  | nil => rfl
  | cons e items ih =>
    have he : (entryBytes e).length = 5 := rfl
    rw [List.flatMap_cons, List.length_append, ih, List.length_cons, he]
    omega

theorem widthOf_widthCode (w : Width) : widthOf (widthCode w) = some w := by cases w <;> rfl

theorem entryWidthsFit_entries (items : List ImageEntry) : entryWidthsFit (items.flatMap entryBytes) = true := by
  induction items with
  | nil => rfl
  | cons e items ih =>
    change ((widthOf (widthCode e.width)).isSome && entryWidthsFit (items.flatMap entryBytes)) = true
    rw [widthOf_widthCode, ih]
    rfl

theorem entriesOf_entries {items : List ImageEntry} (h : ∀ e ∈ items, e.value ≤ 65535 ∧ e.delay ≤ 255) :
    entriesOf (items.flatMap entryBytes) = items := by
  induction items with
  | nil => rfl
  | cons e items ih =>
    obtain ⟨hvalue, hdelay⟩ := h e List.mem_cons_self
    change (⟨e.reg, if widthCode e.width = 0 then .byte else .word, nat16 _ _, (byteOf e.delay).toNat⟩ : ImageEntry)
      :: entriesOf (items.flatMap entryBytes) = e :: items
    have hwidth : (if widthCode e.width = 0 then Width.byte else .word) = e.width := by cases e.width <;> rfl
    rw [ih fun x hx => h x (List.mem_cons_of_mem e hx), hwidth, nat16_be16 hvalue, byteOf_toNat (by omega)]

theorem pointsArgs_items {start : Byte} {items : List Point} (hpos : 1 ≤ items.length) (hmax : items.length ≤ 24)
    (h : ∀ q ∈ items, -32768 ≤ q.temp ∧ q.temp ≤ 32767 ∧ q.value ≤ 65535) :
    pointsArgs (start :: byteOf items.length :: items.flatMap pointBytes) = some (start.toNat, items) := by
  rw [pointsArgs, byteOf_toNat (by omega), if_pos ⟨hpos, hmax, points_length items⟩, pointsOf_points h]

theorem entriesArgs_items {start : Byte} {items : List ImageEntry} (hpos : 1 ≤ items.length) (hmax : items.length ≤ 32)
    (h : ∀ e ∈ items, e.value ≤ 65535 ∧ e.delay ≤ 255) :
    entriesArgs (start :: byteOf items.length :: items.flatMap entryBytes) = some (start.toNat, items) := by
  rw [entriesArgs, byteOf_toNat (by omega), if_pos ⟨hpos, hmax, entries_length items, entryWidthsFit_entries items⟩,
    entriesOf_entries h]

theorem pointsArgs_single (start : Byte) (p : Point) : ∃ a, pointsArgs (start :: 1 :: pointBytes p) = some a := by
  rw [pointsArgs, if_pos ⟨Nat.le_refl 1, by decide, rfl⟩]
  exact ⟨_, rfl⟩

theorem entriesArgs_single (start : Byte) (e : ImageEntry) : ∃ a, entriesArgs (start :: 1 :: entryBytes e) = some a := by
  have hwidths : entryWidthsFit (entryBytes e) = true := by simpa using entryWidthsFit_entries [e]
  rw [entriesArgs, if_pos ⟨Nat.le_refl 1, by decide, rfl, hwidths⟩]
  exact ⟨_, rfl⟩

theorem pointsArgs_eq_none {start n : Byte} {bytes : List Byte} (h : n = 0 ∨ 24 < n.toNat ∨ bytes.length ≠ 4 * n.toNat) :
    pointsArgs (start :: n :: bytes) = none := by
  refine if_neg fun ⟨hpos, hmax, hlen⟩ => ?_
  obtain rfl | hn | hbytes := h
  · exact absurd hpos (by decide)
  · exact absurd hmax (Nat.not_le.2 hn)
  · exact hbytes hlen

theorem entriesArgs_eq_none {start n : Byte} {bytes : List Byte} (h : n = 0 ∨ 32 < n.toNat ∨ bytes.length ≠ 5 * n.toNat) :
    entriesArgs (start :: n :: bytes) = none := by
  refine if_neg fun ⟨hpos, hmax, hlen, _⟩ => ?_
  obtain rfl | hn | hbytes := h
  · exact absurd hpos (by decide)
  · exact absurd hmax (Nat.not_le.2 hn)
  · exact hbytes hlen

/-! ### The executions -/

theorem exec_editPoints (h : Asked s f rest) (hcode : f.code = some 0x32) :
    exec .editPoints s = .next (editing (pointsArgs f.args) editPointsBody f (taken f rest s)) :=
  exec_of_dispatch (body := fun f s => editing (pointsArgs f.args) editPointsBody f s) rfl h hcode

theorem exec_editEntries (h : Asked s f rest) (hcode : f.code = some 0x33) :
    exec .editEntries s = .next (editing (entriesArgs f.args) editEntriesBody f (taken f rest s)) :=
  exec_of_dispatch (body := fun f s => editing (entriesArgs f.args) editEntriesBody f s) rfl h hcode

theorem exec_editCount (h : Asked s f rest) (hcode : f.code = some 0x34) :
    exec .editCount s = .next (editing (byteArg f.args) editCountBody f (taken f rest s)) :=
  exec_of_dispatch (body := fun f s => editing (byteArg f.args) editCountBody f s) rfl h hcode

theorem exec_editRemove (h : Asked s f rest) (hcode : f.code = some 0x35) :
    exec .editRemove s = .next (editing (noArgs f.args) editRemoveBody f (taken f rest s)) :=
  exec_of_dispatch (body := fun f s => editing (noArgs f.args) editRemoveBody f s) rfl h hcode

theorem exec_editShow (h : Asked s f rest) (hcode : f.code = some 0x36) (hargs : f.args = []) (hpart : s.oc.part ≠ .start) :
    exec .editShow s = .next (showEdit f (taken f rest s)) := by
  refine (exec_of_dispatch (body := fun f s => match noArgs f.args with
      | none => reply f .badArgument [] (restartIfOpen s)
      | some _ => if s.oc.part = .start then refuseState f s else showEdit f s) rfl h hcode).trans ?_
  rw [hargs]
  exact congrArg Host.Outcome.next (if_neg hpart)

theorem showEdit_opened {u : State} (hsession : u.cs.session = .opened) (hb : u.cs.buffer = some b) :
    showEdit f u = reply f .ok (showContent (startEditTimer u) b) (startEditTimer u) := by rw [showEdit, hsession, hb]

theorem showEdit_committing {u : State} (hsession : u.cs.session = .committing) (hb : u.cs.buffer = some b) :
    showEdit f u = reply f .ok (showContent u b) u := by rw [showEdit, hsession, hb]

theorem showEdit_closed {u : State} (hsession : u.cs.session = .closed) : showEdit f u = reply f .noEdit [] u := by
  rw [showEdit, hsession]

theorem showTail_opened (hsession : s.cs.session = .opened) : showTail (startEditTimer s) = [0x00, 0x00, 0x75, 0x30, 0x00, 0x00, 0x00] := by
  have hsession' : (startEditTimer s).cs.session = .opened := hsession
  have hleft : (startEditTimer s).cs.editTimer.getD (startEditTimer s).now - (startEditTimer s).now = 30000 := Nat.add_sub_cancel_left s.now 30000
  rw [showTail, hsession']
  dsimp only
  rw [hleft]
  decide

theorem showTail_committing {c : Commit} (hsession : s.cs.session = .committing) (hc : s.cs.commit = some c) :
    showTail s = [0x00, 0x00, 0x00, 0x00, copyCode c.copy] ++ be16 c.gen.toNat := by
  rw [showTail, hsession]
  dsimp only
  rw [hc]

end

/-! ### Bodies that refuse the buffer's kind or its capacity -/

theorem changeBuffer_none {b : EditBuffer} {f : Frame} {content : BufferContent → List Byte} {new : Option BufferContent}
    (h : new = none) (u : State) : changeBuffer b new content f u = reply f .badArgument [] u := by rw [h]; rfl

theorem putPoints_eq_none {start : Nat} {items : List Point} {c : BufferContent} (h : ∀ hd m ps, c ≠ .profile hd m ps) :
    putPoints start items c = none := by
  cases c with
  | profile hd m ps => exact absurd rfl (h hd m ps)
  | _ => rfl

theorem putEntries_eq_none {start : Nat} {items : List ImageEntry} {c : BufferContent} (h : ∀ m ps, c ≠ .image m ps) :
    putEntries start items c = none := by
  cases c with
  | image m ps => exact absurd rfl (h m ps)
  | _ => rfl

theorem putPoints_beyond {start : Nat} {items : List Point} (h : Config.pointPositions < start + items.length) (c : BufferContent) :
    putPoints start items c = none := by
  cases c with
  | profile hd m ps => exact if_neg (Nat.not_le.2 h)
  | _ => rfl

theorem putEntries_beyond {start : Nat} {items : List ImageEntry} (h : Config.entryPositions < start + items.length)
    (c : BufferContent) : putEntries start items c = none := by
  cases c with
  | image m ps => exact if_neg (Nat.not_le.2 h)
  | _ => rfl

section
variable {s : State} {f : Frame} {rest : List Frame} {b : EditBuffer}

theorem editPoints_refused (h : Asked s f rest) (hpart : s.oc.part ≠ .start) (hsession : s.cs.session = .opened)
    (hb : s.cs.buffer = some b) (hcode : f.code = some 0x32)
    (hrefused : pointsArgs f.args = none ∨ ∃ a, pointsArgs f.args = some a ∧ putPoints a.1 a.2 b.content = none) :
    AnswersWith .editPoints s f rest [0x32, 0x02] (edited b s) := by
  obtain hnone | ⟨a, ha, hput⟩ := hrefused
  · exact edit_unread h hcode (exec_editPoints h hcode) hnone hsession hb
  · exact edit_refused h hcode (exec_editPoints h hcode) ha hpart hsession hb fun u => changeBuffer_none hput u

theorem editEntries_refused (h : Asked s f rest) (hpart : s.oc.part ≠ .start) (hsession : s.cs.session = .opened)
    (hb : s.cs.buffer = some b) (hcode : f.code = some 0x33)
    (hrefused : entriesArgs f.args = none ∨ ∃ a, entriesArgs f.args = some a ∧ putEntries a.1 a.2 b.content = none) :
    AnswersWith .editEntries s f rest [0x33, 0x02] (edited b s) := by
  obtain hnone | ⟨a, ha, hput⟩ := hrefused
  · exact edit_unread h hcode (exec_editEntries h hcode) hnone hsession hb
  · exact edit_refused h hcode (exec_editEntries h hcode) ha hpart hsession hb fun u => changeBuffer_none hput u

/-- Arguments a list request cannot read, or a buffer without that list. -/
theorem unread_or {α β : Type} {parsed : Option α} {put : α → Option β} {p q : Prop} (hp : p → ∀ a, put a = none)
    (hq : q → parsed = none) (h : p ∨ q) : parsed = none ∨ ∃ a, parsed = some a ∧ put a = none := by
  cases hparsed : parsed with
  | none => exact .inl rfl
  | some a =>
    obtain hp' | hq' := h
    · exact .inr ⟨a, rfl, hp hp' a⟩
    · exact absurd (hparsed.symm.trans (hq hq')) nofun

theorem editCount_changed (h : Asked s f rest) (hpart : s.oc.part ≠ .start) (hsession : s.cs.session = .opened)
    (hb : s.cs.buffer = some b) {n : Byte} (hcode : f.code = some 0x34) (hargs : f.args = [n]) {x : BufferContent}
    (hx : setCount n.toNat b.content = some x) (hcount : byteOf x.count = n) :
    AnswersWith .editCount s f rest [0x34, 0x00, n, 0x00, 0x00] (edited { b with content := x, removal := false } s) := by
  have hanswer := edit_changed h hcode (exec_editCount h hcode) (a := n) (by rw [hargs]; rfl) hpart hsession hb (fun u => rfl) hx
  rw [listReply, hcount] at hanswer
  exact hanswer

theorem editCount_refused (h : Asked s f rest) (hpart : s.oc.part ≠ .start) (hsession : s.cs.session = .opened)
    (hb : s.cs.buffer = some b) {n : Byte} (hcode : f.code = some 0x34) (hargs : f.args = [n])
    (hx : setCount n.toNat b.content = none) : AnswersWith .editCount s f rest [0x34, 0x02] (edited b s) :=
  edit_refused h hcode (exec_editCount h hcode) (a := n) (by rw [hargs]; rfl) hpart hsession hb fun u => changeBuffer_none hx u

theorem editShow_opened (h : Asked s f rest) (hpart : s.oc.part ≠ .start) (hsession : s.cs.session = .opened)
    (hb : s.cs.buffer = some b) (hcode : f.code = some 0x36) (hargs : f.args = []) :
    AnswersWith .editShow s f rest ([0x36, 0x00, 0x01, objKind b.obj, objIdByte b.obj, flagByte b.isNew, flagByte b.removal]
      ++ b.content.shown ++ [0x00, 0x00, 0x75, 0x30, 0x00, 0x00, 0x00]) (edited b s) := by
  have hanswer := answersWith_taken (after := startEditTimer s) (r := .ok) h hcode rfl
    ((exec_editShow h hcode hargs hpart).trans (congrArg _ (showEdit_opened (by exact hsession) (by exact hb))))
  have hcontent : showContent (startEditTimer (taken f rest s)) b = [Session.code .opened, objKind b.obj, objIdByte b.obj,
      flagByte b.isNew, flagByte b.removal] ++ (b.content.shown ++ showTail (startEditTimer s)) :=
    congrArg (fun x => [Session.code x, objKind b.obj, objIdByte b.obj, flagByte b.isNew, flagByte b.removal]
      ++ (b.content.shown ++ showTail (startEditTimer s))) hsession
  rw [hcontent, showTail_opened hsession, edited_self hb] at hanswer
  simpa [Result.code, Session.code] using hanswer

theorem editShow_committing (h : Asked s f rest) (hpart : s.oc.part ≠ .start) (hsession : s.cs.session = .committing)
    (hb : s.cs.buffer = some b) {c : Commit} (hc : s.cs.commit = some c) (hcode : f.code = some 0x36) (hargs : f.args = []) :
    OnlyAnswers .editShow s f rest ([0x36, 0x00, 0x02, objKind b.obj, objIdByte b.obj, flagByte b.isNew, flagByte b.removal]
      ++ b.content.shown ++ [0x00, 0x00, 0x00, 0x00, copyCode c.copy] ++ be16 c.gen.toNat) := by
  have hanswer := onlyAnswers_taken (r := .ok) h hcode
    ((exec_editShow h hcode hargs hpart).trans (congrArg _ (showEdit_committing (by exact hsession) (by exact hb))))
  have hcontent : showContent (taken f rest s) b = [Session.code .committing, objKind b.obj, objIdByte b.obj,
      flagByte b.isNew, flagByte b.removal] ++ (b.content.shown ++ showTail s) :=
    congrArg (fun x => [Session.code x, objKind b.obj, objIdByte b.obj, flagByte b.isNew, flagByte b.removal]
      ++ (b.content.shown ++ showTail s)) hsession
  rw [hcontent, showTail_committing hsession hc] at hanswer
  simpa [Result.code, Session.code] using hanswer

end

/-- Settles O43: the lists, the count, the removal mark and EDIT_SHOW in each state of the session. -/
theorem editListsCountRemovalAndShow : Obligations.EditListsCountRemovalAndShow := by
  unfold Obligations.EditListsCountRemovalAndShow
  intro s f rest b h hpart shown
  have hshown : shown = b.content.shown := by
    cases hb : b.content <;> simp only [shown, hb] <;> rfl
  refine ⟨fun hsession hb => ?_, fun hsession hb => ?_, fun hsession _ => ?_⟩
  · refine ⟨fun hd n ps start items hcontent hcode hpos hmax hrange hargs => ?_, fun start n bytes hcode hargs hbad => ?_,
      fun start n bytes hcode hargs hbad => ?_, fun n ps start items hcontent hcode hpos hmax hrange hargs => ?_,
      fun n hcode hargs => ?_, fun hcode hargs => ?_, fun hcode hargs => ?_⟩
    · have hparsed : pointsArgs f.args = some (start.toNat, items) := by rw [hargs, pointsArgs_items hpos hmax hrange]
      refine ⟨fun hfits => ?_, fun hbeyond => editPoints_refused h hpart hsession hb hcode (.inr ⟨_, hparsed, putPoints_beyond hbeyond _⟩)⟩
      have hput : putPoints start.toNat items b.content = some (.profile hd n (writeItems start.toNat items ps)) := by
        rw [hcontent]
        exact if_pos hfits
      have hanswer := edit_changed h hcode (exec_editPoints h hcode) hparsed hpart hsession hb (fun u => rfl) hput
      rw [listReply, byteOf_toNat_of_byte] at hanswer
      exact hanswer
    · exact editPoints_refused h hpart hsession hb hcode (unread_or (fun hkind a => putPoints_eq_none hkind)
        (fun hform => by rw [hargs, pointsArgs_eq_none hform]) hbad)
    · exact editEntries_refused h hpart hsession hb hcode (unread_or (fun hkind a => putEntries_eq_none hkind)
        (fun hform => by rw [hargs, entriesArgs_eq_none hform]) hbad)
    · have hparsed : entriesArgs f.args = some (start.toNat, items) := by rw [hargs, entriesArgs_items hpos hmax hrange]
      refine ⟨fun hfits => ?_, fun hbeyond => editEntries_refused h hpart hsession hb hcode (.inr ⟨_, hparsed, putEntries_beyond hbeyond _⟩)⟩
      have hput : putEntries start.toNat items b.content = some (.image n (writeItems start.toNat items ps)) := by
        rw [hcontent]
        exact if_pos hfits
      have hanswer := edit_changed h hcode (exec_editEntries h hcode) hparsed hpart hsession hb (fun u => rfl) hput
      rw [listReply, byteOf_toNat_of_byte] at hanswer
      exact hanswer
    · have hcount := byteOf_toNat_of_byte n
      exact ⟨fun hd m ps hcontent => editCount_changed h hpart hsession hb hcode hargs (by rw [hcontent]; rfl) hcount,
        fun m ps hcontent => editCount_changed h hpart hsession hb hcode hargs (by rw [hcontent]; rfl) hcount,
        fun r hcontent => editCount_refused h hpart hsession hb hcode hargs (by rw [hcontent]; rfl),
        fun x hcontent => editCount_refused h hpart hsession hb hcode hargs (by rw [hcontent]; rfl)⟩
    · have hexec := exec_of_editing_opened (a := ()) (exec_editRemove h hcode) (by rw [hargs]; rfl) hpart hsession hb
      refine ⟨fun hobj => answersWith_taken (r := .ok) h hcode rfl ?_, fun hobj => answersWith_taken (r := .badArgument) h hcode rfl ?_⟩
      · rw [hexec, editRemoveBody, if_neg hobj]
        rfl
      · rw [hexec, editRemoveBody, if_pos hobj, edited_self hb]
        rfl
    · rw [hshown]
      exact editShow_opened h hpart hsession hb hcode hargs
  · refine ⟨fun c hcode hargs hc => ?_, fun start p hcode hargs => ?_, fun start e hcode hargs => ?_, fun n hcode hargs => ?_,
      fun hcode hargs => ?_⟩
    · rw [hshown]
      exact editShow_committing h hpart hsession hb hc hcode hargs
    · obtain ⟨a, ha⟩ := pointsArgs_single start p
      exact edit_committing h hcode (exec_editPoints h hcode) (hargs ▸ ha) hpart hsession
    · obtain ⟨a, ha⟩ := entriesArgs_single start e
      exact edit_committing h hcode (exec_editEntries h hcode) (hargs ▸ ha) hpart hsession
    · exact edit_committing h hcode (exec_editCount h hcode) (a := n) (by rw [hargs]; rfl) hpart hsession
    · exact edit_committing h hcode (exec_editRemove h hcode) (a := ()) (by rw [hargs]; rfl) hpart hsession
  · refine ⟨fun start p hcode hargs => ?_, fun start e hcode hargs => ?_, fun n hcode hargs => ?_, fun hcode hargs => ?_,
      fun hcode hargs => ?_⟩
    · obtain ⟨a, ha⟩ := pointsArgs_single start p
      exact edit_closed h hcode (exec_editPoints h hcode) (hargs ▸ ha) hpart hsession
    · obtain ⟨a, ha⟩ := entriesArgs_single start e
      exact edit_closed h hcode (exec_editEntries h hcode) (hargs ▸ ha) hpart hsession
    · exact edit_closed h hcode (exec_editCount h hcode) (a := n) (by rw [hargs]; rfl) hpart hsession
    · exact edit_closed h hcode (exec_editRemove h hcode) (a := ()) (by rw [hargs]; rfl) hpart hsession
    · exact onlyAnswers_taken h hcode ((exec_editShow h hcode hargs hpart).trans (congrArg _ (showEdit_closed (by exact hsession))))

end Sys2Proof.Machine
end

section
/-! EDIT_FIELD: the fields of each kind, their lengths and codes (O42). -/

namespace Sys2Proof.Machine

/-! ### The field tables -/

/-- The lengths of a kind's fields in the order of their numbers, from 1 on. -/
def fieldLengths : BufferContent → List Nat
  | .settings _ => [2, 1, 1, 1, 2, 2, 2, 2, 1, 1, 1, 1, 1]
  | .target _ => [1, 1, 3, 2, 2, 2, 2, 1]
  | .image _ _ => []
  | .profile _ _ _ => [1, 1, 1, 1, 1, 1, 1, 2, 2, 2, 2, 1]

theorem settingsForm_bytes : ∀ num : Byte, num ≠ 0 →
    (settingsForm num.toNat).map FieldForm.bytes = [2, 1, 1, 1, 2, 2, 2, 2, 1, 1, 1, 1, 1][num.toNat - 1]? := by decide

theorem targetForm_bytes : ∀ num : Byte, num ≠ 0 →
    (targetForm num.toNat).map FieldForm.bytes = [1, 1, 3, 2, 2, 2, 2, 1][num.toNat - 1]? := by decide

theorem profileForm_bytes : ∀ num : Byte, num ≠ 0 →
    (profileForm num.toNat).map FieldForm.bytes = [1, 1, 1, 1, 1, 1, 1, 2, 2, 2, 2, 1][num.toNat - 1]? := by decide

theorem fieldForm_bytes (c : BufferContent) {num : Byte} (h : num ≠ 0) :
    (fieldForm c num.toNat).map FieldForm.bytes = (fieldLengths c)[num.toNat - 1]? := by
  cases c with
  | settings x => exact settingsForm_bytes num h
  | target r => exact targetForm_bytes num h
  | image n ps => rfl
  | profile hd n ps => exact profileForm_bytes num h

theorem fieldForm_zero (c : BufferContent) : fieldForm c (0 : Byte).toNat = none := by cases c <;> rfl

theorem fieldForm_of_unlisted {c : BufferContent} {num : Byte} (h : num = 0 ∨ (fieldLengths c).length < num.toNat) :
    fieldForm c num.toNat = none := by
  by_cases hzero : num = 0
  · rw [hzero, fieldForm_zero]
  · have hlong := h.resolve_left hzero
    have hnone : (fieldLengths c)[num.toNat - 1]? = none := List.getElem?_eq_none (by omega)
    simpa [hnone] using fieldForm_bytes c hzero

theorem fieldForm_of_listed {c : BufferContent} {num : Byte} {n : Nat} (h : num ≠ 0 ∧ (fieldLengths c)[num.toNat - 1]? = some n) :
    ∃ form, fieldForm c num.toNat = some form ∧ form.bytes = n := by
  obtain ⟨hzero, hn⟩ := h
  have hmap := (fieldForm_bytes c hzero).trans hn
  simpa using hmap

theorem setProfileField_listed {hd x : ProfileHeader} {num : Nat} {bs : List Byte} (h : setProfileField hd num bs = some x) :
    (profileForm num).isSome = true := by
  unfold setProfileField at h
  split at h
  case h_13 => exact absurd h nofun
  all_goals rfl

theorem setTargetField_listed {r x : TargetRecord} {num : Nat} {bs : List Byte} (h : setTargetField r num bs = some x) :
    (targetForm num).isSome = true := by
  unfold setTargetField at h
  split at h
  case h_9 => exact absurd h nofun
  all_goals rfl

theorem setSettingsField_listed {x y : Settings} {num : Nat} {bs : List Byte} (h : setSettingsField x num bs = some y) :
    (settingsForm num).isSome = true := by
  unfold setSettingsField at h
  split at h
  case h_14 => exact absurd h nofun
  all_goals rfl

theorem setField_eq_none {c : BufferContent} {num : Nat} {bs : List Byte} (h : fieldForm c num = none) : setField c num bs = none := by
  rw [Option.eq_none_iff_forall_ne_some]
  intro x hx
  have hlisted : (fieldForm c num).isSome = true := by
    cases c with
    | settings y =>
      obtain ⟨z, hz, -⟩ := Option.map_eq_some_iff.1 hx
      exact setSettingsField_listed hz
    | target r =>
      obtain ⟨z, hz, -⟩ := Option.map_eq_some_iff.1 hx
      exact setTargetField_listed hz
    | image n ps => exact absurd hx nofun
    | profile hd n ps =>
      obtain ⟨z, hz, -⟩ := Option.map_eq_some_iff.1 hx
      exact setProfileField_listed hz
  rw [h] at hlisted
  exact absurd hlisted nofun

/-- The optional fields: a profile's start value, a target record's identity, marker, status and latch. -/
theorem clearField_eq_none {c : BufferContent} {num : Nat} (hprofile : (∃ hd n ps, c = .profile hd n ps) → num ≠ 0x0B)
    (htarget : (∃ r, c = .target r) → num ≠ 0x03 ∧ num ≠ 0x04 ∧ num ≠ 0x05 ∧ num ≠ 0x06) : clearField c num = none := by
  unfold clearField
  split
  · exact absurd rfl (hprofile ⟨_, _, _, rfl⟩)
  · exact absurd rfl (htarget ⟨_, rfl⟩).1
  · exact absurd rfl (htarget ⟨_, rfl⟩).2.1
  · exact absurd rfl (htarget ⟨_, rfl⟩).2.2.1
  · exact absurd rfl (htarget ⟨_, rfl⟩).2.2.2
  · rfl

theorem clearField_of_unlisted {c : BufferContent} {num : Nat} (h : fieldForm c num = none) : clearField c num = none := by
  refine clearField_eq_none ?_ ?_
  · rintro ⟨hd, n, ps, rfl⟩ rfl
    exact absurd h nofun
  · rintro ⟨r, rfl⟩
    refine ⟨?_, ?_, ?_, ?_⟩ <;> (rintro rfl; exact absurd h nofun)

/-! ### Codes that name nothing -/

theorem no_code {b : Byte} (h : 1 < b.toNat) : b ≠ 0 ∧ b ≠ 1 := by
  constructor <;> (rintro rfl; exact absurd h (by decide))

theorem codeOf_eq_none {α : Type} {b : Byte} (h : 1 < b.toNat) (x y : α) :
    (if b = 0 then some x else if b = 1 then some y else none) = none := by
  rw [if_neg (no_code h).1, if_neg (no_code h).2]

theorem yesNo_eq_none {b : Byte} (h : 1 < b.toNat) : yesNo b = none := codeOf_eq_none h _ _

theorem widthOf_eq_none {b : Byte} (h : 1 < b.toNat) : widthOf b = none := codeOf_eq_none h _ _

theorem orderOf_eq_none {b : Byte} (h : 1 < b.toNat) : orderOf b = none := codeOf_eq_none h _ _

theorem interpOf_eq_none {b : Byte} (h : 1 < b.toNat) : interpOf b = none := codeOf_eq_none h _ _

theorem derateModeOf_eq_none {b : Byte} (h : 1 < b.toNat) : derateModeOf b = none := codeOf_eq_none h _ _

theorem sourceOf_eq_none {b : Byte} (h : 1 < b.toNat) : sourceOf b = none := codeOf_eq_none h _ _

theorem speedOf_eq_none {b : Byte} (h : 1 < b.toNat) : speedOf b = none := codeOf_eq_none h _ _

theorem startModeOf_eq_none {b : Byte} (h : b = 0 ∨ 2 < b.toNat) : startModeOf b = none := by
  have hone : b ≠ 1 := by rintro rfl; exact absurd h (by decide)
  have htwo : b ≠ 2 := by rintro rfl; exact absurd h (by decide)
  rw [startModeOf, if_neg hone, if_neg htwo]

theorem int16_eq (hi lo : Byte) : int16 hi lo = (hi ++ lo).toInt := by
  rw [int16]
  congr 1
  refine BitVec.eq_of_toNat_eq ?_
  rw [BitVec.toNat_append, BitVec.toNat_ofNat, nat16, ← Nat.shiftLeft_add_eq_or_of_lt lo.isLt, Nat.shiftLeft_eq]
  omega

theorem signed16_int16 (hi lo : Byte) : signed16 (int16 hi lo) = [hi, lo] := by
  have hlt : nat16 hi lo < 2 ^ 16 := by
    simp only [nat16]
    omega
  rw [signed16, int16, BitVec.ofInt_toInt, BitVec.toNat_ofNat, Nat.mod_eq_of_lt hlt, be16_nat16]

/-! ### EDIT_FIELD in the forms of its arguments -/

/-- The change a field request asks for. -/
def fieldChange (c : BufferContent) : FieldArgs → Option BufferContent
  | .short => none
  | .set num bytes => setField c num.toNat bytes
  | .clear num => clearField c num.toNat

theorem editFieldBody_refused {b : EditBuffer} {a : FieldArgs} (h : fieldChange b.content a = none) (f : Frame) (u : State) :
    editFieldBody a b f u = reply f .badArgument [] u := by
  cases a with
  | short => rfl
  | set num bytes => exact changeBuffer_none h u
  | clear num => exact changeBuffer_none h u

/-- A field request names no change of a content: its arguments are not read, or the change is none. -/
def NoChange (c : BufferContent) (args : List Byte) : Prop :=
  fieldArgs (some c) args = none ∨ ∃ a, fieldArgs (some c) args = some a ∧ fieldChange c a = none

section
variable {c : BufferContent} {num op : Byte} {bytes : List Byte}

theorem fieldArgs_set {buffer : Option BufferContent} (h : fieldLengthFits buffer num true bytes = true) :
    fieldArgs buffer (num :: 0x01 :: bytes) = some (.set num bytes) := by rw [fieldArgs, if_pos rfl, if_pos h]

theorem fieldArgs_clear {buffer : Option BufferContent} (h : fieldLengthFits buffer num false bytes = true) :
    fieldArgs buffer (num :: 0x00 :: bytes) = some (.clear num) := by
  rw [fieldArgs, if_neg (by decide), if_pos rfl, if_pos h]

theorem fieldArgs_set_none {buffer : Option BufferContent} (h : fieldLengthFits buffer num true bytes = false) :
    fieldArgs buffer (num :: 0x01 :: bytes) = none := by
  rw [fieldArgs, if_pos rfl, if_neg (by rw [h]; exact Bool.false_ne_true)]

theorem fieldArgs_clear_none {buffer : Option BufferContent} (h : fieldLengthFits buffer num false bytes = false) :
    fieldArgs buffer (num :: 0x00 :: bytes) = none := by
  rw [fieldArgs, if_neg (by decide), if_pos rfl, if_neg (by rw [h]; exact Bool.false_ne_true)]

theorem fieldArgs_op_none {buffer : Option BufferContent} (h : 1 < op.toNat) : fieldArgs buffer (num :: op :: bytes) = none := by
  rw [fieldArgs, if_neg (no_code h).2, if_neg (no_code h).1]

theorem fieldLengthFits_unlisted {set : Bool} (h : fieldForm c num.toNat = none) : fieldLengthFits (some c) num set bytes = true := by
  simp [fieldLengthFits, h]

theorem fieldLengthFits_set {form : FieldForm} (h : fieldForm c num.toNat = some form) :
    fieldLengthFits (some c) num true bytes = (bytes.length == form.bytes && fieldByteFits form bytes) := by
  simp [fieldLengthFits, h]

theorem fieldLengthFits_clear {form : FieldForm} (h : fieldForm c num.toNat = some form) :
    fieldLengthFits (some c) num false bytes = bytes.isEmpty := by
  simp [fieldLengthFits, h]

theorem op_cases {b : Byte} (h : b.toNat ≤ 1) : b = 0 ∨ b = 1 := by
  have heq : b.toNat = 0 ∨ b.toNat = 1 := by omega
  exact heq.imp (fun h => BitVec.eq_of_toNat_eq h) (fun h => BitVec.eq_of_toNat_eq h)

theorem noChange_set (h : setField c num.toNat bytes = none) : NoChange c (num :: 0x01 :: bytes) := by
  cases hfits : fieldLengthFits (some c) num true bytes with
  | true => exact .inr ⟨_, fieldArgs_set hfits, h⟩
  | false => exact .inl (fieldArgs_set_none hfits)

theorem noChange_clear (h : clearField c num.toNat = none) : NoChange c (num :: 0x00 :: bytes) := by
  cases hfits : fieldLengthFits (some c) num false bytes with
  | true => exact .inr ⟨_, fieldArgs_clear hfits, h⟩
  | false => exact .inl (fieldArgs_clear_none hfits)

theorem noChange_op (h : 1 < op.toNat) : NoChange c (num :: op :: bytes) := .inl (fieldArgs_op_none h)

theorem noChange_unlisted (h : fieldForm c num.toNat = none) : NoChange c (num :: op :: bytes) := by
  by_cases hop : 1 < op.toNat
  · exact noChange_op hop
  · obtain rfl | rfl := op_cases (Nat.not_lt.1 hop)
    · exact noChange_clear (clearField_of_unlisted h)
    · exact noChange_set (setField_eq_none h)

theorem fieldArgs_length_none {form : FieldForm} (h : fieldForm c num.toNat = some form) (hlen : bytes.length ≠ form.bytes) :
    fieldArgs (some c) (num :: 0x01 :: bytes) = none := by
  refine fieldArgs_set_none ?_
  rw [fieldLengthFits_set h, beq_eq_false_iff_ne.2 hlen, Bool.false_and]

theorem noChange_trailing (h : bytes ≠ []) : NoChange c (num :: 0x00 :: bytes) := by
  cases hform : fieldForm c num.toNat with
  | none => exact noChange_unlisted hform
  | some form =>
    refine .inl (fieldArgs_clear_none ?_)
    rw [fieldLengthFits_clear hform]
    simpa using h

theorem noChange_short {args : List Byte} (h : args.length < 2) : NoChange c args := by
  match args, h with
  | [], _ => exact .inl rfl
  | [num], _ =>
    cases hform : fieldForm c num.toNat with
    | none =>
      refine .inr ⟨.short, ?_, rfl⟩
      simp [fieldArgs, shortJudged, hform]
    | some form =>
      refine .inl ?_
      simp [fieldArgs, shortJudged, hform]
  | _ :: _ :: _, h => exact absurd h (by simp)

theorem fieldArgs_noBuffer {args : List Byte} (h : args.length < 2 ∨ ∃ num op bytes, op.toNat ≤ 1 ∧ args = num :: op :: bytes) :
    ∃ a, fieldArgs none args = some a := by
  obtain hlen | ⟨num, op, bytes, hop, rfl⟩ := h
  · match args, hlen with
    | [], _ => exact ⟨_, rfl⟩
    | [num], _ => exact ⟨_, rfl⟩
    | _ :: _ :: _, h => exact absurd h (by simp)
  · obtain rfl | rfl := op_cases hop
    · exact ⟨_, fieldArgs_clear rfl⟩
    · exact ⟨_, fieldArgs_set rfl⟩

end

/-! ### The executions -/

section
variable {s : State} {f : Frame} {rest : List Frame} {b : EditBuffer}

theorem exec_editField (h : Asked s f rest) (hcode : f.code = some 0x31) {buffer : Option EditBuffer} (hb : s.cs.buffer = buffer) :
    exec .editField s
      = .next (editing (fieldArgs (buffer.map EditBuffer.content) f.args) editFieldBody f (taken f rest s)) := by
  subst hb
  exact exec_of_dispatch (body := fun f s => editing (fieldArgs (s.cs.buffer.map EditBuffer.content) f.args) editFieldBody f s)
    rfl h hcode

theorem editField_changed (h : Asked s f rest) (hcode : f.code = some 0x31) (hpart : s.oc.part ≠ .start)
    (hsession : s.cs.session = .opened) (hb : s.cs.buffer = some b) {a : FieldArgs} {num : Byte} {x : BufferContent}
    {shown : List Byte} (hparsed : fieldArgs (some b.content) f.args = some a)
    (hbody : ∀ u, editFieldBody a b f u = changeBuffer b (some x) (fun c => num :: fieldBytes c num.toNat) f u)
    (hshown : fieldBytes x num.toNat = shown) :
    AnswersWith .editField s f rest (0x31 :: 0x00 :: num :: shown) (edited { b with content := x, removal := false } s) := by
  have hanswer := edit_changed h hcode (exec_editField h hcode hb) hparsed hpart hsession hb hbody rfl
  rw [hshown] at hanswer
  exact hanswer

theorem editField_sets (h : Asked s f rest) (hcode : f.code = some 0x31) (hpart : s.oc.part ≠ .start)
    (hsession : s.cs.session = .opened) (hb : s.cs.buffer = some b) {c : BufferContent} (hcontent : b.content = c) {num : Byte}
    {bytes shown : List Byte} {x : BufferContent} (hset : setField c num.toNat bytes = some x)
    (hfits : fieldLengthFits (some c) num true bytes = true) (hshown : fieldBytes x num.toNat = shown)
    (hargs : f.args = num :: 0x01 :: bytes) :
    AnswersWith .editField s f rest (0x31 :: 0x00 :: num :: shown) (edited { b with content := x, removal := false } s) := by
  refine editField_changed h hcode hpart hsession hb (a := .set num bytes) (by rw [hargs, hcontent, fieldArgs_set hfits])
    (fun u => ?_) hshown
  rw [← hset, ← hcontent]
  rfl

theorem editField_clears (h : Asked s f rest) (hcode : f.code = some 0x31) (hpart : s.oc.part ≠ .start)
    (hsession : s.cs.session = .opened) (hb : s.cs.buffer = some b) {c : BufferContent} (hcontent : b.content = c) {num : Byte}
    {shown : List Byte} {x : BufferContent} (hclear : clearField c num.toNat = some x)
    (hfits : fieldLengthFits (some c) num false [] = true) (hshown : fieldBytes x num.toNat = shown)
    (hargs : f.args = [num, 0x00]) :
    AnswersWith .editField s f rest (0x31 :: 0x00 :: num :: shown) (edited { b with content := x, removal := false } s) := by
  refine editField_changed h hcode hpart hsession hb (a := .clear num) (by rw [hargs, hcontent, fieldArgs_clear hfits])
    (fun u => ?_) hshown
  rw [← hclear, ← hcontent]
  rfl

theorem editField_refused (h : Asked s f rest) (hcode : f.code = some 0x31) (hpart : s.oc.part ≠ .start)
    (hsession : s.cs.session = .opened) (hb : s.cs.buffer = some b) {c : BufferContent} (hcontent : b.content = c)
    {args : List Byte} (hnone : NoChange c args) (hargs : f.args = args) :
    AnswersWith .editField s f rest [0x31, 0x02] { s with cs := { s.cs with editTimer := some (s.now + 30000) } } := by
  change AnswersWith .editField s f rest [0x31, 0x02] (startEditTimer s)
  rw [edited_self hb]
  subst hcontent hargs
  obtain hnone | ⟨a, ha, hchange⟩ := hnone
  · exact edit_unread h hcode (exec_editField h hcode hb) hnone hsession hb
  · exact edit_refused h hcode (exec_editField h hcode hb) ha hpart hsession hb fun u => editFieldBody_refused hchange f u

/-- A request judged outside OPEN whose arguments are not read. -/
theorem editField_unread (h : Asked s f rest) (hcode : f.code = some 0x31) (hsession : s.cs.session ≠ .opened)
    {buffer : Option EditBuffer} (hb : s.cs.buffer = buffer) (hparsed : fieldArgs (buffer.map EditBuffer.content) f.args = none) :
    OnlyAnswers .editField s f rest [0x31, 0x02] := by
  have hanswer := edit_badArgument h hcode (exec_editField h hcode hb) hparsed
  rwa [restartIfOpen, if_neg hsession] at hanswer

end

/-! ### The fields of each kind -/

theorem setField_profile_none {hd : ProfileHeader} {n : Nat} {ps : List Point} {num : Nat} {bs : List Byte}
    (h : setProfileField hd num bs = none) : setField (.profile hd n ps) num bs = none := by simp [setField, h]

theorem setField_target_none {r : TargetRecord} {num : Nat} {bs : List Byte} (h : setTargetField r num bs = none) :
    setField (.target r) num bs = none := by simp [setField, h]

theorem setField_settings_none {x : Settings} {num : Nat} {bs : List Byte} (h : setSettingsField x num bs = none) :
    setField (.settings x) num bs = none := by simp [setField, h]

/-- Settles O42: each field of each kind by its table row, and every form that names none. -/
theorem editFieldSetsOrClearsOneField : Obligations.EditFieldSetsOrClearsOneField := by
  unfold Obligations.EditFieldSetsOrClearsOneField
  intro s f rest b h hcode lengths lists listsNot
  have hlengths : lengths = fieldLengths b.content := by
    cases hb : b.content <;> simp only [lengths, hb] <;> rfl
  have hlists {num : Byte} {n : Nat} (hl : lists num n) : ∃ form, fieldForm b.content num.toNat = some form ∧ form.bytes = n :=
    fieldForm_of_listed (hlengths ▸ hl)
  have hlistsNot {num : Byte} (hl : listsNot num) : fieldForm b.content num.toNat = none := fieldForm_of_unlisted (hlengths ▸ hl)
  refine ⟨fun hpart hsession hb => ?_, fun hsession hb => ?_, fun hpart hsession hb => ?_⟩
  · intro taken sets clears refused noCode
    refine ⟨fun r hr => ?_, fun hd n ps hp => ?_, fun x hx => ?_, fun num op bytes hl hargs => ?_, fun num n bytes hl hlen hargs => ?_,
      fun num bytes hne hargs => ?_, fun num op bytes hop hargs => ?_, fun hlen => ?_⟩
    · have put {num bytes shown x} := editField_sets (num := num) (bytes := bytes) (shown := shown) (x := x) h hcode hpart hsession hb hr
      have clear {num shown x} := editField_clears (num := num) (shown := shown) (x := x) h hcode hpart hsession hb hr
      have refuse {args} := editField_refused (args := args) h hcode hpart hsession hb hr
      refine ⟨fun a => put rfl rfl rfl, put rfl rfl rfl, put rfl rfl rfl, fun x y z => put rfl rfl rfl, fun x y => put rfl rfl rfl,
        fun x y => put rfl rfl rfl, fun x y => put rfl rfl rfl, fun hi lo => put rfl rfl (be16_nat16 hi lo),
        fun n => put rfl rfl (congrArg (fun x => [x]) (byteOf_toNat_of_byte n)), clear rfl rfl rfl, clear rfl rfl rfl, clear rfl rfl rfl, clear rfl rfl rfl,
        fun num hnum => refuse (noChange_clear (clearField_eq_none nofun fun _ => ?_)),
        fun v hv => refuse (noChange_set (setField_target_none ?_))⟩
      · obtain rfl | rfl | rfl | rfl := hnum <;> decide
      · simp [setTargetField, yesNo_eq_none hv]
    · have put {num bytes shown x} := editField_sets (num := num) (bytes := bytes) (shown := shown) (x := x) h hcode hpart hsession hb hp
      have clear {num shown x} := editField_clears (num := num) (shown := shown) (x := x) h hcode hpart hsession hb hp
      have refuse {args} := editField_refused (args := args) h hcode hpart hsession hb hp
      have one (v : Byte) := congrArg (fun x => [x]) (byteOf_toNat_of_byte v)
      refine ⟨put rfl rfl rfl, put rfl rfl rfl, fun v => put rfl rfl (one v), fun v => put rfl rfl rfl, put rfl rfl rfl, put rfl rfl rfl,
        put rfl rfl rfl, put rfl rfl rfl, fun v => put rfl rfl (one v), put rfl rfl rfl, put rfl rfl rfl,
        fun hi lo => put rfl rfl (be16_nat16 hi lo), fun hi lo => put rfl rfl (be16_nat16 hi lo),
        fun hi lo => put rfl rfl (be16_nat16 hi lo), fun hi lo => put rfl rfl (congrArg (0x01 :: ·) (be16_nat16 hi lo)),
        put rfl rfl rfl, put rfl rfl rfl, clear rfl rfl rfl,
        fun num _ _ hne => refuse (noChange_clear (clearField_eq_none (fun _ heq => hne (BitVec.eq_of_toNat_eq heq)) nofun)),
        fun v hv => refuse (noChange_set (setField_profile_none ?_)), fun v hv => refuse (noChange_set (setField_profile_none ?_)),
        fun v hv => refuse (noChange_set (setField_profile_none ?_)), fun v hv => refuse (noChange_set (setField_profile_none ?_)),
        fun v hv => refuse (noChange_set (setField_profile_none ?_))⟩
      · simp [setProfileField, yesNo_eq_none hv]
      · simp [setProfileField, widthOf_eq_none hv]
      · simp [setProfileField, orderOf_eq_none hv]
      · simp [setProfileField, interpOf_eq_none hv]
      · simp [setProfileField, derateModeOf_eq_none hv]
    · have put {num bytes shown y} := editField_sets (num := num) (bytes := bytes) (shown := shown) (x := y) h hcode hpart hsession hb hx
      have refuse {args} := editField_refused (args := args) h hcode hpart hsession hb hx
      have one (v : Byte) := congrArg (fun x => [x]) (byteOf_toNat_of_byte v)
      refine ⟨fun hi lo => put rfl rfl (be16_nat16 hi lo), put rfl rfl rfl, put rfl rfl rfl, fun v => put rfl rfl (one v),
        fun v => put rfl rfl (one v), fun hi lo => put ?_ rfl (int16_eq hi lo ▸ signed16_int16 hi lo),
        fun hi lo => put ?_ rfl (int16_eq hi lo ▸ signed16_int16 hi lo),
        fun hi lo => put rfl rfl (be16_nat16 hi lo), fun hi lo => put rfl rfl (be16_nat16 hi lo), put rfl rfl rfl, put rfl rfl rfl,
        fun v => put rfl rfl (one v), fun v => put rfl rfl (one v), fun v => put rfl rfl (one v), put rfl rfl rfl, put rfl rfl rfl,
        fun num _ _ => refuse (noChange_clear (clearField_eq_none nofun nofun)),
        fun v hv => refuse (noChange_set (setField_settings_none ?_)), fun v hv => refuse (noChange_set (setField_settings_none ?_)),
        fun v hv => refuse (noChange_set (setField_settings_none ?_))⟩
      · rw [← int16_eq]
        rfl
      · rw [← int16_eq]
        rfl
      · simp [setSettingsField, sourceOf_eq_none hv]
      · simp [setSettingsField, speedOf_eq_none hv]
      · simp [setSettingsField, startModeOf_eq_none hv]
    · exact editField_refused h hcode hpart hsession hb rfl (noChange_unlisted (hlistsNot hl)) hargs
    · obtain ⟨form, hform, rfl⟩ := hlists hl
      exact editField_refused h hcode hpart hsession hb rfl (.inl (fieldArgs_length_none hform hlen)) hargs
    · exact editField_refused h hcode hpart hsession hb rfl (noChange_trailing hne) hargs
    · exact editField_refused h hcode hpart hsession hb rfl (noChange_op hop) hargs
    · exact editField_refused h hcode hpart hsession hb rfl (noChange_short hlen) rfl
  · refine ⟨fun num op bytes hop hargs => ?_, fun hread => ?_⟩
    · refine editField_unread h hcode (by rw [hsession]; nofun) hb ?_
      rw [hargs]
      exact fieldArgs_op_none hop
    · obtain ⟨a, ha⟩ := fieldArgs_noBuffer hread
      exact ⟨fun hpart => edit_start h hcode (exec_editField h hcode hb) ha hpart,
        fun hpart => edit_closed h hcode (exec_editField h hcode hb) ha hpart hsession⟩
  · have busy {a : FieldArgs} (ha : fieldArgs (some b.content) f.args = some a) : OnlyAnswers .editField s f rest [0x31, 0x03] :=
      edit_committing h hcode (exec_editField h hcode hb) ha hpart hsession
    refine ⟨fun num n hl hargs => ?_, fun num op bytes hl hop hargs => ?_, fun num n bytes hl hlen hargs => ?_⟩
    · obtain ⟨form, hform, -⟩ := hlists hl
      exact busy (by rw [hargs, fieldArgs_clear (fieldLengthFits_clear hform)])
    · have hform := hlistsNot hl
      obtain rfl | rfl := op_cases hop
      · exact busy (by rw [hargs, fieldArgs_clear (fieldLengthFits_unlisted hform)])
      · exact busy (by rw [hargs, fieldArgs_set (fieldLengthFits_unlisted hform)])
    · obtain ⟨form, hform, rfl⟩ := hlists hl
      refine editField_unread h hcode (by rw [hsession]; nofun) hb ?_
      rw [hargs]
      exact fieldArgs_length_none hform hlen

end Sys2Proof.Machine
end

section
/-! EDIT_COMMIT: the validation, and the programming that begins (O44). -/

namespace Sys2Proof.Machine

section
variable {s : State} {f : Frame} {rest : List Frame} {b : EditBuffer}

theorem exec_editCommit (h : Asked s f rest) (hcode : f.code = some 0x37) (hargs : f.args = []) (hpart : s.oc.part ≠ .start) :
    exec .editCommit s = .next (commitEdit () f (taken f rest s)) := by
  refine (exec_of_dispatch (body := fun f s => judged (noArgs f.args) afterStart commitEdit f s) rfl h hcode).trans ?_
  rw [hargs, judged_some (a := ()) (parsed := noArgs []) rfl (afterStart_of_ne (by exact hpart))]

theorem commitEdit_opened {u : State} (hsession : u.cs.session = .opened) (hb : u.cs.buffer = some b) :
    commitEdit () f u = commitOpen b f u := by rw [commitEdit, hsession, hb]

theorem commitEdit_committing {u : State} (hsession : u.cs.session = .committing) : commitEdit () f u = reply f .busy [] u := by
  rw [commitEdit, hsession]

theorem commitEdit_closed {u : State} (hsession : u.cs.session = .closed) : commitEdit () f u = reply f .noEdit [] u := by
  rw [commitEdit, hsession]

/-- A buffer that EDIT_COMMIT programs: the removal of a present object, or a content that passes validation. -/
def Commits (b : EditBuffer) (s : State) : Prop :=
  (b.removal = true ∧ (s.cs.dir.entry b.obj).present = true) ∨ (b.removal = false ∧ validate s b = none)

/-- Validation reads the store and its directory alone. -/
theorem validate_congr {s t : State} (hcs : t.cs = s.cs) (b : EditBuffer) : validate t b = validate s b := by
  have hprofile (id : ProfileId) : activeProfile t id = activeProfile s id := by rw [activeProfile, hcs]; rfl
  have hrecord (i : Slot) : activeRecord t i = activeRecord s i := by rw [activeRecord, hcs]; rfl
  unfold validate validateProfile validateTarget parameterRival addressRival
  simp only [hprofile, hrecord]

theorem commitOpen_of_commits (h : Commits b s) : commitOpen b f s = startCommit b f s := by
  unfold commitOpen
  obtain ⟨hremoval, hpresent⟩ | ⟨hkept, hvalid⟩ := h
  · rw [if_pos hremoval, if_pos hpresent]
  · rw [if_neg (by rw [hkept]; exact Bool.false_ne_true), hvalid]

theorem commitOpen_absent (hremoval : b.removal = true) (habsent : (s.cs.dir.entry b.obj).present = false) :
    commitOpen b f s = reply f .ok [0x00, 0x00, 0x00] (closeSession s) := by
  rw [commitOpen, if_pos hremoval, if_neg (by rw [habsent]; exact Bool.false_ne_true)]
  rfl

theorem commitOpen_invalid {c : CheckFailure} (hkept : b.removal = false) (hfails : validate s b = some c) :
    commitOpen b f s = reply f .invalid (c.code :: be16 c.detail) (startEditTimer s) := by
  rw [commitOpen, if_neg (by rw [hkept]; exact Bool.false_ne_true), hfails]

theorem startCommit_full (h : 4 ≤ s.hl.pend.length) : startCommit b f s = reply f .busy [] (startEditTimer s) := if_pos h

theorem startCommit_begins (h : s.hl.pend.length < 4) : startCommit b f s = beginCommit b (addPending f .commit s) :=
  if_neg (Nat.not_le.2 h)

theorem DirEntry.setInfo_info (e : DirEntry) (n : CopyName) (i : CopyInfo) : (e.setInfo n i).info n = i := by cases n <;> rfl

theorem beginCommit_entry (b : EditBuffer) (s : State) (obj : ObjId) : (beginCommit b s).cs.dir.entry obj
    = if obj = b.obj then (s.cs.dir.entry b.obj).setInfo (commitCopy (s.cs.dir.entry b.obj)) .programming else s.cs.dir.entry obj :=
  Directory.setEntry_entry ..

end

/-- Settles O44: EDIT_COMMIT in OPEN by the removal mark, validation and room in the pending table. -/
theorem editCommitValidatesThenPrograms : Obligations.EditCommitValidatesThenPrograms := by
  unfold Obligations.EditCommitValidatesThenPrograms
  intro s f rest h hcode hargs hpart
  have hexec := exec_editCommit h hcode hargs hpart
  refine ⟨fun hsession => onlyAnswers_taken (r := .noEdit) h hcode (hexec.trans (congrArg _ (commitEdit_closed (by exact hsession)))),
    fun hsession => onlyAnswers_taken (r := .busy) h hcode (hexec.trans (congrArg _ (commitEdit_committing (by exact hsession)))), ?_⟩
  intro b hsession hb e commits timed
  have hopened : exec .editCommit s = .next (commitOpen b f (taken f rest s)) :=
    hexec.trans (congrArg _ (commitEdit_opened (by exact hsession) (by exact hb)))
  have hvalidate : validate (taken f rest s) b = validate s b := validate_congr rfl b
  have hcommits (hc : commits) : commitOpen b f (taken f rest s) = startCommit b f (taken f rest s) := by
    refine commitOpen_of_commits ?_
    rw [Commits, hvalidate]
    exact hc
  refine ⟨fun hc hroom => ?_, fun hc hfull => ?_, fun hremoval habsent => ?_, fun c hkept hfails => ?_⟩
  · refine ⟨_, hopened.trans (congrArg _ ((hcommits hc).trans (startCommit_begins (by exact hroom)))), ?_⟩
    refine ⟨rfl, rfl, hb, rfl, ⟨_, rfl, rfl, commitCopy_not_active _, fun hnone => ?_, rfl, rfl, rfl, ?_, ?_⟩, ?_, ?_, ?_,
      rfl, rfl, rfl, rfl, rfl, rfl, rfl, rfl, rfl, rfl, rfl⟩
    · change commitCopy e = .a
      rw [commitCopy, hnone]
    · change s.now + commitTime b.obj b.removal = _
      unfold commitTime commitBlocks
      cases b.removal <;> cases b.obj <;> rfl
    · rw [beginCommit_entry, if_pos rfl]
      exact DirEntry.setInfo_info ..
    · exact fun obj => beginCommit_active ..
    · intro obj hne
      rw [beginCommit_entry, if_neg hne]
      rfl
    · change s.hl.pend ++ [⟨f.tag, f.code.getD 0, digestOf f.payload, .commit, none⟩] = _
      rw [hcode]
      rfl
  · exact answersWith_taken (after := startEditTimer s) (r := .busy) h hcode rfl
      (hopened.trans (congrArg _ ((hcommits hc).trans (startCommit_full (by exact hfull)))))
  · exact answersWith_taken (after := closeSession s) (r := .ok) h hcode rfl
      (hopened.trans (congrArg _ (commitOpen_absent hremoval (by exact habsent))))
  · exact answersWith_taken (after := startEditTimer s) (r := .invalid) h hcode rfl
      (hopened.trans (congrArg _ (commitOpen_invalid hkept (hvalidate.trans hfails))))

end Sys2Proof.Machine
end

section
/-! What validation lets through, and the code and detail of the first check that fails (O45). -/

namespace Sys2Proof.Machine

/-! ### Checks in order -/

theorem firstFailure_eq_none_iff {x : Option CheckFailure} {xs : List (Option CheckFailure)} :
    firstFailure (x :: xs) = none ↔ x = none ∧ firstFailure xs = none := by
  cases x <;> simp [firstFailure]

theorem firstFailure_passed {x : Option CheckFailure} (h : x = none) (xs : List (Option CheckFailure)) :
    firstFailure (x :: xs) = firstFailure xs := by rw [h]; rfl

theorem firstFailure_failed {x : Option CheckFailure} {e : CheckFailure} (h : x = some e) (xs : List (Option CheckFailure)) :
    firstFailure (x :: xs) = some e := by rw [h]; rfl

section
variable {c : Prop} [Decidable c] {code : Byte} {detail : Nat}

theorem failsWith_eq_none_iff : failsWith (decide c) code detail = none ↔ ¬ c := by
  by_cases hc : c <;> simp [failsWith, hc]

theorem failsWith_passed (h : ¬ c) : failsWith (decide c) code detail = none := failsWith_eq_none_iff.2 h

theorem failsWith_failed (h : c) : failsWith (decide c) code detail = some ⟨code, detail⟩ := by simp [failsWith, h]

end

theorem orderBreak_eq_none_iff {i : Nat} {ps : List Point} : orderBreak i ps = none ↔ ps.IsChain (fun p q => p.temp < q.temp) := by
  induction ps generalizing i with
  | nil => simp [orderBreak]
  | cons p ps ih =>
    cases ps with
    | nil => simp [orderBreak]
    | cons q ps =>
      rw [orderBreak, List.isChain_cons_cons, ← ih (i := i + 1)]
      split <;> simp_all

theorem orderBreak_at {i : Nat} {before : List Point} {p q : Point} {after : List Point}
    (h : (before ++ [p]).IsChain (fun p q => p.temp < q.temp)) (hbreak : q.temp ≤ p.temp) :
    orderBreak i (before ++ p :: q :: after) = some (i + before.length + 1) := by
  induction before generalizing i with
  | nil => simp [orderBreak, Int.not_lt.2 hbreak]
  | cons a before ih =>
    cases before with
    | nil =>
      have hlt : a.temp < p.temp := by simpa using h
      simp [orderBreak, hlt, Int.not_lt.2 hbreak]
    | cons a' before =>
      obtain ⟨hlt, hrest⟩ := List.isChain_cons_cons.1 h
      have hnext := ih (i := i + 1) hrest
      simp only [List.cons_append, orderBreak, hlt, if_true, List.length_cons] at hnext ⊢
      rw [hnext]
      exact congrArg some (by omega)

theorem firstIndex_eq_none_iff {α : Type} {p : α → Bool} {i : Nat} {xs : List α} : firstIndex p i xs = none ↔ ∀ x ∈ xs, p x = false := by
  induction xs generalizing i with
  | nil => simp [firstIndex]
  | cons x xs ih =>
    rw [firstIndex, List.forall_mem_cons, ← ih (i := i + 1)]
    split <;> simp_all

theorem firstIndex_at {α : Type} {p : α → Bool} {i : Nat} {before : List α} {x : α} {after : List α}
    (hbefore : ∀ y ∈ before, p y = false) (hx : p x = true) : firstIndex p i (before ++ x :: after) = some (i + before.length) := by
  induction before generalizing i with
  | nil => simp [firstIndex, hx]
  | cons y before ih =>
    obtain ⟨hy, hrest⟩ := List.forall_mem_cons.1 hbefore
    rw [List.cons_append, firstIndex, hy, if_neg Bool.false_ne_true, ih hrest, List.length_cons]
    exact congrArg some (by omega)

/-! ### The lowest of several rivals -/

theorem find?_finRange_eq_none {n : Nat} {p : Fin n → Bool} : (List.finRange n).find? p = none ↔ ∀ i, p i = false := by
  simp

theorem find?_finRange_eq_some {n : Nat} {p : Fin n → Bool} {j : Fin n} (hj : p j = true) (hlow : ∀ i, i < j → p i = false) :
    (List.finRange n).find? p = some j := by
  rw [List.find?_eq_some_iff_getElem]
  refine ⟨hj, j.val, by simp, by simp, fun i hi => ?_⟩
  simpa using hlow ⟨i, by omega⟩ hi

/-- Another present enabled profile with the same slot and parameter address. -/
def ParameterRival (s : State) (id : ProfileId) (h : ProfileHeader) (j : ProfileId) : Prop :=
  j ≠ id ∧ ∃ p, activeProfile s j = some p ∧ p.header.enabled = true ∧ p.header.slot = h.slot ∧ p.header.param = h.param

theorem parameterRival_test (s : State) (id : ProfileId) (h : ProfileHeader) (j : ProfileId) :
    (j != id && (match activeProfile s j with
      | some p => p.header.enabled && p.header.slot == h.slot && p.header.param == h.param
      | none => false)) = true ↔ ParameterRival s id h j := by
  unfold ParameterRival
  cases activeProfile s j <;> simp [and_assoc]

theorem parameterRival_eq_none {s : State} {id : ProfileId} {h : ProfileHeader} :
    parameterRival s id h = none ↔ ∀ j, ¬ ParameterRival s id h j := by
  unfold parameterRival
  rw [find?_finRange_eq_none]
  exact forall_congr' fun j => (Bool.not_eq_true _).to_iff.symm.trans (not_congr (parameterRival_test s id h j))

theorem parameterRival_eq_some {s : State} {id : ProfileId} {h : ProfileHeader} {j : ProfileId} (hj : ParameterRival s id h j)
    (hlow : ∀ i, i < j → ¬ ParameterRival s id h i) : parameterRival s id h = some j :=
  find?_finRange_eq_some ((parameterRival_test s id h j).2 hj)
    fun i hi => Bool.not_eq_true _ ▸ fun htest => hlow i hi ((parameterRival_test s id h i).1 htest)

/-- Another slot whose present record has the bus address. -/
def AddressRival (s : State) (slot : Slot) (addr : Byte) (j : Slot) : Prop :=
  j ≠ slot ∧ ∃ r, activeRecord s j = some r ∧ r.addr = addr

theorem addressRival_test (s : State) (slot : Slot) (addr : Byte) (j : Slot) :
    (j != slot && (match activeRecord s j with
      | some r => r.addr == addr
      | none => false)) = true ↔ AddressRival s slot addr j := by
  unfold AddressRival
  cases activeRecord s j <;> simp

theorem addressRival_eq_none {s : State} {slot : Slot} {addr : Byte} :
    addressRival s slot addr = none ↔ ∀ j, ¬ AddressRival s slot addr j := by
  unfold addressRival
  rw [find?_finRange_eq_none]
  exact forall_congr' fun j => (Bool.not_eq_true _).to_iff.symm.trans (not_congr (addressRival_test s slot addr j))

theorem addressRival_eq_some {s : State} {slot : Slot} {addr : Byte} {j : Slot} (hj : AddressRival s slot addr j)
    (hlow : ∀ i, i < j → ¬ AddressRival s slot addr i) : addressRival s slot addr = some j :=
  find?_finRange_eq_some ((addressRival_test s slot addr j).2 hj)
    fun i hi => Bool.not_eq_true _ ▸ fun htest => hlow i hi ((addressRival_test s slot addr i).1 htest)

/-! ### Profiles -/

theorem widthMax_eq (w : Width) : widthMax w = if w = .byte then 255 else 65535 := by cases w <;> rfl

section
variable {s : State} {id : ProfileId} {h : ProfileHeader} {n : Nat} {ps : List Point}

/-- The checks behind the order of the points. -/
def valueChecks (s : State) (id : ProfileId) (h : ProfileHeader) (ps : List Point) : List (Option CheckFailure) :=
  let m := widthMax h.width
  [(firstIndex (fun p => decide (m < p.value)) 0 ps).map (fun i => ⟨0x04, i⟩),
   failsWith (decide (m < h.lower)) 0x04 0x08,
   failsWith (decide (m < h.upper)) 0x04 0x09,
   failsWith (h.start.any (fun v => decide (m < v))) 0x04 0x0B,
   failsWith (decide (m < h.stepLimit)) 0x04 0x0A,
   failsWith (decide (h.upper < h.lower)) 0x05 0,
   if h.enabled then (parameterRival s id h).map (fun j => ⟨0x06, j.val⟩) else none]

theorem validateProfile_eq : validateProfile s id h n ps = firstFailure
    (failsWith (decide (7 < h.slot)) 0x01 0x02 :: failsWith (decide (15 < h.rank)) 0x01 0x06
      :: failsWith (decide (n < 2 ∨ 24 < n)) 0x02 n :: (orderBreak 0 (ps.take n)).map (fun i => ⟨0x03, i⟩)
      :: valueChecks s id h (ps.take n)) := rfl

theorem validateProfile_of_ranges (hslot : h.slot ≤ 7) (hrank : h.rank ≤ 15) : validateProfile s id h n ps = firstFailure
    (failsWith (decide (n < 2 ∨ 24 < n)) 0x02 n :: (orderBreak 0 (ps.take n)).map (fun i => ⟨0x03, i⟩)
      :: valueChecks s id h (ps.take n)) := by
  rw [validateProfile_eq, firstFailure_passed (failsWith_passed (Nat.not_lt.2 hslot)),
    firstFailure_passed (failsWith_passed (Nat.not_lt.2 hrank))]

theorem validateProfile_of_count (hslot : h.slot ≤ 7) (hrank : h.rank ≤ 15) (hmin : 2 ≤ n) (hmax : n ≤ 24) :
    validateProfile s id h n ps
      = firstFailure ((orderBreak 0 (ps.take n)).map (fun i => ⟨0x03, i⟩) :: valueChecks s id h (ps.take n)) := by
  rw [validateProfile_of_ranges hslot hrank, firstFailure_passed (failsWith_passed (by omega))]

theorem validateProfile_of_order (hslot : h.slot ≤ 7) (hrank : h.rank ≤ 15) (hmin : 2 ≤ n) (hmax : n ≤ 24)
    (horder : (ps.take n).IsChain (fun p q => p.temp < q.temp)) :
    validateProfile s id h n ps = firstFailure (valueChecks s id h (ps.take n)) := by
  rw [validateProfile_of_count hslot hrank hmin hmax, firstFailure_passed (by rw [orderBreak_eq_none_iff.2 horder]; rfl)]

theorem startCheck_none {m : Nat} : h.start.any (fun v => decide (m < v)) = false ↔ ∀ v, h.start = some v → v ≤ m := by
  cases h.start <;> simp

/-- The check of the start value. -/
theorem startFails_eq_none {m : Nat} : failsWith (h.start.any (fun v => decide (m < v))) 0x04 0x0B = none
    ↔ ∀ v, h.start = some v → v ≤ m := by
  rw [← startCheck_none]
  cases h.start.any (fun v => decide (m < v)) <;> simp [failsWith]

theorem pointValues_none {m : Nat} {qs : List Point} :
    firstIndex (fun p => decide (m < p.value)) 0 qs = none ↔ ∀ p ∈ qs, p.value ≤ m := by
  rw [firstIndex_eq_none_iff]
  simp

theorem rivalCheck_none : (if h.enabled then (parameterRival s id h).map (fun j => (⟨0x06, j.val⟩ : CheckFailure)) else none) = none
    ↔ (h.enabled = true → ∀ j, ¬ ParameterRival s id h j) := by
  rw [← parameterRival_eq_none]
  cases h.enabled <;> simp

end

theorem validateProfile_eq_none {s : State} {id : ProfileId} {h : ProfileHeader} {n : Nat} {ps : List Point} :
    validateProfile s id h n ps = none ↔ (h.slot ≤ 7 ∧ h.rank ≤ 15) ∧ (2 ≤ n ∧ n ≤ 24
      ∧ (ps.take n).IsChain (fun p q => p.temp < q.temp) ∧ (∀ p ∈ ps.take n, p.value ≤ widthMax h.width) ∧ h.lower ≤ widthMax h.width
      ∧ h.upper ≤ widthMax h.width ∧ (∀ v, h.start = some v → v ≤ widthMax h.width) ∧ h.stepLimit ≤ widthMax h.width)
      ∧ h.lower ≤ h.upper ∧ (h.enabled = true → ∀ j, ¬ ParameterRival s id h j) := by
  rw [validateProfile_eq]
  simp only [valueChecks, firstFailure_eq_none_iff, failsWith_eq_none_iff, startFails_eq_none, pointValues_none, rivalCheck_none,
    Option.map_eq_none_iff, orderBreak_eq_none_iff, not_or, Nat.not_lt, firstFailure, and_true, and_assoc]

/-- Every failing PROFILE check by the checks before it. -/
theorem validateProfile_fails (s : State) (id : ProfileId) (h : ProfileHeader) (n : Nat) (ps : List Point)
    (hslot : h.slot ≤ 7) (hrank : h.rank ≤ 15) (hmin : 2 ≤ n) (hmax : n ≤ 24)
    (horder : (ps.take n).IsChain (fun p q => p.temp < q.temp)) (hvalues : ∀ p ∈ ps.take n, p.value ≤ widthMax h.width) :
    (widthMax h.width < h.lower → validateProfile s id h n ps = some ⟨0x04, 0x08⟩)
    ∧ (h.lower ≤ widthMax h.width → widthMax h.width < h.upper → validateProfile s id h n ps = some ⟨0x04, 0x09⟩)
    ∧ (∀ x, h.lower ≤ widthMax h.width → h.upper ≤ widthMax h.width → h.start = some x → widthMax h.width < x →
        validateProfile s id h n ps = some ⟨0x04, 0x0B⟩)
    ∧ (h.lower ≤ widthMax h.width → h.upper ≤ widthMax h.width → (∀ v, h.start = some v → v ≤ widthMax h.width) →
        (widthMax h.width < h.stepLimit → validateProfile s id h n ps = some ⟨0x04, 0x0A⟩)
        ∧ (h.stepLimit ≤ widthMax h.width →
          (h.upper < h.lower → validateProfile s id h n ps = some ⟨0x05, 0⟩)
          ∧ ∀ j, h.lower ≤ h.upper → h.enabled = true → ParameterRival s id h j → (∀ i, i < j → ¬ ParameterRival s id h i) →
            validateProfile s id h n ps = some ⟨0x06, j.val⟩)) := by
  rw [validateProfile_of_order hslot hrank hmin hmax horder, valueChecks,
    firstFailure_passed (by rw [pointValues_none.2 hvalues]; rfl)]
  refine ⟨fun hlower => firstFailure_failed (failsWith_failed hlower) _, fun hlower hupper => ?_, fun x hlower hupper hx hstart => ?_,
    fun hlower hupper hstart => ⟨fun hstep => ?_, fun hstep => ⟨fun hspan => ?_, fun j hspan henabled hj hlow => ?_⟩⟩⟩
  · rw [firstFailure_passed (failsWith_passed (Nat.not_lt.2 hlower)), firstFailure_failed (failsWith_failed hupper)]
  · rw [firstFailure_passed (failsWith_passed (Nat.not_lt.2 hlower)), firstFailure_passed (failsWith_passed (Nat.not_lt.2 hupper)),
      firstFailure_failed]
    simp [failsWith, hx, hstart]
  · rw [firstFailure_passed (failsWith_passed (Nat.not_lt.2 hlower)), firstFailure_passed (failsWith_passed (Nat.not_lt.2 hupper)),
      firstFailure_passed (startFails_eq_none.2 hstart), firstFailure_failed (failsWith_failed hstep)]
  · rw [firstFailure_passed (failsWith_passed (Nat.not_lt.2 hlower)), firstFailure_passed (failsWith_passed (Nat.not_lt.2 hupper)),
      firstFailure_passed (startFails_eq_none.2 hstart), firstFailure_passed (failsWith_passed (Nat.not_lt.2 hstep)),
      firstFailure_failed (failsWith_failed hspan)]
  · rw [firstFailure_passed (failsWith_passed (Nat.not_lt.2 hlower)), firstFailure_passed (failsWith_passed (Nat.not_lt.2 hupper)),
      firstFailure_passed (startFails_eq_none.2 hstart), firstFailure_passed (failsWith_passed (Nat.not_lt.2 hstep)),
      firstFailure_passed (failsWith_passed (Nat.not_lt.2 hspan)), if_pos henabled, parameterRival_eq_some hj hlow]
    rfl

/-! ### Target records, images and settings -/

theorem validateTarget_eq_none {s : State} {slot : Slot} {r : TargetRecord} : validateTarget s slot r = none ↔
    (0x08 ≤ r.addr.toNat ∧ r.addr.toNat ≤ 0x77 ∧ r.checkPeriod ≤ 600 ∧ r.retryLimit ≤ 7) ∧ ∀ j, ¬ AddressRival s slot r.addr j := by
  simp only [validateTarget, firstFailure_eq_none_iff, failsWith_eq_none_iff, Option.map_eq_none_iff, addressRival_eq_none, not_or,
    Nat.not_lt, firstFailure, and_true, and_assoc]

theorem validateTarget_fails {s : State} {slot : Slot} {r : TargetRecord} (hmin : 0x08 ≤ r.addr.toNat) (hmax : r.addr.toNat ≤ 0x77) :
    (600 < r.checkPeriod → validateTarget s slot r = some ⟨0x01, 0x07⟩)
    ∧ (r.checkPeriod ≤ 600 → 7 < r.retryLimit → validateTarget s slot r = some ⟨0x01, 0x08⟩)
    ∧ (∀ j, r.checkPeriod ≤ 600 → r.retryLimit ≤ 7 → AddressRival s slot r.addr j → (∀ i, i < j → ¬ AddressRival s slot r.addr i) →
        validateTarget s slot r = some ⟨0x08, j.val⟩) := by
  have haddr : ¬ (r.addr.toNat < 0x08 ∨ 0x77 < r.addr.toNat) := by omega
  rw [validateTarget, firstFailure_passed (failsWith_passed haddr)]
  refine ⟨fun hperiod => firstFailure_failed (failsWith_failed hperiod) _, fun hperiod hretry => ?_, fun j hperiod hretry hj hlow => ?_⟩
  · rw [firstFailure_passed (failsWith_passed (Nat.not_lt.2 hperiod)), firstFailure_failed (failsWith_failed hretry)]
  · rw [firstFailure_passed (failsWith_passed (Nat.not_lt.2 hperiod)), firstFailure_passed (failsWith_passed (Nat.not_lt.2 hretry)),
      addressRival_eq_some hj hlow]
    rfl

theorem byteEntry_test {e : ImageEntry} : (e.width == .byte && decide (255 < e.value)) = false ↔ (e.width = .byte → e.value ≤ 255) := by
  cases e.width <;> simp

theorem validateImage_eq_none {n : Nat} {es : List ImageEntry} :
    validateImage n es = none ↔ n ≤ 32 ∧ ∀ e ∈ es.take n, e.width = .byte → e.value ≤ 255 := by
  simp only [validateImage, firstFailure_eq_none_iff, failsWith_eq_none_iff, Option.map_eq_none_iff, firstIndex_eq_none_iff,
    byteEntry_test, Nat.not_lt, firstFailure, and_true]

theorem validateImage_entry {n : Nat} {es before after : List ImageEntry} {e : ImageEntry} (hn : n ≤ 32)
    (hes : es.take n = before ++ e :: after) (hbefore : ∀ x ∈ before, x.width = .byte → x.value ≤ 255) (hwidth : e.width = .byte)
    (hvalue : 255 < e.value) : validateImage n es = some ⟨0x04, before.length⟩ := by
  rw [validateImage, firstFailure_passed (failsWith_passed (Nat.not_lt.2 hn)), hes,
    firstIndex_at (fun x hx => byteEntry_test.2 (hbefore x hx)) (by simp [hwidth, hvalue])]
  simp [firstFailure]

theorem validateSettings_eq_none {x : Settings} : validateSettings x = none ↔
    ((20 ≤ x.period ∧ x.period ≤ 1000 ∧ x.period % 10 = 0) ∧ x.k ≤ 4 ∧ x.h ≤ 64 ∧ 1 ≤ x.holdTime ∧ x.holdTime ≤ 60
      ∧ x.recoveryLimit ≤ 15 ∧ x.deratePin ≤ 2) ∧ x.low < x.high ∧ 2500 ≤ x.floor ∧ x.floor ≤ 5500 ∧ x.margin ≤ 500 := by
  simp only [validateSettings, firstFailure_eq_none_iff, failsWith_eq_none_iff, not_or, not_not, Nat.not_lt, Int.not_le, firstFailure,
    and_true, and_assoc, ne_eq]

theorem validateSettings_fails {x : Settings} (hmin : 20 ≤ x.period) (hmax : x.period ≤ 1000) (hten : x.period % 10 = 0) :
    (4 < x.k → validateSettings x = some ⟨0x01, 0x03⟩)
    ∧ (x.k ≤ 4 → 64 < x.h → validateSettings x = some ⟨0x01, 0x04⟩)
    ∧ (x.k ≤ 4 → x.h ≤ 64 → (x.holdTime < 1 ∨ 60 < x.holdTime → validateSettings x = some ⟨0x01, 0x0A⟩)
      ∧ (1 ≤ x.holdTime → x.holdTime ≤ 60 →
        (15 < x.recoveryLimit → validateSettings x = some ⟨0x01, 0x0B⟩)
        ∧ (x.recoveryLimit ≤ 15 → 2 < x.deratePin → validateSettings x = some ⟨0x01, 0x0C⟩)
        ∧ (x.recoveryLimit ≤ 15 → x.deratePin ≤ 2 →
          (x.high ≤ x.low → validateSettings x = some ⟨0x0A, 0⟩)
          ∧ (x.low < x.high → x.floor < 2500 ∨ 5500 < x.floor → validateSettings x = some ⟨0x0B, 0x07⟩)
          ∧ (x.low < x.high → 2500 ≤ x.floor → x.floor ≤ 5500 → 500 < x.margin → validateSettings x = some ⟨0x0B, 0x08⟩)))) := by
  have hperiod : ¬ (x.period < 20 ∨ 1000 < x.period ∨ x.period % 10 ≠ 0) := by omega
  rw [validateSettings, firstFailure_passed (failsWith_passed hperiod)]
  refine ⟨fun hk => firstFailure_failed (failsWith_failed hk) _, fun hk hh => ?_, fun hk hh => ?_⟩
  · rw [firstFailure_passed (failsWith_passed (Nat.not_lt.2 hk)), firstFailure_failed (failsWith_failed hh)]
  rw [firstFailure_passed (failsWith_passed (Nat.not_lt.2 hk)), firstFailure_passed (failsWith_passed (Nat.not_lt.2 hh))]
  refine ⟨fun hhold => firstFailure_failed (failsWith_failed hhold) _, fun hlo hhi => ?_⟩
  rw [firstFailure_passed (failsWith_passed (by omega))]
  refine ⟨fun hlimit => firstFailure_failed (failsWith_failed hlimit) _, fun hlimit hpin => ?_, fun hlimit hpin => ?_⟩
  · rw [firstFailure_passed (failsWith_passed (Nat.not_lt.2 hlimit)), firstFailure_failed (failsWith_failed hpin)]
  rw [firstFailure_passed (failsWith_passed (Nat.not_lt.2 hlimit)), firstFailure_passed (failsWith_passed (Nat.not_lt.2 hpin))]
  refine ⟨fun hspan => firstFailure_failed (failsWith_failed hspan) _, fun hspan hfloor => ?_, fun hspan hfloor hceil hmargin => ?_⟩
  · rw [firstFailure_passed (failsWith_passed (Int.not_le.2 hspan)), firstFailure_failed (failsWith_failed hfloor)]
  · rw [firstFailure_passed (failsWith_passed (Int.not_le.2 hspan)), firstFailure_passed (failsWith_passed (by omega)),
      firstFailure_failed (failsWith_failed hmargin)]

/-- Settles O45: the checks of each kind, one by one. -/
theorem validationPassesWhatTheChecksAsk : Obligations.ValidationPassesWhatTheChecksAsk := by
  unfold Obligations.ValidationPassesWhatTheChecksAsk
  refine ⟨fun s id isNew removal h n ps => ?_, fun s slot isNew removal r => ?_, fun s slot isNew removal n es => ?_,
    fun s isNew removal x => ?_⟩
  · rw [← widthMax_eq]
    intro m v ranges curve rival ordered fitting
    change (validateProfile s id h n ps = none ↔ _) ∧ _
    refine ⟨validateProfile_eq_none, fun hslot => ?_, fun hslot hrank => ?_, fun ⟨hslot, hrank⟩ hn => ?_,
      fun before p q after ⟨hslot, hrank⟩ hmin hmax hps hchain hbreak => ?_,
      fun before p after ⟨⟨hslot, hrank⟩, hmin, hmax, horder⟩ hps hbefore hp => ?_,
      fun ⟨⟨⟨hslot, hrank⟩, hmin, hmax, horder⟩, hvalues⟩ => (validateProfile_fails s id h n ps hslot hrank hmin hmax horder hvalues).1,
      fun ⟨⟨⟨hslot, hrank⟩, hmin, hmax, horder⟩, hvalues⟩ => (validateProfile_fails s id h n ps hslot hrank hmin hmax horder hvalues).2.1,
      fun x ⟨⟨⟨hslot, hrank⟩, hmin, hmax, horder⟩, hvalues⟩ =>
        (validateProfile_fails s id h n ps hslot hrank hmin hmax horder hvalues).2.2.1 x,
      fun ⟨⟨⟨hslot, hrank⟩, hmin, hmax, horder⟩, hvalues⟩ hlower hupper hstart =>
        ((validateProfile_fails s id h n ps hslot hrank hmin hmax horder hvalues).2.2.2 hlower hupper hstart).1,
      fun ⟨hslot, hrank⟩ ⟨hmin, hmax, horder, hvalues, hlower, hupper, hstart, hstep⟩ =>
        (((validateProfile_fails s id h n ps hslot hrank hmin hmax horder hvalues).2.2.2 hlower hupper hstart).2 hstep).1,
      fun j ⟨hslot, hrank⟩ ⟨hmin, hmax, horder, hvalues, hlower, hupper, hstart, hstep⟩ =>
        (((validateProfile_fails s id h n ps hslot hrank hmin hmax horder hvalues).2.2.2 hlower hupper hstart).2 hstep).2 j⟩
    · exact firstFailure_failed (failsWith_failed hslot) _
    · change validateProfile s id h n ps = _
      rw [validateProfile_eq, firstFailure_passed (failsWith_passed (Nat.not_lt.2 hslot)), firstFailure_failed (failsWith_failed hrank)]
    · exact (validateProfile_of_ranges hslot hrank).trans (firstFailure_failed (failsWith_failed hn) _)
    · refine (validateProfile_of_count hslot hrank hmin hmax).trans (firstFailure_failed ?_ _)
      rw [hps, orderBreak_at hchain hbreak, Nat.zero_add]
      rfl
    · refine (validateProfile_of_order hslot hrank hmin hmax horder).trans (firstFailure_failed ?_ _)
      rw [hps, firstIndex_at (fun x hx => by simpa using hbefore x hx) (by simpa using hp), Nat.zero_add]
      rfl
  · refine ⟨validateTarget_eq_none, fun haddr => firstFailure_failed (failsWith_failed haddr) _,
      fun hmin hmax => (validateTarget_fails hmin hmax).1, fun hmin hmax => (validateTarget_fails hmin hmax).2.1,
      fun j ⟨hmin, hmax, hperiod, hretry⟩ => (validateTarget_fails hmin hmax).2.2 j hperiod hretry⟩
  · exact ⟨validateImage_eq_none, fun hn => firstFailure_failed (failsWith_failed hn) _,
      fun before e after hn hes hbefore => validateImage_entry hn hes hbefore⟩
  · intro v fields supply period hold
    change (validateSettings x = none ↔ _) ∧ _
    refine ⟨?_, fun hperiod => firstFailure_failed (failsWith_failed (by simp only [period] at hperiod; omega)) _,
      fun ⟨hmin, hmax, hten⟩ => (validateSettings_fails hmin hmax hten).1,
      fun ⟨hmin, hmax, hten⟩ => (validateSettings_fails hmin hmax hten).2.1,
      fun ⟨hmin, hmax, hten⟩ hk hh => ((validateSettings_fails hmin hmax hten).2.2 hk hh).1,
      fun ⟨⟨hmin, hmax, hten⟩, hk, hh, hlo, hhi⟩ => (((validateSettings_fails hmin hmax hten).2.2 hk hh).2 hlo hhi).1,
      fun ⟨⟨hmin, hmax, hten⟩, hk, hh, hlo, hhi⟩ => (((validateSettings_fails hmin hmax hten).2.2 hk hh).2 hlo hhi).2.1,
      fun ⟨hmin, hmax, hten, hk, hh, hlo, hhi, hlimit, hpin⟩ =>
        ((((validateSettings_fails hmin hmax hten).2.2 hk hh).2 hlo hhi).2.2 hlimit hpin).1,
      fun ⟨hmin, hmax, hten, hk, hh, hlo, hhi, hlimit, hpin⟩ =>
        ((((validateSettings_fails hmin hmax hten).2.2 hk hh).2 hlo hhi).2.2 hlimit hpin).2.1,
      fun ⟨hmin, hmax, hten, hk, hh, hlo, hhi, hlimit, hpin⟩ =>
        ((((validateSettings_fails hmin hmax hten).2.2 hk hh).2 hlo hhi).2.2 hlimit hpin).2.2⟩
    rw [validateSettings_eq_none]
    simp only [fields, supply, and_assoc]

end Sys2Proof.Machine
end

section
/-! The requests that report: their items, and that they change nothing (O51). -/

namespace Sys2Proof.Machine

section
variable {s after : State} {f : Frame} {rest : List Frame}

/-! ### The forms of a judged request -/

section
variable {α : Type} {c : Instr} {code : Byte} {parsed : Option α} {admitted : State → Bool} {body : α → Frame → State → State} {a : α}

theorem request_badArgument (h : Asked s f rest) (hcode : f.code = some code) (hhl : after.hl = s.hl)
    (hexec : exec c s = .next (judged parsed admitted body f (taken f rest after))) (hparsed : parsed = none) :
    AnswersWith c s f rest [code, 0x02] after :=
  answersWith_taken (r := .badArgument) h hcode hhl (hexec.trans (congrArg _ (judged_none hparsed)))

theorem request_refused (h : Asked s f rest) (hcode : f.code = some code) (hhl : after.hl = s.hl)
    (hexec : exec c s = .next (judged parsed admitted body f (taken f rest after))) (hparsed : parsed = some a)
    (hadmitted : admitted (taken f rest after) = false) : AnswersWith c s f rest [code, 0x05, after.oc.part.code] after :=
  answersWith_taken (r := .wrongState) h hcode hhl (hexec.trans (congrArg _ (judged_refused hparsed hadmitted)))

theorem request_start (h : Asked s f rest) (hcode : f.code = some code)
    (hexec : exec c s = .next (judged parsed afterStart body f (taken f rest s))) (hparsed : parsed = some a)
    (hpart : s.oc.part = .start) : OnlyAnswers c s f rest [code, 0x05, 0x00] := by
  have hanswer := request_refused h hcode rfl hexec hparsed (not_afterStart (by exact hpart))
  rwa [hpart] at hanswer

/-- A request whose whole effect is its reply. -/
theorem request_report (h : Asked s f rest) (hcode : f.code = some code) (hhl : after.hl = s.hl)
    (hexec : exec c s = .next (judged parsed admitted body f (taken f rest after))) (hparsed : parsed = some a)
    (hadmitted : admitted (taken f rest after) = true) {r : Result} {content : List Byte}
    (hbody : body a f (taken f rest after) = reply f r content (taken f rest after)) :
    AnswersWith c s f rest (code :: r.code :: content) after :=
  answersWith_taken h hcode hhl (hexec.trans (congrArg _ ((judged_some hparsed hadmitted).trans hbody)))

end

/-! ### The executions -/

theorem exec_identify (h : Asked s f rest) (hcode : f.code = some 0x01) : exec .identify s
    = .next (judged (noArgs f.args) always (report (fun _ => identifyContent)) f (taken f rest s)) :=
  exec_of_dispatch (body := fun f s => judged (noArgs f.args) always (report (fun _ => identifyContent)) f s) rfl h hcode

theorem exec_getStatus (derate : Bool) (h : Asked s f rest) (hcode : f.code = some 0x02) : exec (.getStatus derate) s
    = .next (judged (noArgs f.args) always (report statusContent) f (taken f rest (sampleDerate derate s))) :=
  exec_of_dispatch (body := fun f s => judged (noArgs f.args) always (report statusContent) f (sampleDerate derate s)) rfl h hcode

theorem exec_getMeasurements (h : Asked s f rest) (hcode : f.code = some 0x03) : exec .getMeasurements s
    = .next (judged (noArgs f.args) afterStart (report (fun s => measurementsContent s.mu)) f (taken f rest s)) :=
  exec_of_dispatch (body := fun f s => judged (noArgs f.args) afterStart (report (fun s => measurementsContent s.mu)) f s) rfl h hcode

theorem exec_getTarget (h : Asked s f rest) (hcode : f.code = some 0x04) : exec .getTarget s
    = .next (judged (slotArg f.args) afterStart (fun slot f s => reply f .ok (targetContent s slot) s) f (taken f rest s)) :=
  exec_of_dispatch (body := fun f s => judged (slotArg f.args) afterStart
    (fun slot f s => reply f .ok (targetContent s slot) s) f s) rfl h hcode

theorem exec_getProfile (h : Asked s f rest) (hcode : f.code = some 0x05) : exec .getProfile s
    = .next (judged (byteArg f.args) afterStart (fun b f s => match profileIdOf b with
        | some id => reply f .ok (profileContent s id) s
        | none => reply f .badArgument [] s) f (taken f rest s)) :=
  exec_of_dispatch (body := fun f s => judged (byteArg f.args) afterStart (fun b f s => match profileIdOf b with
        | some id => reply f .ok (profileContent s id) s
        | none => reply f .badArgument [] s) f s) rfl h hcode

theorem exec_getShadow (h : Asked s f rest) (hcode : f.code = some 0x06) : exec .getShadow s
    = .next (judged (byteArg f.args) afterStart (fun b f s => match profileIdOf b with
        | some id => reply f .ok (shadowContent (settleForReport id s) id) (settleForReport id s)
        | none => reply f .badArgument [] s) f (taken f rest s)) :=
  exec_of_dispatch (body := fun f s => judged (byteArg f.args) afterStart (fun b f s => match profileIdOf b with
        | some id => reply f .ok (shadowContent (settleForReport id s) id) (settleForReport id s)
        | none => reply f .badArgument [] s) f s) rfl h hcode

theorem exec_getImage (h : Asked s f rest) (hcode : f.code = some 0x07) : exec .getImage s
    = .next (judged (imageArgs f.args) afterStart (fun a f s =>
        if imageRangeFits a.2.1 a.2.2 then reply f .ok (imageContent s a.1 a.2.1.toNat a.2.2.toNat) s
        else reply f .badArgument [] s) f (taken f rest s)) :=
  exec_of_dispatch (body := fun f s => judged (imageArgs f.args) afterStart (fun a f s =>
        if imageRangeFits a.2.1 a.2.2 then reply f .ok (imageContent s a.1 a.2.1.toNat a.2.2.toNat) s
        else reply f .badArgument [] s) f s) rfl h hcode

theorem exec_getSettings (h : Asked s f rest) (hcode : f.code = some 0x08) : exec .getSettings s
    = .next (judged (noArgs f.args) afterStart (report settingsContent) f (taken f rest s)) :=
  exec_of_dispatch (body := fun f s => judged (noArgs f.args) afterStart (report settingsContent) f s) rfl h hcode

theorem unknownRequest_answers (h : Asked s f rest) (hunknown : unknownCode f.code = true) :
    OnlyAnswers .unknownRequest s f rest [f.code.getD 0, 0x01] :=
  answersWith_of (r := .unknownRequest)
    (congrArg Host.Outcome.next (dispatch_asked h hunknown (fun f s => reply f .unknownRequest [] s)))
    h.settled rfl (sameButLink_taken f rest s) rfl

/-! ### Arguments -/

theorem noArgs_eq_none {args : List Byte} (h : args ≠ []) : noArgs args = none := by
  cases args with
  | nil => exact absurd rfl h
  | cons => rfl

theorem slotArg_eq_none {args : List Byte} (h : args.length ≠ 1) : slotArg args = none := by
  match args, h with
  | [], _ => rfl
  | [_], h => exact absurd rfl h
  | _ :: _ :: _, _ => rfl

theorem byteArg_eq_none {args : List Byte} (h : args.length ≠ 1) : byteArg args = none := by
  match args, h with
  | [], _ => rfl
  | [_], h => exact absurd rfl h
  | _ :: _ :: _, _ => rfl

theorem imageArgs_eq_none {args : List Byte} (h : args.length ≠ 3) : imageArgs args = none := by
  match args, h with
  | [], _ | [_], _ | [_, _], _ => rfl
  | [_, _, _], h => exact absurd rfl h
  | _ :: _ :: _ :: _ :: _, _ => rfl

theorem imageArgs_slot (slot : Slot) (start n : Byte) : imageArgs [byteOf slot.val, start, n] = some (slot, start, n) := by
  rw [imageArgs, slotOf_byteOf]
  rfl

theorem imageArgs_badSlot {b : Byte} (h : 8 ≤ b.toNat) (start n : Byte) : imageArgs [b, start, n] = none := by
  rw [imageArgs, slotOf_eq_none h]
  rfl

theorem imageRangeFits_iff {start n : Byte} : imageRangeFits start n = true ↔ start.toNat ≤ 31 ∧ 1 ≤ n.toNat ∧ n.toNat ≤ 32 := by
  simp [imageRangeFits, and_assoc]

end

/-! ### Contents -/

/-- The items of a store read reply: the copies' states and generations, the active copy, and whether the object is present
or why it is absent. -/
theorem copyItems_eq (e : DirEntry) : copyItems e = [e.a.code, e.b.code] ++ be16 ((e.a.gen.map BitVec.toNat).getD 0)
    ++ be16 ((e.b.gen.map BitVec.toNat).getD 0) ++ (match e.active with
      | some .a => [0x00]
      | some .b => [0x01]
      | none => [0xFF]) ++ (match e.active.map e.info with
      | some (.valid _) => [0x01, 0x00]
      | some _ => [0x00, 0x01]
      | none => [0x00, if e.a = .damaged ∨ e.b = .damaged then 0x02 else 0x00]) := by
  have hinfo : e.activeInfo = e.active.map e.info := rfl
  have hdamaged : (0 < e.damagedCopies) ↔ (e.a = .damaged ∨ e.b = .damaged) := by
    unfold DirEntry.damagedCopies
    split <;> split <;> simp_all
  unfold copyItems genBytes absenceCause DirEntry.present
  rw [hinfo]
  rcases e.active with _ | n
  · simp [activeCode, flagByte, hdamaged]
  · cases hn : e.info n <;> cases n <;> simp [activeCode, copyCode, flagByte, hn]

theorem imageItems_eq (image : Option (List ImageEntry)) : imageItems image = (match image with
    | some es => [0x01, byteOf es.length]
    | none => [0x00, 0x00]) := by cases image <;> rfl

theorem awaitedItems_eq (s : State) (awaited : Option Nat) :
    awaitedItems s awaited = (match awaited.bind (fun k => s.bm.queue.find? (fun t => t.id == k)) with
      | some t => [0x01, t.cls.code, flagByte t.onBus]
      | none => [0x00, 0x00, 0x00]) := by
  change (match awaited.bind (transferById s) with
    | none => [0, 0, 0]
    | some t => [1, t.cls.code, transferStateCode t]) = (match awaited.bind (transferById s) with
      | some t => [0x01, t.cls.code, flagByte t.onBus]
      | none => [0x00, 0x00, 0x00])
  cases awaited.bind (transferById s) <;> rfl

theorem slot_occupancy (s : State) (slot : Slot) : occupancy (slotTransfers s slot) =
    [byteOf ((s.bm.queue.filter (fun t => t.slot == some slot && t.cls == .manual)).length),
      byteOf ((s.bm.queue.filter (fun t => t.slot == some slot && t.cls == .check)).length),
      byteOf ((s.bm.queue.filter (fun t => t.slot == some slot && t.cls == .restore)).length),
      byteOf ((s.bm.queue.filter (fun t => t.slot == some slot && t.cls == .compensate)).length)] := by
  simp only [occupancy, countClass, slotTransfers, List.filter_filter, Bool.and_comm]

theorem waitingItems_eq (s : State) (w : Option Ref) : waitingItems s w = (match w with
    | some w => 0x01 :: (be16 w.value ++ (match s.bm.queue.find? (fun t => t.id == w.id) with
      | some t => [t.cls.code, byteOf t.attempts]
      | none => [0x00, 0x00]))
    | none => List.replicate 5 0x00) := by
  cases w with
  | none => rfl
  | some w =>
    simp only [waitingItems, transferById]
    cases s.bm.queue.find? (fun t => t.id == w.id) <;> rfl

theorem onBusItems_eq (s : State) (w : Option Ref) : onBusItems s w = (match w with
    | some w => 0x01 :: (be16 w.value ++ (match s.bm.queue.find? (fun t => t.id == w.id) with
      | some t => [t.cls.code]
      | none => [0x00]))
    | none => List.replicate 4 0x00) := by
  cases w with
  | none => rfl
  | some w =>
    simp only [onBusItems, transferById]
    cases s.bm.queue.find? (fun t => t.id == w.id) <;> rfl

theorem slot_find (n : Nat) : (List.finRange 8).find? (fun i => i.val == n) = if h : n < 8 then some ⟨n, h⟩ else none := by
  split
  · next h =>
    exact find?_finRange_eq_some (by simp) fun i hi => by simpa using Nat.ne_of_lt hi
  · next h =>
    rw [find?_finRange_eq_none]
    intro i
    have hne : i.val ≠ n := by rintro rfl; exact h i.isLt
    simpa using hne

theorem latchItems_eq (s : State) (p : Option Profile) :
    latchItems s p = (match p.bind (fun p => (List.finRange 8).find? (fun i => i.val == p.header.slot)) with
      | some i => [flagByte s.ce.latches[i].deferred, flagByte s.ce.latches[i].waiting.isSome, flagByte s.ce.latches[i].onBus.isSome]
      | none => [0x00, 0x00, 0x00]) := by
  cases p with
  | none => rfl
  | some p =>
    rw [Option.bind_some, slot_find, latchItems]
    split <;> rfl

theorem judgementBytes_eq (r : Readings) : judgementBytes (judgeRemote r.remoteStatus r.remote) = (match r.remoteStatus with
    | .openCircuit => [0x01, 0x00]
    | .short => [0x01, 0x01]
    | .ok => if r.remote < -880 ∨ 2400 < r.remote then [0x01, 0x02] else [0x00, 0x00]) := by
  cases r.remoteStatus with
  | ok =>
    simp only [judgeRemote]
    split <;> rfl
  | openCircuit => rfl
  | short => rfl

theorem recordItems_eq (r : Option TargetRecord) : recordItems r = (match r with
    | some r => 0x01 :: recordBytes r
    | none => List.replicate 19 0x00) := by cases r <;> rfl

theorem profileItems_eq (p : Option Profile) : profileItems p = (match p with
    | some p => headerBytes p.header ++ byteOf p.points.length :: p.points.flatMap pointBytes
    | none => List.replicate 18 0x00) := by cases p <;> rfl

theorem activeItems_eq (p : Option Profile) : activeItems p = (match p with
    | some p => [0x01, flagByte p.header.enabled, byteOf p.header.slot, p.header.param]
    | none => [0x00, 0x00, 0x00, 0x00]) := by cases p <;> rfl

section
variable {s : State} {f : Frame} {rest : List Frame}

/-! ### The taken reports -/

theorem identify_answers (h : Asked s f rest) (hcode : f.code = some 0x01) (hargs : f.args = []) :
    OnlyAnswers .identify s f rest (0x01 :: 0x00 :: identifyContent) :=
  request_report (a := ()) h hcode rfl (exec_identify h hcode) (by rw [hargs]; rfl) rfl rfl

theorem getStatus_answers (derate : Bool) (h : Asked s f rest) (hcode : f.code = some 0x02) (hargs : f.args = []) :
    AnswersWith (.getStatus derate) s f rest (0x02 :: 0x00 :: statusContent (sampleDerate derate s)) (sampleDerate derate s) :=
  request_report (a := ()) (after := sampleDerate derate s) (r := .ok) h hcode rfl (exec_getStatus derate h hcode) (by rw [hargs]; rfl) rfl rfl

theorem getMeasurements_answers (h : Asked s f rest) (hpart : s.oc.part ≠ .start) (hcode : f.code = some 0x03) (hargs : f.args = []) :
    OnlyAnswers .getMeasurements s f rest (0x03 :: 0x00 :: measurementsContent s.mu) :=
  request_report (a := ()) h hcode rfl (exec_getMeasurements h hcode) (by rw [hargs]; rfl) (afterStart_of_ne (by exact hpart)) rfl

theorem getTarget_answers (h : Asked s f rest) (hpart : s.oc.part ≠ .start) (slot : Slot) (hcode : f.code = some 0x04)
    (hargs : f.args = [byteOf slot.val]) : OnlyAnswers .getTarget s f rest (0x04 :: 0x00 :: targetContent s slot) :=
  request_report (a := slot) h hcode rfl (exec_getTarget h hcode) (by rw [hargs]; exact slotOf_byteOf slot)
    (afterStart_of_ne (by exact hpart)) rfl

theorem getProfile_answers (h : Asked s f rest) (hpart : s.oc.part ≠ .start) (id : ProfileId) (hcode : f.code = some 0x05)
    (hargs : f.args = [byteOf id.val]) : OnlyAnswers .getProfile s f rest (0x05 :: 0x00 :: profileContent s id) :=
  request_report (a := byteOf id.val) (r := .ok) h hcode rfl (exec_getProfile h hcode) (by rw [hargs]; rfl)
    (afterStart_of_ne (by exact hpart)) (by rw [profileIdOf_byteOf]; exact rfl)

theorem getShadow_answers (h : Asked s f rest) (hpart : s.oc.part ≠ .start) (hclear : ∀ i : Slot, s.msgs.ceInvalidate[i] = false)
    (id : ProfileId) (hcode : f.code = some 0x06) (hargs : f.args = [byteOf id.val]) :
    OnlyAnswers .getShadow s f rest (0x06 :: 0x00 :: shadowContent s id) := by
  have hsettled : settleForReport id (taken f rest s) = taken f rest s := settleInvalidations_of_clear hclear
  exact request_report (a := byteOf id.val) h hcode rfl (exec_getShadow h hcode) (by rw [hargs]; rfl)
    (afterStart_of_ne (by exact hpart)) (by rw [profileIdOf_byteOf]; dsimp only; rw [hsettled])

theorem getImage_answers (h : Asked s f rest) (hpart : s.oc.part ≠ .start) (slot : Slot) (start n : Byte) (hcode : f.code = some 0x07)
    (hargs : f.args = [byteOf slot.val, start, n]) (hfits : start.toNat ≤ 31 ∧ 1 ≤ n.toNat ∧ n.toNat ≤ 32) :
    OnlyAnswers .getImage s f rest (0x07 :: 0x00 :: imageContent s slot start.toNat n.toNat) :=
  request_report (a := (slot, start, n)) h hcode rfl (exec_getImage h hcode) (by rw [hargs, imageArgs_slot])
    (afterStart_of_ne (by exact hpart)) (if_pos (imageRangeFits_iff.2 hfits))

theorem getImage_outOfRange (h : Asked s f rest) (hpart : s.oc.part ≠ .start) (slot : Slot) (start n : Byte)
    (hcode : f.code = some 0x07) (hargs : f.args = [byteOf slot.val, start, n])
    (hrange : ¬ (start.toNat ≤ 31 ∧ 1 ≤ n.toNat ∧ n.toNat ≤ 32)) : OnlyAnswers .getImage s f rest [0x07, 0x02] :=
  request_report (a := (slot, start, n)) (r := .badArgument) h hcode rfl (exec_getImage h hcode) (by rw [hargs, imageArgs_slot])
    (afterStart_of_ne (by exact hpart)) (if_neg fun hfits => hrange (imageRangeFits_iff.1 hfits))

theorem getSettings_answers (h : Asked s f rest) (hpart : s.oc.part ≠ .start) (hcode : f.code = some 0x08) (hargs : f.args = []) :
    OnlyAnswers .getSettings s f rest (0x08 :: 0x00 :: settingsContent s) :=
  request_report (a := ()) h hcode rfl (exec_getSettings h hcode) (by rw [hargs]; rfl) (afterStart_of_ne (by exact hpart)) rfl

end

/-- Settles O51: each reporting request by its form, and each content by its items. -/
theorem reportsAnswerAndChangeNothing : Obligations.ReportsAnswerAndChangeNothing := by
  unfold Obligations.ReportsAnswerAndChangeNothing
  intro derate s f rest h
  refine ⟨fun hnone => ?_, fun c hc hunknown => ?_, fun hcode hargs => identify_answers h hcode hargs, fun hcode hargs => ?_,
    fun hpart => ?_, fun hpart => ?_, fun hargs => ?_, fun b hb => ?_, fun hlen => ?_, fun hlen hcode => ?_⟩
  · have hanswer := unknownRequest_answers h (by rw [hnone]; rfl)
    rwa [hnone] at hanswer
  · have hanswer := unknownRequest_answers h (by rw [hc]; simpa [unknownCode] using hunknown)
    rwa [hc] at hanswer
  · refine ⟨s.ctxs.toList.map (fun c => c.state.code), ?_, by simp, fun slot => by simp⟩
    have hanswer := getStatus_answers derate h hcode hargs
    simp [statusContent, occupancy, effectiveDerate, activeSettings] at hanswer ⊢
    exact hanswer
  · intro mu header record entry settings copies queued
    have hheader : header = headerBytes := funext fun hd => by simp [header, headerBytes]
    have hrecord : record = recordBytes := funext fun r => by simp [record, recordBytes]; rfl
    have hentry : entry = entryBytes := funext fun e => by simp [entry, entryBytes]
    have hsettings : settings = settingsBytes := funext fun x => by simp [settings, settingsBytes]
    have hcopies : copies = copyItems := funext fun e => (copyItems_eq e).symm
    rw [hheader, hrecord, hentry, hsettings, hcopies]
    refine ⟨fun r ti hcode hargs hr hti => ?_, fun slot hcode hargs => ?_, fun id hcode hargs => ?_, fun id hcode hargs hclear => ?_,
      fun slot start n hcode hargs => ⟨fun hfits => ?_, fun hrange => ?_⟩, fun hcode hargs => ?_, fun b hb hargs => ⟨fun hcode => ?_, fun hcode => ?_⟩⟩
    · have hanswer := getMeasurements_answers h hpart hcode hargs
      rw [measurementsContent, hr, hti] at hanswer
      simp [readingBytes, judgementBytes_eq, mu] at hanswer ⊢
      exact hanswer
    · intro c timer inQueue
      have hanswer := getTarget_answers h hpart slot hcode hargs
      simp [targetContent, recordItems_eq, imageItems_eq, awaitedItems_eq, slot_occupancy, timerItems, timer, inQueue, c, queued] at hanswer ⊢
      exact hanswer
    · have hanswer := getProfile_answers h hpart id hcode hargs
      simp [profileContent, profileItems_eq] at hanswer ⊢
      exact hanswer
    · intro sh
      have hanswer := getShadow_answers h hpart hclear id hcode hargs
      simp [shadowContent, activeItems_eq, waitingItems_eq, onBusItems_eq, latchItems_eq, sh, queued] at hanswer ⊢
      exact hanswer
    · have hanswer := getImage_answers h hpart slot start n hcode hargs hfits
      simpa [imageContent, imageEntries] using hanswer
    · refine getImage_outOfRange h hpart slot start n hcode hargs fun ⟨hstart, hmin, hmax⟩ => ?_
      obtain hlarge | rfl | hlarge := hrange
      · omega
      · exact absurd hmin (by decide)
      · omega
    · have hanswer := getSettings_answers h hpart hcode hargs
      simpa [settingsContent, Directory.entry] using hanswer
    · exact request_report (a := b) (r := .badArgument) h hcode rfl (exec_getProfile h hcode) (by rw [hargs]; rfl)
        (afterStart_of_ne (by exact hpart)) (by rw [profileIdOf_eq_none hb])
    · exact request_report (a := b) (r := .badArgument) h hcode rfl (exec_getShadow h hcode) (by rw [hargs]; rfl)
        (afterStart_of_ne (by exact hpart)) (by rw [profileIdOf_eq_none hb])
  · exact ⟨fun hcode hargs => request_start (a := ()) h hcode (exec_getMeasurements h hcode) (by rw [hargs]; rfl) hpart,
      fun slot hcode hargs => request_start h hcode (exec_getTarget h hcode) (by rw [hargs]; exact slotOf_byteOf slot) hpart,
      fun b hcode hargs => request_start (a := b) h hcode (exec_getProfile h hcode) (by rw [hargs]; rfl) hpart,
      fun b hcode hargs => request_start (a := b) h hcode (exec_getShadow h hcode) (by rw [hargs]; rfl) hpart,
      fun slot start n hcode hargs => request_start h hcode (exec_getImage h hcode) (by rw [hargs, imageArgs_slot]) hpart,
      fun hcode hargs => request_start (a := ()) h hcode (exec_getSettings h hcode) (by rw [hargs]; rfl) hpart⟩
  · have hnone := noArgs_eq_none hargs
    exact ⟨fun hcode => request_badArgument h hcode rfl (exec_identify h hcode) hnone,
      fun hcode => request_badArgument (after := sampleDerate derate s) h hcode rfl (exec_getStatus derate h hcode) hnone,
      fun hcode => request_badArgument h hcode rfl (exec_getMeasurements h hcode) hnone,
      fun hcode => request_badArgument h hcode rfl (exec_getSettings h hcode) hnone⟩
  · exact ⟨fun hcode hargs => request_badArgument h hcode rfl (exec_getTarget h hcode) (by rw [hargs]; exact slotOf_eq_none hb),
      fun start n hcode hargs => request_badArgument h hcode rfl (exec_getImage h hcode) (by rw [hargs, imageArgs_badSlot hb])⟩
  · exact ⟨fun hcode => request_badArgument h hcode rfl (exec_getTarget h hcode) (slotArg_eq_none hlen),
      fun hcode => request_badArgument h hcode rfl (exec_getProfile h hcode) (byteArg_eq_none hlen),
      fun hcode => request_badArgument h hcode rfl (exec_getShadow h hcode) (byteArg_eq_none hlen)⟩
  · exact request_badArgument h hcode rfl (exec_getImage h hcode) (imageArgs_eq_none hlen)

end Sys2Proof.Machine
end

section
/-! The requests of control: SET_MODE, SET_TRIM, SET_DERATE, PASS_NOW, RESTART and a refused or needless TARGET_ADMIN
(O52, O21). -/

namespace Sys2Proof.Machine

section
variable {s : State} {f : Frame} {rest : List Frame}

/-! ### SET_MODE -/

theorem partStateOf_code (p : PartState) : partStateOf p.code = some p := by cases p <;> rfl

theorem exec_setMode (h : Asked s f rest) (hcode : f.code = some 0x10) : exec .setMode s
    = .next ((fun f s => match modeArg f.args with
      | none => reply f .badArgument (modeItems s.oc.part s.oc.part) s
      | some asked => setPartState asked f s) f (taken f rest s)) :=
  exec_of_dispatch (body := fun f s => match modeArg f.args with
    | none => reply f .badArgument (modeItems s.oc.part s.oc.part) s
    | some asked => setPartState asked f s) rfl h hcode

theorem setMode_asked (h : Asked s f rest) (hcode : f.code = some 0x10) {asked : PartState} (hargs : f.args = [asked.code]) :
    exec .setMode s = .next (setPartState asked f (taken f rest s)) := by
  have hmode : modeArg f.args = some asked := by rw [hargs]; exact partStateOf_code asked
  rw [exec_setMode h hcode]
  dsimp only
  rw [hmode]

theorem setPartState_refused {asked : PartState} {u : State} (h : u.oc.part = .start ∨ u.oc.part = .safe) :
    setPartState asked f u = reply f .wrongState (modeItems u.oc.part u.oc.part) u := if_pos h

theorem setPartState_moves {asked : PartState} {u : State} (h : u.oc.part = .run ∨ u.oc.part = .hold)
    (hasked : asked = .run ∨ asked = .hold) :
    setPartState asked f u = reply f .ok (modeItems u.oc.part asked) { u with oc := { u.oc with part := asked } } := by
  have hnot : ¬ (u.oc.part = .start ∨ u.oc.part = .safe) := by obtain h | h := h <;> simp [h]
  rw [setPartState, if_neg hnot, if_pos hasked]

theorem setPartState_badArgument {asked : PartState} {u : State} (h : u.oc.part = .run ∨ u.oc.part = .hold)
    (hasked : asked = .start ∨ asked = .safe) :
    setPartState asked f u = reply f .badArgument (modeItems u.oc.part u.oc.part) u := by
  have hnot : ¬ (u.oc.part = .start ∨ u.oc.part = .safe) := by obtain h | h := h <;> simp [h]
  have hnot' : ¬ (asked = .run ∨ asked = .hold) := by obtain rfl | rfl := hasked <;> simp
  rw [setPartState, if_neg hnot, if_neg hnot']

/-! ### SET_TRIM and SET_DERATE -/

theorem exec_setTrim (h : Asked s f rest) (hcode : f.code = some 0x11) : exec .setTrim s
    = .next (judged (trimArgs f.args) afterStart (fun a f s => match profileIdOf a.1 with
        | some id => takeTrim id a.2 f s
        | none => reply f .badArgument [] s) f (taken f rest s)) :=
  exec_of_dispatch (body := fun f s => judged (trimArgs f.args) afterStart (fun a f s => match profileIdOf a.1 with
        | some id => takeTrim id a.2 f s
        | none => reply f .badArgument [] s) f s) rfl h hcode

theorem exec_setDerate (derate : Bool) (h : Asked s f rest) (hcode : f.code = some 0x12) : exec (.setDerate derate) s
    = .next (judged (byteArg f.args) afterStart
      (fun b f s => if b.toNat ≤ 2 then takeDerate b.toNat f s else reply f .badArgument [] s) f (taken f rest (sampleDerate derate s))) :=
  exec_of_dispatch (body := fun f s => judged (byteArg f.args) afterStart
      (fun b f s => if b.toNat ≤ 2 then takeDerate b.toNat f s else reply f .badArgument [] s) f (sampleDerate derate s)) rfl h hcode

theorem setTrim_answers (h : Asked s f rest) (hpart : s.oc.part ≠ .start) (hcode : f.code = some 0x11) {b hi lo : Byte}
    (hargs : f.args = [b, hi, lo]) {id : ProfileId} (hid : b.toNat = id.val) :
    AnswersWith .setTrim s f rest ([0x11, 0x00, b] ++ (signed16 s.ce.trims[id] ++ [hi, lo]))
      { s with ce := { s.ce with trims := s.ce.trims.set id (hi ++ lo).toInt } } := by
  obtain rfl : b = byteOf id.val := BitVec.eq_of_toNat_eq (by rw [byteOf_profile, hid])
  have hparsed : trimArgs f.args = some (byteOf id.val, int16 hi lo) := by rw [hargs]; rfl
  have hexec : exec .setTrim s = .next (takeTrim id (int16 hi lo) f (taken f rest s)) := by
    rw [exec_setTrim h hcode, judged_some hparsed (afterStart_of_ne (by exact hpart)), profileIdOf_byteOf]
  have hanswer := answersWith_taken (r := .ok) (after := setTrimOf id (int16 hi lo) s) h hcode rfl hexec
  rw [signed16_int16, int16_eq] at hanswer
  exact hanswer

theorem setTrim_outOfRange (h : Asked s f rest) (hpart : s.oc.part ≠ .start) (hcode : f.code = some 0x11) {b hi lo : Byte}
    (hargs : f.args = [b, hi, lo]) (hb : 64 ≤ b.toNat) : OnlyAnswers .setTrim s f rest [0x11, 0x02] :=
  request_report (a := (b, int16 hi lo)) (r := .badArgument) h hcode rfl (exec_setTrim h hcode) (by rw [hargs]; rfl)
    (afterStart_of_ne (by exact hpart)) (by simp only [profileIdOf_eq_none hb])

theorem setDerate_answers (derate : Bool) (h : Asked s f rest) (hpart : s.oc.part ≠ .start) (hcode : f.code = some 0x12)
    {level : Byte} (hargs : f.args = [level]) (hlevel : level.toNat ≤ 2) :
    AnswersWith (.setDerate derate) s f rest [0x12, 0x00, byteOf s.ce.hostDerate, level,
        byteOf (max level.toNat (if derate then (activeSettings s).deratePin else 0))]
      { s with pins := { s.pins with derate := derate }, ce := { s.ce with hostDerate := level.toNat } } := by
  have hexec : exec (.setDerate derate) s = .next (takeDerate level.toNat f (taken f rest (sampleDerate derate s))) := by
    rw [exec_setDerate derate h hcode, judged_some (a := level) (by rw [hargs]; rfl) (afterStart_of_ne (by exact hpart)), if_pos hlevel]
  have hanswer := answersWith_taken (r := .ok)
    (after := { s with pins := { s.pins with derate := derate }, ce := { s.ce with hostDerate := level.toNat } }) h hcode rfl hexec
  rw [byteOf_toNat_of_byte] at hanswer
  exact hanswer

theorem setDerate_outOfRange (derate : Bool) (h : Asked s f rest) (hpart : s.oc.part ≠ .start) (hcode : f.code = some 0x12)
    {level : Byte} (hargs : f.args = [level]) (hlevel : 2 < level.toNat) :
    AnswersWith (.setDerate derate) s f rest [0x12, 0x02] (sampleDerate derate s) :=
  request_report (a := level) (after := sampleDerate derate s) (r := .badArgument) h hcode rfl (exec_setDerate derate h hcode) (by rw [hargs]; rfl)
    (afterStart_of_ne (by exact hpart)) (if_neg (Nat.not_le.2 hlevel))

/-! ### PASS_NOW -/

theorem exec_passNow (derate : Bool) (h : Asked s f rest) (hcode : f.code = some 0x13) : exec (.passNow derate) s
    = .next (judged (noArgs f.args) passAdmitted passReply f (taken f rest (sampleDerate derate s))) :=
  exec_of_dispatch (body := fun f s => judged (noArgs f.args) passAdmitted passReply f (sampleDerate derate s)) rfl h hcode

/-- What a pass leaves unchanged, whatever is outstanding. -/
theorem runPass_frame (s : State) : (runPass s).1.ce.passCount = s.ce.passCount + 1 ∧ (runPass s).1.ce.trims = s.ce.trims
    ∧ (runPass s).1.ctxs = s.ctxs ∧ (runPass s).1.cs = s.cs ∧ (runPass s).1.mu = s.mu ∧ (runPass s).1.oc = s.oc := by
  obtain ⟨u, hu, hpass⟩ := runPass_cases s
  have hframe := hu.framed
  have hce := decideIfEnqueued_ce s u
  obtain ⟨-, -, -, -, hmu, hctxs, hcs, hoc, -, -, -⟩ := decideIfEnqueued_keeps s u
  rw [hpass, hce, hframe.ce, hmu, hctxs, hcs, hoc, hframe.mu, hframe.cs, hframe.oc]
  exact ⟨rfl, rfl, Vector.ext fun i hi => hframe.ctxs ⟨i, hi⟩ (Set.notMem_empty _), rfl, rfl, rfl⟩

theorem SameButLink.refl (s : State) : SameButLink s s :=
  ⟨rfl, rfl, rfl, rfl, rfl, rfl, rfl, rfl, rfl, rfl, rfl, rfl, rfl, ⟨rfl, rfl⟩, ⟨rfl, rfl⟩, fun _ => ⟨rfl, rfl⟩⟩

theorem passNow_runs (derate : Bool) (h : Asked s f rest) (hcode : f.code = some 0x13) (hargs : f.args = [])
    (hpart : s.oc.part = .run) (hsupply : s.ce.supply = .normal) {u : State} (hu : u = taken f rest (sampleDerate derate s)) :
    AnswersWith (.passNow derate) s f rest (0x13 :: 0x00 :: passContent u (runPass u)) (runPass u).1 := by
  have hadmitted : passAdmitted (taken f rest (sampleDerate derate s)) = true := by
    have hpart' : (taken f rest (sampleDerate derate s)).oc.part = .run := hpart
    have hsupply' : (taken f rest (sampleDerate derate s)).ce.supply = .normal := hsupply
    rw [passAdmitted, hpart', hsupply']
    rfl
  have hexec : exec (.passNow derate) s = .next (reply f .ok (passContent u (runPass u)) (runPass u).1) := by
    rw [exec_passNow derate h hcode, judged_some (a := ()) (by rw [hargs]; rfl) hadmitted, ← hu]
    rfl
  have hlink := linkKept_runPass u
  have hpayload : replyPayload f.code .ok (passContent u (runPass u)) = 0x13 :: 0x00 :: passContent u (runPass u) := by
    rw [hcode]
    rfl
  rw [← hpayload]
  refine answersWith_of hexec ?_ ?_ (.refl _) rfl
  · rw [hlink.pend, hu]
    exact h.settled
  · rw [hlink.intake, hu]
    rfl

theorem passAdmitted_eq_false {u : State} (h : u.oc.part ≠ .run ∨ u.ce.supply = .low) : passAdmitted u = false := by
  obtain h | h := h <;> simp [passAdmitted, h]

/-! ### RESTART -/

theorem exec_restart (h : Asked s f rest) (hcode : f.code = some 0x15) : exec .restart s
    = .next (judged (noArgs f.args) afterStart (fun _ f s => if s.hl.pend.isEmpty then takeRestart f s
      else reply f .busy [byteOf s.hl.pend.length] s) f (taken f rest s)) :=
  exec_of_dispatch (body := fun f s => judged (noArgs f.args) afterStart (fun _ f s => if s.hl.pend.isEmpty then takeRestart f s
      else reply f .busy [byteOf s.hl.pend.length] s) f s) rfl h hcode

theorem restart_busy (h : Asked s f rest) (hpart : s.oc.part ≠ .start) (hcode : f.code = some 0x15) (hargs : f.args = [])
    (hpend : s.hl.pend ≠ []) : OnlyAnswers .restart s f rest [0x15, 0x03, byteOf s.hl.pend.length] :=
  request_report (a := ()) (r := .busy) h hcode rfl (exec_restart h hcode) (by rw [hargs]; rfl) (afterStart_of_ne (by exact hpart))
    (if_neg (by simpa [taken, evictTag, setIntake] using hpend))

theorem restart_taken (h : Asked s f rest) (hpart : s.oc.part ≠ .start) (hcode : f.code = some 0x15) (hargs : f.args = [])
    (hpend : s.hl.pend = []) : Gives .restart s (fun t => t.hl.intake = rest ∧ ReplyGiven f.tag [0x15, 0x00] true t
      ∧ SameButLink { s with oc := { s.oc with restart := some f.tag } } t) := by
  have hexec : exec .restart s = .next (takeRestart f (taken f rest s)) := by
    rw [exec_restart h hcode, judged_some (a := ()) (by rw [hargs]; rfl) (afterStart_of_ne (by exact hpart)), if_pos]
    simpa [taken, evictTag, setIntake] using hpend
  obtain ⟨hintake, hreply, -, hsame⟩ := answerNow_spec (tag := f.tag) (code := f.code) (digest := digestOf f.payload)
    (payload := replyPayload f.code .ok []) (restart := true)
    (s := { taken f rest s with oc := { (taken f rest s).oc with restart := some f.tag } }) h.settled
  refine ⟨_, hexec, hintake, ?_, SameButLink.trans (sameButLink_taken f rest { s with oc := { s.oc with restart := some f.tag } }) rfl hsame⟩
  rw [hcode] at hreply
  rw [takeRestart, hcode]
  exact hreply

end

/-- Settles O52: each request of control by its own rule. -/
theorem controlRequestsTakeEffectAtDispatch : Obligations.ControlRequestsTakeEffectAtDispatch := by
  unfold Obligations.ControlRequestsTakeEffectAtDispatch
  intro derate s f rest h
  refine ⟨fun asked hcode hargs => ⟨fun hpart => ?_, fun hpart => ⟨fun hasked => ?_, fun hasked => ?_⟩⟩, fun b hi lo hcode hargs hpart => ?_,
    fun level hcode hargs hpart => ?_, fun hcode hargs => ⟨fun hrefused => ?_, fun ti hpart hsupply hti => ?_⟩, fun hcode hargs hpart => ?_⟩
  · exact onlyAnswers_taken h hcode ((setMode_asked h hcode hargs).trans (congrArg _ (setPartState_refused (by exact hpart))))
  · exact answersWith_taken (after := { s with oc := { s.oc with part := asked } }) h hcode rfl
      ((setMode_asked h hcode hargs).trans (congrArg _ (setPartState_moves (by exact hpart) hasked)))
  · exact onlyAnswers_taken h hcode ((setMode_asked h hcode hargs).trans (congrArg _ (setPartState_badArgument (by exact hpart) hasked)))
  · exact ⟨fun id hid => setTrim_answers h hpart hcode hargs hid, setTrim_outOfRange h hpart hcode hargs⟩
  · exact ⟨setDerate_answers derate h hpart hcode hargs, setDerate_outOfRange derate h hpart hcode hargs⟩
  · exact request_refused (a := ()) (after := sampleDerate derate s) h hcode rfl (exec_passNow derate h hcode) (by rw [hargs]; rfl)
      (passAdmitted_eq_false (by exact hrefused))
  · intro dispatched x
    have hdispatched : dispatched = taken f rest (sampleDerate derate s) := by
      simp [dispatched, taken, evictTag, setIntake, hrdyLevel, Config.intakePlaces, sampleDerate, h.running]
    have hindex : evalIndex dispatched = ti := evalIndex_of_some (by exact hti)
    obtain ⟨hcount, hframe⟩ := runPass_frame dispatched
    refine ⟨?_, hcount, hframe⟩
    have hanswer := passNow_runs derate h hcode hargs hpart hsupply hdispatched
    rw [passContent, hindex, hcount] at hanswer
    rw [List.append_assoc, List.append_assoc]
    exact hanswer
  · exact ⟨restart_busy h hpart hcode hargs, restart_taken h hpart hcode hargs⟩

/-! ### TARGET_ADMIN -/

section
variable {s : State} {f : Frame} {rest : List Frame}

theorem exec_targetAdmin (derate : Bool) (h : Asked s f rest) (hcode : f.code = some 0x14) : exec (.targetAdmin derate) s
    = .next ((fun f s => match adminArgs f.args with
      | none => reply f .badArgument (adminMalformed f.args) s
      | some (slot, a) => admin slot a f (sampleDerate derate s)) f (taken f rest s)) :=
  exec_of_dispatch (body := fun f s => match adminArgs f.args with
    | none => reply f .badArgument (adminMalformed f.args) s
    | some (slot, a) => admin slot a f (sampleDerate derate s)) rfl h hcode

theorem targetAdmin_asked (derate : Bool) (h : Asked s f rest) (hcode : f.code = some 0x14) {slot : Slot} {a : Action}
    (hargs : adminArgs f.args = some (slot, a)) :
    exec (.targetAdmin derate) s = .next (admin slot a f (taken f rest (sampleDerate derate s))) := by
  rw [exec_targetAdmin derate h hcode]
  dsimp only
  rw [hargs]
  rfl

theorem adminRefused_iff {a : Action} {p : PartState} :
    adminRefused a p = true ↔ p = .start ∨ (p = .safe ∧ a ≠ .disable ∧ a ≠ .suspend) := by
  cases p <;> simp [adminRefused]

/-- The actions taken without change: DISABLE in DISABLED and SUSPEND in SUSPENDED. -/
theorem admitAction_needless {a : Action} {st : TargetState} (h : (a = .disable ∧ st = .disabled) ∨ (a = .suspend ∧ st = .suspended)) :
    admitAction a st = some false := by
  obtain ⟨rfl, rfl⟩ | ⟨rfl, rfl⟩ := h <;> rfl

theorem admitAction_refused {a : Action} {st : TargetState} (h : st = .unconfigured ∨ (a = .enable ∧ st ≠ .disabled)
    ∨ (a = .resume ∧ st ≠ .suspended) ∨ (a = .reload ∧ (st = .disabled ∨ st = .suspended))) : admitAction a st = none := by
  obtain rfl | ⟨rfl, hst⟩ | ⟨rfl, hst⟩ | ⟨rfl, rfl | rfl⟩ := h
  · cases a <;> rfl
  · exact if_neg hst
  · exact if_neg hst
  · rfl
  · rfl

theorem admin_refused {slot : Slot} {a : Action} {u : State} (h : adminRefused a u.oc.part = true) :
    admin slot a f u = reply f .wrongState (adminUnchanged slot a u) u := if_pos h

theorem admin_admitted {slot : Slot} {a : Action} {u : State} (h : adminRefused a u.oc.part = false) :
    admin slot a f u = match admitAction a u.ctxs[slot].state with
      | none => reply f .targetState (adminUnchanged slot a u) u
      | some false => reply f .ok (adminUnchanged slot a u) u
      | some true => adminTaken slot a f u := if_neg (by rw [h]; exact Bool.false_ne_true)

end

/-- Settles O21: TARGET_ADMIN by part state and target state. -/
theorem adminRefusedOrNeedlessChangesNothing : Obligations.AdminRefusedOrNeedlessChangesNothing := by
  unfold Obligations.AdminRefusedOrNeedlessChangesNothing
  intro derate s f rest slot a h hcode hargs st items s'
  have hexec := targetAdmin_asked derate h hcode hargs
  refine ⟨fun hrefused => ?_, fun htaken => ?_⟩
  · exact answersWith_taken (r := .wrongState) (content := adminUnchanged slot a s) h hcode rfl
      (hexec.trans (congrArg _ (admin_refused (adminRefused_iff.2 (by exact hrefused)))))
  · have hadmitted : adminRefused a (taken f rest s').oc.part = false := by
      rw [← Bool.not_eq_true, adminRefused_iff]
      change ¬ (s.oc.part = .start ∨ (s.oc.part = .safe ∧ a ≠ .disable ∧ a ≠ .suspend))
      obtain hp | hp | ⟨hp, rfl | rfl⟩ := htaken <;> simp [hp]
    have hbody := admin_admitted (f := f) (slot := slot) hadmitted
    refine ⟨fun hnone => ?_, fun hneedless => ?_⟩
    · have hadmit : admitAction a (taken f rest s').ctxs[slot].state = none := admitAction_refused hnone
      exact answersWith_taken (r := .targetState) (content := adminUnchanged slot a s) h hcode rfl
        (hexec.trans (congrArg _ (hbody.trans (by rw [hadmit]; rfl))))
    · have hadmit : admitAction a (taken f rest s').ctxs[slot].state = some false := admitAction_needless hneedless
      exact answersWith_taken (r := .ok) (content := adminUnchanged slot a s) h hcode rfl
        (hexec.trans (congrArg _ (hbody.trans (by rw [hadmit]; rfl))))

end Sys2Proof.Machine
end

section
/-! Dispatch: the TAG first, then encoding and part state, for every request of the catalogue (O50). -/

namespace Sys2Proof.Machine

/-! ### The TAG -/

/-- Every request command dispatches its own code. -/
theorem exec_of_requestCode {c : Instr} {code : Byte} (hc : requestCode c = some code) :
    ∃ body, ∀ s, exec c s = .next (dispatch (named code) body s) := by
  cases c
  case identify | getStatus | getMeasurements | getTarget | getProfile | getShadow | getImage | getSettings | setMode | setTrim |
      setDerate | passNow | targetAdmin | restart | manualRead | manualWrite | editOpen | editField | editPoints | editEntries |
      editCount | editRemove | editShow | editCommit | editAbandon =>
    exact Option.some_inj.1 hc ▸ ⟨_, fun s => rfl⟩
  all_goals exact absurd hc nofun

section
variable {s : State} {f : Frame} {rest : List Frame} {names : Option Byte → Bool} {body : Frame → State → State}

theorem dispatch_not_taken (hfront : s.hl.intake = f :: rest) (hnot : mayDispatch s = false) : dispatch names body s = s := by
  rw [dispatch, hfront]
  dsimp only
  rw [hnot, Bool.false_and, if_neg Bool.false_ne_true]

theorem dispatch_taken (hfront : s.hl.intake = f :: rest) (hmay : mayDispatch s = true) (hnames : names f.code = true) :
    dispatch names body s = judgeTag f body (setIntake rest s) := by
  rw [dispatch, hfront]
  dsimp only
  rw [hmay, hnames, Bool.true_and, if_pos rfl]

theorem mayDispatch_eq_false (h : s.oc.held = true ∨ s.oc.restart.isSome = true ∨ 4 ≤ s.hl.replies.length) : mayDispatch s = false := by
  obtain h | h | h := h
  · simp [mayDispatch, h]
  · simp [mayDispatch, Option.isSome_iff_ne_none.1 h]
  · have hroom : ¬ s.hl.replies.length < Config.replyPlaces := Nat.not_lt.2 h
    simp [mayDispatch, hroom]

theorem mayDispatch_eq_true (hheld : s.oc.held = false) (hrestart : s.oc.restart = none) (hroom : s.hl.replies.length < 4) :
    mayDispatch s = true := by
  have hroom' : s.hl.replies.length < Config.replyPlaces := hroom
  simp [mayDispatch, hheld, hrestart, hroom']

theorem judgeTag_pending (h : ∃ e ∈ s.hl.pend, e.tag = f.tag) :
    judgeTag f body s = appendReply ⟨f.tag, replyPayload f.code .tagInUse [], false⟩ s := by
  have hpend : s.hl.pend.any (fun e => e.tag == f.tag) = true := by simpa using h
  rw [judgeTag, hpend, if_pos rfl]

theorem judgeTag_repeat {before after : List CacheEntry} {e : CacheEntry} (hfree : ∀ x ∈ s.hl.pend, x.tag ≠ f.tag)
    (hcache : s.hl.cache = before ++ e :: after) (hbefore : ∀ x ∈ before, x.tag ≠ f.tag) (htag : e.tag = f.tag)
    (hcode : e.code = f.code) (hdigest : e.digest = digestOf f.payload) :
    judgeTag f body s = appendReply ⟨f.tag, e.payload, false⟩ s := by
  have hpend : s.hl.pend.any (fun e => e.tag == f.tag) = false := by simpa using hfree
  have hfound : s.hl.cache.find? (fun e => e.tag == f.tag) = some e := by
    rw [hcache, List.find?_append, List.find?_eq_none.2 (by simpa using hbefore), List.find?_cons_of_pos (by simpa using htag)]
    rfl
  rw [judgeTag, hpend, if_neg Bool.false_ne_true, hfound]
  exact if_pos ⟨hcode, hdigest⟩

theorem appendReply_spec {r : Reply} (hsettled : ∀ e ∈ s.hl.pend, e.ended = none) :
    (appendReply r s).hl.intake = s.hl.intake ∧ ReplyGiven r.tag r.payload r.restart (appendReply r s)
      ∧ (appendReply r s).hl.cache = s.hl.cache ∧ SameButLink s (appendReply r s) := by
  have hchosen := chosen_txChoose (s := pushReply r s) hsettled
  have hsame : SameButLink s (pushReply r s) :=
    ⟨rfl, rfl, rfl, rfl, rfl, rfl, rfl, rfl, rfl, rfl, rfl, rfl, rfl, ⟨rfl, rfl⟩, ⟨rfl, rfl⟩, fun _ => ⟨rfl, rfl⟩⟩
  exact ⟨hchosen.intake, hchosen.replies r (by simp [pushReply]), hchosen.cache, hsame.trans rfl hchosen.sameButLink⟩

theorem sameButLink_setIntake (frames : List Frame) (s : State) : SameButLink s (setIntake frames s) :=
  ⟨rfl, rfl, rfl, rfl, rfl, rfl, rfl, rfl, rfl, rfl, rfl, rfl, rfl, ⟨rfl, rfl⟩, ⟨rfl, rfl⟩, fun _ => ⟨rfl, rfl⟩⟩

/-- A frame answered by the judgement of its TAG alone. -/
theorem gives_appendReply {c : Instr} {payload : List Byte} (hsettled : ∀ e ∈ s.hl.pend, e.ended = none)
    (hexec : exec c s = .next (appendReply ⟨f.tag, payload, false⟩ (setIntake rest s))) :
    Gives c s (fun t => t.hl.intake = rest ∧ ReplyGiven f.tag payload false t ∧ t.hl.cache = s.hl.cache ∧ SameButLink s t) := by
  obtain ⟨hintake, hreply, hcache, hsame⟩ := appendReply_spec (s := setIntake rest s) (r := ⟨f.tag, payload, false⟩) hsettled
  exact ⟨_, hexec, hintake, hreply, hcache, (sameButLink_setIntake rest s).trans rfl hsame⟩

theorem dispatch_judges_tag {c : Instr} {code : Byte} (hc : requestCode c = some code) (hfront : s.hl.intake = f :: rest)
    (hcode : f.code = some code) :
    ((s.oc.held = true ∨ s.oc.restart.isSome = true ∨ 4 ≤ s.hl.replies.length) → exec c s = .next s)
    ∧ (s.oc.held = false → s.oc.restart = none → s.hl.replies.length < 4 → (∀ e ∈ s.hl.pend, e.ended = none) →
      ((∃ e ∈ s.hl.pend, e.tag = f.tag) → Gives c s (fun t =>
        t.hl.intake = rest ∧ ReplyGiven f.tag [code, 0x04] false t ∧ t.hl.cache = s.hl.cache ∧ SameButLink s t))
      ∧ (∀ before e after, (∀ x ∈ s.hl.pend, x.tag ≠ f.tag) → s.hl.cache = before ++ e :: after →
        (∀ x ∈ before, x.tag ≠ f.tag) → e.tag = f.tag → e.code = some code → e.digest = digestOf f.payload →
        Gives c s (fun t =>
          t.hl.intake = rest ∧ ReplyGiven f.tag e.payload false t ∧ t.hl.cache = s.hl.cache ∧ SameButLink s t))) := by
  obtain ⟨body, hexec⟩ := exec_of_requestCode hc
  refine ⟨fun hnot => ?_, fun hheld hrestart hroom hsettled => ?_⟩
  · rw [hexec, dispatch_not_taken hfront (mayDispatch_eq_false hnot)]
  · have htaken : exec c s = .next (judgeTag f body (setIntake rest s)) := by
      rw [hexec, dispatch_taken hfront (mayDispatch_eq_true hheld hrestart hroom) (by rw [hcode]; exact beq_self_eq_true _)]
    refine ⟨fun hpending => gives_appendReply hsettled ?_, fun before e after hfree hcache hbefore htag hecode hdigest =>
      gives_appendReply hsettled ?_⟩
    · rw [htaken, judgeTag_pending (by exact hpending), hcode]
      rfl
    · rw [htaken, judgeTag_repeat (by exact hfree) (by exact hcache) hbefore htag (hecode.trans hcode.symm) hdigest]

end

/-! ### Arguments that do not fit -/

theorem modeArg_eq_none {args : List Byte} (h : args.length ≠ 1 ∨ 3 < (args.getD 0 0xFF).toNat) : modeArg args = none := by
  match args, h with
  | [], _ => rfl
  | [b], h =>
    have hb : 3 < b.toNat := h.resolve_left fun hne => hne rfl
    have hne (n : Byte) (hn : n.toNat ≤ 3) : b ≠ n := by rintro rfl; omega
    rw [modeArg, partStateOf, if_neg (hne 0 (by decide)), if_neg (hne 1 (by decide)), if_neg (hne 2 (by decide)),
      if_neg (hne 3 (by decide))]
  | _ :: _ :: _, _ => rfl

theorem trimArgs_eq_none {args : List Byte} (h : args.length ≠ 3) : trimArgs args = none := by
  match args, h with
  | [], _ | [_], _ | [_, _], _ => rfl
  | [_, _, _], h => exact absurd rfl h
  | _ :: _ :: _ :: _ :: _, _ => rfl

theorem actionOf_eq_none {a : Byte} (h : a = 0 ∨ 5 < a.toNat) : actionOf a = none := by
  have hne (n : Byte) (hpos : n ≠ 0) (hn : n.toNat ≤ 5) : a ≠ n := by
    rintro rfl
    obtain h | h := h
    · exact hpos h
    · omega
  rw [actionOf, if_neg (hne 1 (by decide) (by decide)), if_neg (hne 2 (by decide) (by decide)),
    if_neg (hne 3 (by decide) (by decide)), if_neg (hne 4 (by decide) (by decide)), if_neg (hne 5 (by decide) (by decide))]

theorem adminArgs_eq_none {args : List Byte} (h : args.length ≠ 2 ∨ 7 < (args.getD 0 0xFF).toNat ∨ args.getD 1 0xFF = 0
    ∨ 5 < (args.getD 1 0xFF).toNat) : adminArgs args = none := by
  match args, h with
  | [], _ | [_], _ => rfl
  | [b, a], h =>
    obtain hlen | hslot | haction := h
    · exact absurd rfl hlen
    · rw [adminArgs, slotOf_eq_none (b := b) hslot]
    · rw [adminArgs, actionOf_eq_none (a := a) haction]
      cases slotOf b <;> rfl
  | _ :: _ :: _ :: _, _ => rfl

theorem slotOrNone_eq_none {b : Byte} (h : 7 < b.toNat ∧ b ≠ 0xFF) : slotOrNone b = none := by
  rw [slotOrNone, if_neg h.2, slotOf_eq_none h.1]
  rfl

theorem manualReadArgs_eq_none {args : List Byte}
    (h : args.length ≠ 4 ∨ (7 < (args.getD 0 0xFF).toNat ∧ args.getD 0 0xFF ≠ 0xFF)) : manualReadArgs args = none := by
  match args, h with
  | [], _ | [_], _ | [_, _], _ | [_, _, _], _ => rfl
  | [b, _, _, _], h =>
    have hslot := h.resolve_left fun hne => hne rfl
    rw [manualReadArgs, slotOrNone_eq_none (b := b) hslot]
    rfl
  | _ :: _ :: _ :: _ :: _ :: _, _ => rfl

theorem manualWriteArgs_eq_none {args : List Byte} (h : args.length < 4 ∨ args.length ≠ 4 + (args.getD 3 0xFF).toNat
    ∨ (7 < (args.getD 0 0xFF).toNat ∧ args.getD 0 0xFF ≠ 0xFF)) : manualWriteArgs args = none := by
  match args, h with
  | [], _ | [_], _ | [_, _], _ | [_, _, _], _ => rfl
  | b :: addr :: reg :: n :: data, h =>
    rw [manualWriteArgs]
    split
    · next hlen =>
      obtain hshort | hcount | hslot := h
      · exact absurd hshort (by simp)
      · exact absurd (show data.length + 4 = 4 + n.toNat by omega) hcount
      · rw [slotOrNone_eq_none (b := b) hslot]
        rfl
    · rfl

theorem openArgs_eq_none {args : List Byte} (h : args.length ≠ 2 ∨ 3 < (args.getD 0 0xFF).toNat) : openArgs args = none := by
  match args, h with
  | [], _ | [_], _ => rfl
  | [kind, id], h => exact if_neg (Nat.not_le.2 (h.resolve_left fun hne => hne rfl))
  | _ :: _ :: _ :: _, _ => rfl

theorem pointsArgs_unfit {args : List Byte} (h : args.length < 2 ∨ args.getD 1 0xFF = 0 ∨ 24 < (args.getD 1 0xFF).toNat
    ∨ args.length ≠ 2 + 4 * (args.getD 1 0xFF).toNat) : pointsArgs args = none := by
  match args, h with
  | [], _ | [_], _ => rfl
  | start :: n :: bytes, h =>
    refine pointsArgs_eq_none ((h.resolve_left (by simp)).imp_right (Or.imp_right fun hlen heq => hlen ?_))
    change bytes.length + 2 = 2 + 4 * n.toNat
    omega

theorem entriesArgs_unfit {args : List Byte} (h : args.length < 2 ∨ args.getD 1 0xFF = 0 ∨ 32 < (args.getD 1 0xFF).toNat
    ∨ args.length ≠ 2 + 5 * (args.getD 1 0xFF).toNat) : entriesArgs args = none := by
  match args, h with
  | [], _ | [_], _ => rfl
  | start :: n :: bytes, h =>
    refine entriesArgs_eq_none ((h.resolve_left (by simp)).imp_right (Or.imp_right fun hlen heq => hlen ?_))
    change bytes.length + 2 = 2 + 5 * n.toNat
    omega

theorem entryWidthsFit_append (items : List ImageEntry) (bytes : List Byte) :
    entryWidthsFit (items.flatMap entryBytes ++ bytes) = entryWidthsFit bytes := by
  induction items with
  | nil => rfl
  | cons e items ih =>
    change ((widthOf (widthCode e.width)).isSome && entryWidthsFit (items.flatMap entryBytes ++ bytes)) = entryWidthsFit bytes
    rw [widthOf_widthCode, ih]
    rfl

theorem entriesArgs_badWidth {start n reg width hi lo delay : Byte} {before : List ImageEntry} {after : List Byte}
    (h : 1 < width.toNat) :
    entriesArgs (start :: n :: (before.flatMap entryBytes ++ ([reg, width, hi, lo, delay] ++ after))) = none := by
  refine if_neg fun ⟨_, _, _, hwidths⟩ => ?_
  rw [entryWidthsFit_append] at hwidths
  change ((widthOf width).isSome && entryWidthsFit after) = true at hwidths
  rw [widthOf_eq_none h] at hwidths
  exact absurd hwidths Bool.false_ne_true

/-! ### Arguments that fit, for START -/

theorem trimArgs_isSome {args : List Byte} (h : args.length = 3) : ∃ a, trimArgs args = some a := by
  match args, h with
  | [_, _, _], _ => exact ⟨_, rfl⟩

theorem byteArg_isSome {args : List Byte} (h : args.length = 1) : ∃ a, byteArg args = some a := by
  match args, h with
  | [_], _ => exact ⟨_, rfl⟩

theorem noArgs_of_length {args : List Byte} (h : args.length = 0) : noArgs args = some () := by
  rw [List.length_eq_zero_iff.1 h]
  rfl

theorem openArgs_isSome {args : List Byte} (h : args.length = 2) (hkind : (args.getD 0 0xFF).toNat ≤ 3) : ∃ a, openArgs args = some a := by
  match args, h with
  | [kind, id], _ => exact ⟨_, openArgs_kind hkind⟩

theorem pointsArgs_isSome {args : List Byte} (hpos : 1 ≤ (args.getD 1 0xFF).toNat) (hmax : (args.getD 1 0xFF).toNat ≤ 24)
    (h : args.length = 2 + 4 * (args.getD 1 0xFF).toNat) : ∃ a, pointsArgs args = some a := by
  match args, h with
  | [], h => exact absurd h (by simp)
  | [_], h => exact absurd h (by simp)
  | start :: n :: bytes, h =>
    have hlen : bytes.length = 4 * n.toNat := by
      change bytes.length + 2 = 2 + 4 * n.toNat at h
      omega
    exact ⟨_, if_pos ⟨hpos, hmax, hlen⟩⟩

theorem entriesArgs_isSome {start : Byte} {items : List ImageEntry} (hpos : 1 ≤ items.length) (hmax : items.length ≤ 32) :
    ∃ a, entriesArgs (start :: byteOf items.length :: items.flatMap entryBytes) = some a := by
  rw [entriesArgs, byteOf_toNat (by omega), if_pos ⟨hpos, hmax, entries_length items, entryWidthsFit_entries items⟩]
  exact ⟨_, rfl⟩

theorem length_ne_zero_of_ne {args : List Byte} (h : args.length ≠ 0) : noArgs args = none :=
  noArgs_eq_none fun heq => h (by rw [heq]; rfl)

/-! ### The obligation -/

section
variable {s : State} {f : Frame} {rest : List Frame}

theorem exec_editShow_form (h : Asked s f rest) (hcode : f.code = some 0x36) : exec .editShow s
    = .next ((fun f s => match noArgs f.args with
      | none => reply f .badArgument [] (restartIfOpen s)
      | some _ => if s.oc.part = .start then refuseState f s else showEdit f s) f (taken f rest s)) :=
  exec_of_dispatch (body := fun f s => match noArgs f.args with
    | none => reply f .badArgument [] (restartIfOpen s)
    | some _ => if s.oc.part = .start then refuseState f s else showEdit f s) rfl h hcode

theorem exec_editCommit_form (h : Asked s f rest) (hcode : f.code = some 0x37) :
    exec .editCommit s = .next (judged (noArgs f.args) afterStart commitEdit f (taken f rest s)) :=
  exec_of_dispatch (body := fun f s => judged (noArgs f.args) afterStart commitEdit f s) rfl h hcode

theorem exec_manualRead (h : Asked s f rest) (hcode : f.code = some 0x20) :
    exec .manualRead s = .next (manual .read (manualReadArgs f.args) f (taken f rest s)) :=
  exec_of_dispatch (body := fun f s => manual .read (manualReadArgs f.args) f s) rfl h hcode

theorem exec_manualWrite (h : Asked s f rest) (hcode : f.code = some 0x21) :
    exec .manualWrite s = .next (manual .write (manualWriteArgs f.args) f (taken f rest s)) :=
  exec_of_dispatch (body := fun f s => manual .write (manualWriteArgs f.args) f s) rfl h hcode

/-- EDIT_SHOW is judged as an editing request is, but for COMMITTING. -/
theorem editShow_as_editing {body : Unit → EditBuffer → Frame → State → State} {u : State} (h : noArgs f.args = none ∨ u.oc.part = .start) :
    (match noArgs f.args with
      | none => reply f .badArgument [] (restartIfOpen u)
      | some _ => if u.oc.part = .start then refuseState f u else showEdit f u) = editing (noArgs f.args) body f u := by
  cases hargs : noArgs f.args with
  | none => rfl
  | some a =>
    have hpart : u.oc.part = .start := h.resolve_left (by rw [hargs]; nofun)
    rw [editing]
    simp only [hpart, if_true]

end

/-- Settles O50: the TAG for every request command, then each request's encoding, then START. -/
theorem dispatchJudgesTagThenEncodingAndPartState : Obligations.DispatchJudgesTagThenEncodingAndPartState := by
  unfold Obligations.DispatchJudgesTagThenEncodingAndPartState
  refine ⟨fun c code s f rest hc hfront hcode => dispatch_judges_tag hc hfront hcode, ?_⟩
  intro derate s f rest h sampled timed n arg
  have hshow (hcode : f.code = some 0x36) (hform : noArgs f.args = none ∨ s.oc.part = .start) :
      exec .editShow s = .next (editing (noArgs f.args) editRemoveBody f (taken f rest s)) :=
    (exec_editShow_form h hcode).trans (congrArg _ (editShow_as_editing hform))
  refine ⟨fun hpart => ⟨fun hcode hlen => ?_, fun hcode hlen => ?_, fun hcode hlen => ?_, fun hcode hlen hkind => ?_,
      fun hcode hpos hmax hlen => ?_, fun start items hcode hpos hmax hargs => ?_, fun hcode hlen => ?_, fun hcode hlen => ?_,
      fun hcode hlen => ?_, fun hcode hlen => ?_, fun hcode hlen => ?_⟩,
    fun hcode hbad => ?_, fun hcode hlen => ?_, fun hcode hlen => ?_, fun hcode hlen => ?_, fun hcode hbad => ?_, fun hcode hlen => ?_,
    fun hcode hbad => ?_, fun hcode hbad => ?_, fun hcode hbad => ?_, fun hcode hbad => ?_, fun hcode hbad => ?_,
    fun start before after reg width hi lo delay hcode _ hwidth hargs => ?_, fun hcode hlen => ?_, fun hcode hlen => ?_,
    fun hcode hlen => ?_, fun hcode hlen => ?_, fun hcode hlen => ?_⟩
  · obtain ⟨a, ha⟩ := trimArgs_isSome hlen
    exact request_start h hcode (exec_setTrim h hcode) ha hpart
  · obtain ⟨a, ha⟩ := byteArg_isSome hlen
    have hanswer := request_refused (after := sampleDerate derate s) h hcode rfl (exec_setDerate derate h hcode) ha
      (not_afterStart (by exact hpart))
    rwa [show (sampleDerate derate s).oc.part = .start from hpart] at hanswer
  · exact request_start h hcode (exec_restart h hcode) (noArgs_of_length hlen) hpart
  · obtain ⟨a, ha⟩ := openArgs_isSome hlen hkind
    exact request_start h hcode (exec_editOpen h hcode) ha hpart
  · obtain ⟨a, ha⟩ := pointsArgs_isSome hpos hmax hlen
    exact edit_start h hcode (exec_editPoints h hcode) ha hpart
  · obtain ⟨a, ha⟩ := entriesArgs_isSome (start := start) hpos hmax
    exact edit_start h hcode (exec_editEntries h hcode) (hargs ▸ ha) hpart
  · obtain ⟨a, ha⟩ := byteArg_isSome hlen
    exact edit_start h hcode (exec_editCount h hcode) ha hpart
  · exact edit_start h hcode (exec_editRemove h hcode) (noArgs_of_length hlen) hpart
  · exact edit_start h hcode (hshow hcode (.inr hpart)) (noArgs_of_length hlen) hpart
  · exact request_start h hcode (exec_editCommit_form h hcode) (noArgs_of_length hlen) hpart
  · exact request_start h hcode (exec_editAbandon h hcode) (noArgs_of_length hlen) hpart
  · refine onlyAnswers_taken (r := .badArgument) h hcode ((exec_setMode h hcode).trans ?_)
    dsimp only
    rw [modeArg_eq_none hbad]
    rfl
  · exact request_badArgument h hcode rfl (exec_setTrim h hcode) (trimArgs_eq_none hlen)
  · exact request_badArgument (after := sampled) h hcode rfl (exec_setDerate derate h hcode) (byteArg_eq_none hlen)
  · exact request_badArgument (after := sampled) h hcode rfl (exec_passNow derate h hcode) (length_ne_zero_of_ne hlen)
  · refine onlyAnswers_taken (r := .badArgument) h hcode ((exec_targetAdmin derate h hcode).trans ?_)
    dsimp only
    rw [adminArgs_eq_none hbad]
    rfl
  · exact request_badArgument h hcode rfl (exec_restart h hcode) (length_ne_zero_of_ne hlen)
  · refine onlyAnswers_taken (r := .badArgument) h hcode ((exec_manualRead h hcode).trans ?_)
    rw [manualReadArgs_eq_none hbad]
    rfl
  · refine onlyAnswers_taken (r := .badArgument) h hcode ((exec_manualWrite h hcode).trans ?_)
    rw [manualWriteArgs_eq_none hbad]
    rfl
  · exact request_badArgument h hcode rfl (exec_editOpen h hcode) (openArgs_eq_none hbad)
  · exact edit_badArgument h hcode (exec_editPoints h hcode) (pointsArgs_unfit hbad)
  · exact edit_badArgument h hcode (exec_editEntries h hcode) (entriesArgs_unfit hbad)
  · exact edit_badArgument h hcode (exec_editEntries h hcode) (by rw [hargs]; exact entriesArgs_badWidth hwidth)
  · exact edit_badArgument h hcode (exec_editCount h hcode) (byteArg_eq_none hlen)
  · exact edit_badArgument h hcode (exec_editRemove h hcode) (length_ne_zero_of_ne hlen)
  · exact edit_badArgument h hcode (hshow hcode (.inl (length_ne_zero_of_ne hlen))) (length_ne_zero_of_ne hlen)
  · exact request_badArgument h hcode rfl (exec_editCommit_form h hcode) (length_ne_zero_of_ne hlen)
  · exact request_badArgument h hcode rfl (exec_editAbandon h hcode) (length_ne_zero_of_ne hlen)

end Sys2Proof.Machine
end

section
/-! MANUAL_READ and MANUAL_WRITE: the checks in their order, and the transfer that is queued (O53). -/

namespace Sys2Proof.Machine

section
variable {s : State} {f : Frame} {rest : List Frame}

/-! ### A transfer behind a grant decision -/

theorem grantDecision_mem (s : State) {y : Transfer} (hy : y ∈ s.bm.queue) :
    ∃ x ∈ (grantDecision s).bm.queue, x = { y with onBus := x.onBus } := by
  rcases grantDecision_choice s with hsame | ⟨g, -, -, -, hgrant⟩
  · exact ⟨y, by rw [hsame]; exact hy, rfl⟩
  · rw [hgrant, grant_queue]
    refine ⟨_, List.mem_map.2 ⟨y, hy, rfl⟩, ?_⟩
    split <;> rfl

theorem grantDecision_length (s : State) : (grantDecision s).bm.queue.length = s.bm.queue.length := by
  rcases grantDecision_choice s with hsame | ⟨g, -, -, -, hgrant⟩
  · rw [hsame]
  · rw [hgrant, grant_queue, List.length_map]

/-! ### The forms of a manual request -/

/-- The command, code and arguments of a manual request in each direction. -/
def manualCommand : Dir → Instr
  | .read => .manualRead
  | .write => .manualWrite

/-- The code of a manual request. -/
def manualRequestCode : Dir → Byte
  | .read => 0x20
  | .write => 0x21

/-- The bytes a manual transfer reads. -/
def manualReadLen (d : Dir) (count : Nat) : Nat :=
  match d with
  | .read => count
  | .write => 0

/-- The arguments a manual request carries behind its slot byte. -/
structure ManualForm (f : Frame) (d : Dir) (b a reg n : Byte) (data : List Byte) : Prop where
  code : f.code = some (manualRequestCode d)
  exec : ∀ {s rest}, Asked s f rest → exec (manualCommand d) s
    = .next (manual d ((slotOrNone b).map fun i => ⟨i, a, reg, n.toNat, data⟩) f (taken f rest s))
  inserted : insertedItems f.args = [b, a, reg]

theorem manualForm {b a reg n : Byte} {data : List Byte} {d : Dir} (h : match d with
      | .read => f.code = some 0x20 ∧ f.args = [b, a, reg, n] ∧ data = []
      | .write => f.code = some 0x21 ∧ f.args = b :: a :: reg :: n :: data ∧ data.length = n.toNat) :
    ManualForm f d b a reg n data := by
  cases d with
  | read =>
    obtain ⟨hcode, hargs, rfl⟩ := h
    refine ⟨hcode, fun hasked => (exec_manualRead hasked hcode).trans ?_, by rw [hargs]; rfl⟩
    rw [hargs]
    rfl
  | write =>
    obtain ⟨hcode, hargs, hlen⟩ := h
    refine ⟨hcode, fun hasked => (exec_manualWrite hasked hcode).trans ?_, by rw [hargs]; rfl⟩
    rw [hargs, manualWriteArgs, if_pos hlen]

variable {b a reg n : Byte} {data : List Byte} {d : Dir}

/-- A manual request refused at its dispatch. -/
theorem manual_refused (h : Asked s f rest) (hform : ManualForm f d b a reg n data) {r : Result} {content : List Byte}
    (hbody : manual d ((slotOrNone b).map fun i => ⟨i, a, reg, n.toNat, data⟩) f (taken f rest s)
      = refuseManual f r content (taken f rest s)) :
    OnlyAnswers (manualCommand d) s f rest (manualRequestCode d :: r.code :: b :: a :: reg :: content) := by
  have hexec : exec (manualCommand d) s = .next (reply f r (insertedItems f.args ++ content) (taken f rest s)) :=
    (hform.exec h).trans (congrArg _ hbody)
  rw [hform.inserted] at hexec
  exact onlyAnswers_taken h hform.code hexec

/-! ### Encoding, part state and lengths -/

theorem slotOrNone_slot (slot : Slot) : slotOrNone (byteOf slot.val) = some (some slot) := by
  have hne : byteOf slot.val ≠ 0xFF := by
    intro heq
    have hval := congrArg BitVec.toNat heq
    rw [byteOf_slot] at hval
    exact absurd (hval ▸ slot.isLt : (0xFF : Byte).toNat < 8) (by decide)
  rw [slotOrNone, if_neg hne, slotOf_byteOf]
  rfl

theorem slotOrNone_isSome {b : Byte} (h : b = 0xFF ∨ b.toNat < 8) :
    ∃ i : Option Slot, slotOrNone b = some i ∧ (i = none ↔ b = 0xFF) := by
  by_cases hnone : b = 0xFF
  · exact ⟨none, by rw [slotOrNone, if_pos hnone], by simp [hnone]⟩
  · have hb := h.resolve_left hnone
    refine ⟨some ⟨b.toNat, hb⟩, ?_, iff_of_false nofun hnone⟩
    rw [slotOrNone, if_neg hnone, slotOf, dif_pos hb]
    rfl

theorem malformed_iff {a : ManualArgs} : malformed a = true ↔
    (a.slot = none ∧ (a.addr.toNat < 0x08 ∨ 0x77 < a.addr.toNat)) ∨ a.count < 1 ∨ 16 < a.count := by
  simp [malformed, Option.isNone_iff_eq_none, or_assoc]

theorem manual_start {parsed : Option ManualArgs} {x : ManualArgs} {u : State} (hparsed : parsed = some x) (hpart : u.oc.part = .start) :
    manual d parsed f u = refuseManual f .wrongState [u.oc.part.code] u := by
  rw [hparsed, manual, if_pos hpart]

theorem manual_malformed {parsed : Option ManualArgs} {x : ManualArgs} {u : State} (hparsed : parsed = some x)
    (hpart : u.oc.part ≠ .start) (hbad : malformed x = true) : manual d parsed f u = refuseManual f .badArgument [] u := by
  rw [hparsed, manual, if_neg hpart, if_pos hbad]

theorem manual_admit {parsed : Option ManualArgs} {x : ManualArgs} {u : State} (hparsed : parsed = some x)
    (hpart : u.oc.part ≠ .start) (hok : malformed x = false) : manual d parsed f u = admitManual d x f u := by
  rw [hparsed, manual, if_neg hpart, if_neg (by rw [hok]; exact Bool.false_ne_true)]

/-! ### Admission -/

section
variable {x : ManualArgs} {u : State} {slot : Slot}

theorem admitManual_slot (hslot : x.slot = some slot) {r : TargetRecord} (hadmits : admitsManual d u.ctxs[slot].state = true)
    (hr : activeRecord u slot = some r) : admitManual d x f u = enqueueManual d x r.addr f u := by
  rw [admitManual, hslot]
  simp only [hadmits, hr]

theorem admitManual_slotRefused (hslot : x.slot = some slot)
    (hrefused : admitsManual d u.ctxs[slot].state = false ∨ activeRecord u slot = none) :
    admitManual d x f u = refuseManual f .targetState [byteOf slot.val, u.ctxs[slot].state.code] u := by
  rw [admitManual, hslot]
  dsimp only
  obtain hrefused | hrefused := hrefused
  · rw [hrefused]
  · rw [hrefused]
    cases admitsManual d u.ctxs[slot].state <;> rfl

theorem admitManual_raw (hslot : x.slot = none) (hfree : rawOwner d x.addr u = none) :
    admitManual d x f u = enqueueManual d x x.addr f u := by
  rw [admitManual, hslot]
  dsimp only
  rw [hfree]

theorem admitManual_owned (hslot : x.slot = none) (howned : rawOwner d x.addr u = some slot) :
    admitManual d x f u = refuseManual f .addressOwned [byteOf slot.val, u.ctxs[slot].state.code] u := by
  rw [admitManual, hslot]
  dsimp only
  rw [howned]

/-- A slot owns an address against raw writes. -/
def Owns (s : State) (addr : Byte) (i : Slot) : Prop :=
  s.ctxs[i].state ≠ .unconfigured ∧ s.ctxs[i].state ≠ .suspended ∧ s.ctxs[i].state ≠ .disabled
    ∧ ∃ r, activeRecord s i = some r ∧ r.addr = addr

theorem automaticUse_iff {st : TargetState} : automaticUse st = true ↔ st ≠ .unconfigured ∧ st ≠ .suspended ∧ st ≠ .disabled := by
  cases st <;> simp [automaticUse]

theorem owningTest_iff (s : State) (addr : Byte) (i : Slot) : (automaticUse s.ctxs[i].state && (match activeRecord s i with
    | some r => r.addr == addr
    | none => false)) = true ↔ Owns s addr i := by
  rw [Bool.and_eq_true, automaticUse_iff, Owns, and_assoc, and_assoc]
  cases activeRecord s i <;> simp

theorem owningSlot_eq_none {addr : Byte} (h : ∀ i, ¬ Owns s addr i) : owningSlot s addr = none :=
  find?_finRange_eq_none.2 fun i => Bool.not_eq_true _ ▸ fun htest => h i ((owningTest_iff s addr i).1 htest)

theorem owningSlot_eq_some {addr : Byte} {i : Slot} (h : Owns s addr i) (hlow : ∀ j, j < i → ¬ Owns s addr j) :
    owningSlot s addr = some i :=
  find?_finRange_eq_some ((owningTest_iff s addr i).2 h)
    fun j hj => Bool.not_eq_true _ ▸ fun htest => hlow j hj ((owningTest_iff s addr j).1 htest)

/-! ### The pending table and the queue -/

theorem enqueueManual_full {addr : Byte} (h : 4 ≤ u.hl.pend.length) : enqueueManual d x addr f u = refuseManual f .busy [] u := if_pos h

theorem enqueueManual_fault {addr : Byte} (h : u.hl.pend.length < 4) (hfault : u.bm.cond = .fault) :
    enqueueManual d x addr f u = refuseManual f .transferFailed [0x05] u := by
  have hrefuse : refuseEnqueue .manual u = some .busFault := if_pos ⟨rfl, hfault⟩
  rw [enqueueManual, if_neg (show ¬ Config.pendingPlaces ≤ u.hl.pend.length from Nat.not_le.2 h), hrefuse]
  rfl

theorem refuseEnqueue_manual_ready (hready : u.bm.cond = .ready) :
    refuseEnqueue .manual u = if 32 ≤ u.bm.queue.length then some .full else none := by
  have hnot : ¬ (Class.manual = .manual ∧ u.bm.cond = .fault) := by rw [hready]; nofun
  rw [refuseEnqueue, if_neg hnot, if_neg (show ¬ (Class.manual = .compensate ∧ _) by nofun)]
  rfl

theorem enqueueManual_queueFull {addr : Byte} (h : u.hl.pend.length < 4) (hready : u.bm.cond = .ready) (hfull : 32 ≤ u.bm.queue.length) :
    enqueueManual d x addr f u = refuseManual f .queueFull [] u := by
  rw [enqueueManual, if_neg (show ¬ Config.pendingPlaces ≤ u.hl.pend.length from Nat.not_le.2 h), refuseEnqueue_manual_ready hready, if_pos hfull]

theorem enqueueManual_queued {addr : Byte} (h : u.hl.pend.length < 4) (hready : u.bm.cond = .ready) (hroom : u.bm.queue.length < 32) :
    enqueueManual d x addr f u
      = grantDecision (addTransfer (manualRequest d x addr f.tag) (addPending f (.transfer u.bm.nextId) u)) := by
  rw [enqueueManual, if_neg (show ¬ Config.pendingPlaces ≤ u.hl.pend.length from Nat.not_le.2 h), refuseEnqueue_manual_ready hready, if_neg (Nat.not_le.2 hroom)]

end

/-- An admitted manual request by the pending table, the bus and the queue. -/
theorem manual_admitted (h : Asked s f rest) (hform : ManualForm f d b a reg n data) {slot : Option Slot} {addr : Byte}
    {x : ManualArgs} (hx : x.slot = slot ∧ x.reg = reg ∧ x.data = data ∧ x.count = n.toNat)
    (hbody : manual d ((slotOrNone b).map fun i => ⟨i, a, reg, n.toNat, data⟩) f (taken f rest s)
      = enqueueManual d x addr f (taken f rest s)) :
    let refused (r : Byte) (content : List Byte) : Prop :=
      OnlyAnswers (manualCommand d) s f rest (manualRequestCode d :: r :: b :: a :: reg :: content)
    (4 ≤ s.hl.pend.length → refused 0x03 [])
    ∧ (s.hl.pend.length < 4 → s.bm.cond = .fault → refused 0x0D [0x05])
    ∧ (s.hl.pend.length < 4 → s.bm.cond = .ready → 32 ≤ s.bm.queue.length → refused 0x0B [])
    ∧ (s.hl.pend.length < 4 → s.bm.cond = .ready → s.bm.queue.length < 32 → Gives (manualCommand d) s (fun t =>
      t.hl.intake = rest ∧ t.hl.replies = s.hl.replies ∧ t.hl.tx = s.hl.tx
      ∧ t.hl.pend = s.hl.pend ++ [⟨f.tag, f.code.getD 0, digestOf f.payload, .transfer s.bm.nextId, none⟩]
      ∧ t.bm.queue.length = s.bm.queue.length + 1
      ∧ (∃ x ∈ t.bm.queue, x.id = s.bm.nextId ∧ x.origin = .request f.tag ∧ x.slot = slot ∧ x.addr = addr ∧ x.dir = d
          ∧ x.reg = reg ∧ x.data = data ∧ x.readLen = manualReadLen d n.toNat ∧ x.attempts = 0 ∧ x.delay = 0 ∧ x.stale = false)
      ∧ t.ctxs = s.ctxs ∧ t.cs = s.cs ∧ t.nu = s.nu ∧ t.msgs = s.msgs ∧ t.mu = s.mu ∧ t.oc = s.oc
      ∧ ∀ id : ProfileId, t.ce.shadows[id].written = s.ce.shadows[id].written)) := by
  intro refused
  refine ⟨fun hfull => manual_refused (r := .busy) h hform (hbody.trans (enqueueManual_full (by exact hfull))),
    fun hpend hfault => manual_refused (r := .transferFailed) h hform (hbody.trans (enqueueManual_fault (by exact hpend) (by exact hfault))),
    fun hpend hready hfull => manual_refused (r := .queueFull) h hform
      (hbody.trans (enqueueManual_queueFull (by exact hpend) (by exact hready) (by exact hfull))),
    fun hpend hready hroom => ?_⟩
  obtain ⟨rfl, rfl, rfl, hcount⟩ := hx
  refine ⟨_, (hform.exec h).trans (congrArg _ (hbody.trans
    (enqueueManual_queued (by exact hpend) (by exact hready) (by exact hroom)))), ?_⟩
  let u : State := addTransfer (manualRequest d x addr f.tag) (addPending f (.transfer (taken f rest s).bm.nextId) (taken f rest s))
  obtain ⟨-, -, -, -, hmu, hctxs, hcs, hoc, hhl, hnu, hmsgs⟩ := grantDecision_keeps u
  refine ⟨by rw [hhl]; rfl, by rw [hhl]; rfl, by rw [hhl]; rfl, by rw [hhl]; rfl, ?_, ?_, hctxs, hcs, hnu, hmsgs, hmu, hoc,
    fun id => ?_⟩
  · rw [grantDecision_length]
    exact List.length_append
  · obtain ⟨y, hy, heq⟩ := grantDecision_mem u (y := (manualRequest d x addr f.tag).record s.bm.nextId s.bm.nextAge)
      (List.mem_append_right _ List.mem_cons_self)
    refine ⟨y, hy, ?_⟩
    rw [heq]
    refine ⟨rfl, rfl, rfl, rfl, rfl, rfl, rfl, ?_, rfl, rfl, rfl⟩
    rw [← hcount]
    rfl
  · obtain ⟨-, hwritten, -, -⟩ := (grantDecision_shadow u id).fields
    exact hwritten

end

/-- Settles O53: the checks of a manual request one after the other. -/
theorem manualRequestsAreQueuedOrRefused : Obligations.ManualRequestsAreQueuedOrRefused := by
  unfold Obligations.ManualRequestsAreQueuedOrRefused
  intro s f rest b a reg n data d h hshape c refused queued admitted
  have hform : ManualForm f d b a reg n data := manualForm hshape
  have hcommand : c = manualCommand d := by cases d <;> rfl
  have hrefused (r : Byte) (content : List Byte) : refused r content
      = OnlyAnswers (manualCommand d) s f rest (manualRequestCode d :: r :: b :: a :: reg :: content) := by
    cases d <;> rfl
  have hadmitted {x : ManualArgs} {addr : Byte} {slot : Option Slot} (hx : x.slot = slot ∧ x.reg = reg ∧ x.data = data ∧ x.count = n.toNat)
      (hbody : manual d ((slotOrNone b).map fun i => ⟨i, a, reg, n.toNat, data⟩) f (taken f rest s)
        = enqueueManual d x addr f (taken f rest s)) : admitted slot addr := by
    have hall := manual_admitted h hform hx hbody
    simp only [admitted, hrefused, queued, hcommand]
    exact hall
  refine ⟨fun hb hpart => ?_, fun hpart => ⟨fun hb hbad => ?_, fun hmin hmax => ⟨fun slot r hb hr => ?_, fun slot hb hnone => ?_,
    fun hb hlo hhi => ?_⟩⟩⟩
  · obtain ⟨i, hi, -⟩ := slotOrNone_isSome hb
    have hanswer := manual_refused h hform (manual_start (by rw [hi]; rfl) (by exact hpart))
    rw [show (taken f rest s).oc.part = .start from hpart] at hanswer
    rw [hrefused]
    exact hanswer
  · obtain ⟨i, hi, hnone⟩ := slotOrNone_isSome hb
    rw [hrefused]
    refine manual_refused (r := .badArgument) h hform (manual_malformed (by rw [hi]; rfl) (by exact hpart) (malformed_iff.2 ?_))
    obtain rfl | hlong | ⟨hraw, haddr⟩ := hbad
    · exact .inr (.inl Nat.zero_lt_one)
    · exact .inr (.inr hlong)
    · exact .inl ⟨hnone.2 hraw, haddr⟩
  · subst hb
    have hok : malformed ⟨some slot, a, reg, n.toNat, data⟩ = false := by
      rw [← Bool.not_eq_true, malformed_iff]
      rintro (⟨hslot, -⟩ | hshort | hlong)
      · exact absurd hslot nofun
      · exact absurd hmin (Nat.not_le.2 hshort)
      · exact absurd hmax (Nat.not_le.2 hlong)
    have hadmit := manual_admit (d := d) (f := f) (u := taken f rest s)
      (parsed := (slotOrNone (byteOf slot.val)).map fun i => ⟨i, a, reg, n.toNat, data⟩) (by rw [slotOrNone_slot]; rfl) (by exact hpart) hok
    intro st
    refine ⟨fun hst => ?_, fun hst => ?_⟩
    · refine hadmitted ⟨rfl, rfl, rfl, rfl⟩ (hadmit.trans (admitManual_slot rfl ?_ (by exact hr)))
      change admitsManual d st = true
      obtain hst | ⟨rfl, hst | hst | hst | hst | hst⟩ := hst <;> rw [hst]
      · cases d <;> rfl
      all_goals rfl
    · rw [hrefused]
      refine manual_refused (r := .targetState) h hform (hadmit.trans (admitManual_slotRefused rfl (.inl ?_)))
      change admitsManual d st = false
      obtain hst | hst | hst | ⟨rfl, hst⟩ := hst
      · rw [hst]
        cases d <;> rfl
      · rw [hst]
        cases d <;> rfl
      · rw [hst]
        cases d <;> rfl
      · cases hcase : st <;> simp_all [admitsManual]
  · subst hb
    rw [hrefused]
    have hok : malformed ⟨some slot, a, reg, n.toNat, data⟩ = false := by
      rw [← Bool.not_eq_true, malformed_iff]
      rintro (⟨hslot, -⟩ | hshort | hlong)
      · exact absurd hslot nofun
      · exact absurd hmin (Nat.not_le.2 hshort)
      · exact absurd hmax (Nat.not_le.2 hlong)
    exact manual_refused (r := .targetState) h hform ((manual_admit (by rw [slotOrNone_slot]; rfl) (by exact hpart) hok).trans
      (admitManual_slotRefused rfl (.inr (by exact hnone))))
  · subst hb
    intro owns
    have hok : malformed ⟨none, a, reg, n.toNat, data⟩ = false := by
      rw [← Bool.not_eq_true, malformed_iff]
      rintro (⟨-, haddr | haddr⟩ | hshort | hlong)
      · exact absurd hlo (Nat.not_le.2 haddr)
      · exact absurd hhi (Nat.not_le.2 haddr)
      · exact absurd hmin (Nat.not_le.2 hshort)
      · exact absurd hmax (Nat.not_le.2 hlong)
    have hadmit := manual_admit (d := d) (f := f) (u := taken f rest s)
      (parsed := (slotOrNone 0xFF).map fun i => ⟨i, a, reg, n.toNat, data⟩) rfl (by exact hpart) hok
    refine ⟨fun hd => ?_, fun hfree => ?_, fun i hd hi hlow => ?_⟩
    · subst hd
      exact hadmitted ⟨rfl, rfl, rfl, rfl⟩ (hadmit.trans (admitManual_raw rfl rfl))
    · refine hadmitted ⟨rfl, rfl, rfl, rfl⟩ (hadmit.trans (admitManual_raw rfl ?_))
      cases d with
      | read => rfl
      | write => exact owningSlot_eq_none hfree
    · subst hd
      rw [hrefused]
      exact manual_refused (r := .addressOwned) h hform (hadmit.trans (admitManual_owned rfl (owningSlot_eq_some hi hlow)))

end Sys2Proof.Machine
end

section
/-! The ends of a commit: the copy, the directory, the announcement and the answer (O39, O40). -/

namespace Sys2Proof.Machine

/-! ### The end of a pending operation -/

section
variable {s : State}

theorem endPending_named {op : PendingOp} {payload : List Byte} {e : PendingEntry} (he : e ∈ s.hl.pend) (hop : e.op = op)
    (hunique : ∀ x ∈ s.hl.pend, x.op = op → x = e) (hsettled : ∀ x ∈ s.hl.pend, x.ended = none) :
    endPending op payload s = if s.hl.replies.length < 4 then
      answerNow e.tag (some e.code) e.digest payload false
        { s with hl := { s.hl with pend := s.hl.pend.filter (fun x => x.tag != e.tag) } }
    else { s with hl := { s.hl with
      pend := s.hl.pend.map (fun x => if x.tag = e.tag then { x with ended := some (s.hl.endedCount, payload) } else x)
      endedCount := s.hl.endedCount + 1 } } := by
  have hfound : s.hl.pend.find? (fun e => e.op == op && e.ended.isNone) = some e := by
    cases hfind : s.hl.pend.find? (fun e => e.op == op && e.ended.isNone) with
    | none =>
      have hnot := List.find?_eq_none.1 hfind e he
      simp [hop, hsettled e he] at hnot
    | some x =>
      have hx := List.find?_some hfind
      simp only [Bool.and_eq_true, beq_iff_eq] at hx
      rw [hunique x (List.mem_of_find?_eq_some hfind) hx.1]
  rw [endPending, hfound]
  rfl

/-- The operation of one pending entry ends: answered, or waiting in its entry for room (R179, R180). -/
theorem endPending_spec {op : PendingOp} {payload : List Byte} {e : PendingEntry} (he : e ∈ s.hl.pend) (hop : e.op = op)
    (hunique : ∀ x ∈ s.hl.pend, x.op = op → x = e) (hsettled : ∀ x ∈ s.hl.pend, x.ended = none) :
    (s.hl.replies.length < 4 → ReplyGiven e.tag payload false (endPending op payload s)
      ∧ (endPending op payload s).hl.pend = s.hl.pend.filter (fun x => x.tag != e.tag)
      ∧ ⟨e.tag, some e.code, e.digest, payload⟩ ∈ (endPending op payload s).hl.cache)
    ∧ (4 ≤ s.hl.replies.length → (endPending op payload s).hl.replies = s.hl.replies
      ∧ (endPending op payload s).hl.cache = s.hl.cache
      ∧ (endPending op payload s).hl.pend
        = s.hl.pend.map (fun x => if x.tag = e.tag then { x with ended := some (s.hl.endedCount, payload) } else x)) := by
  rw [endPending_named he hop hunique hsettled]
  refine ⟨fun hroom => ?_, fun hfull => ?_⟩
  · rw [if_pos hroom]
    obtain ⟨-, hreply, hcache, hsame⟩ := answerNow_spec (tag := e.tag) (code := some e.code) (digest := e.digest)
      (payload := payload) (restart := false)
      (s := { s with hl := { s.hl with pend := s.hl.pend.filter (fun x => x.tag != e.tag) } })
      fun x hx => hsettled x (List.mem_filter.1 hx).1
    exact ⟨hreply, hsame.pend, hcache⟩
  · rw [if_neg (Nat.not_lt.2 hfull)]
    exact ⟨rfl, rfl, rfl⟩

theorem ReplyGiven.of_hl {tag : Byte} {payload : List Byte} {restart : Bool} {t u : State} (hhl : u.hl = t.hl)
    (h : ReplyGiven tag payload restart t) : ReplyGiven tag payload restart u := by
  unfold ReplyGiven
  rw [hhl]
  exact h

/-! ### Active contents -/

theorem activeContent_copyAt {α : Type} (f : α → Content) (e : DirEntry) (cs : Copies α) :
    (activeContent e cs).map f = e.active.bind fun n => ((cs.pick n).mapContent f).content := by
  unfold activeContent
  cases e.active with
  | none => rfl
  | some n => cases n <;> exact (Copy.content_mapContent ..).symm

/-- The content of the active copy of an object. -/
def activeCopy (s : State) (obj : ObjId) : Option Content :=
  (s.cs.dir.entry obj).active.bind fun n => (s.cs.store.copyAt obj n).content

theorem activeRecord_copy (s : State) (i : Slot) : (activeRecord s i).map Content.target = activeCopy s (.target i) :=
  activeContent_copyAt ..

theorem activeImage_copy (s : State) (i : Slot) : (activeImage s i).map Content.image = activeCopy s (.image i) :=
  activeContent_copyAt ..

theorem activeProfile_copy (s : State) (i : ProfileId) : (activeProfile s i).map Content.profile = activeCopy s (.profile i) :=
  activeContent_copyAt ..

theorem activeSettings_copy (s : State) :
    (activeContent s.cs.dir.settings s.cs.store.settings).map Content.settings = activeCopy s .settings := activeContent_copyAt ..

theorem writtenCopy_content (gen : Word16) (removal : Bool) (c : BufferContent) :
    (writtenCopy gen removal c).content = if removal then none else some c.stored := by cases removal <;> rfl

/-! ### The verified commit -/

variable {c : Commit} {b : EditBuffer}

theorem activateCopy_eq (c : Commit) (b : EditBuffer) (s : State) :
    activateCopy c b s = { s with cs := (activateCopy c b s).cs } := by
  unfold activateCopy
  dsimp only
  split <;> rfl

theorem activateCopy_entry (c : Commit) (b : EditBuffer) (s : State) (obj : ObjId) : (activateCopy c b s).cs.dir.entry obj
    = if obj = c.obj then
        { (s.cs.dir.entry c.obj).setInfo c.copy (if b.removal then .removed c.gen else .valid c.gen) with active := some c.copy }
      else s.cs.dir.entry obj := by
  have hentry := modEntry_entry c.obj obj (fun e =>
    { e.setInfo c.copy (if b.removal then .removed c.gen else .valid c.gen) with active := some c.copy })
    { s with cs := { s.cs with store := writeCopy c.obj c.copy c.gen b.removal b.content.stored s.cs.store } }
  unfold activateCopy
  dsimp only
  split <;> exact hentry

theorem activateCopy_inEffect (c : Commit) (b : EditBuffer) (s : State) :
    (activateCopy c b s).cs.inEffect = if c.obj = .settings then .stored else s.cs.inEffect := by
  unfold activateCopy
  dsimp only
  split <;> rfl

theorem announce_eq (obj : ObjId) (before after : State) :
    announce obj before after = { after with msgs := (announce obj before after).msgs } := by
  cases obj <;> rfl

/-- The part at the moment a verified commit is answered. -/
def verified (c : Commit) (b : EditBuffer) (s : State) : State :=
  closeSession { announce c.obj s (activateCopy c b s) with
    cs := { (announce c.obj s (activateCopy c b s)).cs with commit := none } }

theorem commitVerified_eq (c : Commit) (b : EditBuffer) (s : State) : commitVerified c b s
    = endPending .commit (replyPayload (some codeCommit) .ok (commitItems c ++ [flagByte b.removal])) (verified c b s) := rfl

theorem verified_eq (c : Commit) (b : EditBuffer) (s : State) : verified c b s = { s with
    cs := { (activateCopy c b s).cs with
      session := .closed
      buffer := none
      editTimer := none
      commit := none }
    msgs := (announce c.obj s (activateCopy c b s)).msgs } := by
  rw [verified, announce_eq, activateCopy_eq]
  rfl

theorem commitVerified_msgs (c : Commit) (b : EditBuffer) (s : State) :
    (commitVerified c b s).msgs = (announce c.obj s (activateCopy c b s)).msgs := by
  rw [commitVerified_eq]
  simp [verified_eq]

theorem announce_notices (obj : ObjId) (before after : State) :
    (announce obj before after).msgs.notices = after.msgs.notices := by
  cases obj <;> rfl

/-- A verified commit's content is the active one of its object. -/
theorem commitVerified_activeCopy (hobj : b.obj = c.obj) (hfits : b.fits = true) :
    activeCopy (commitVerified c b s) c.obj = if b.removal then none else some b.content.stored := by
  have hcontent : contentFits c.obj b.content = true := by
    rw [← hobj, ← EditBuffer.fits_eq]
    exact hfits
  obtain ⟨hdir, hstore⟩ := commitVerified_cs c b s
  rw [activeCopy, hdir, hstore, activateCopy_active, if_pos rfl, activateCopy_store, Option.bind_some, writeCopy_copyAt hcontent,
    if_pos ⟨rfl, rfl⟩, writtenCopy_content]

theorem exec_commitEnd {ok : Bool} (hc : s.cs.commit = some c) (hb : s.cs.buffer = some b) : exec (.commitEnd ok) s
    = .next (if ok then commitVerified c b (advanceTo c.endTime s) else commitFailed c (advanceTo c.endTime s)) := by
  change execCommitEnd ok s = _
  rw [execCommitEnd, hc, hb]

/-- What the CE and the TM hear of an activation, by the object. -/
theorem commitVerified_announces (hobj : b.obj = c.obj) (hfits : b.fits = true) :
    let t := commitVerified c b s
    (c.obj = .settings → t.msgs = s.msgs ∧ (b.removal = false → ∀ x, b.content = .settings x → activeSettings t = x))
    ∧ (∀ i, c.obj = .target i → t.msgs.ceProfile = s.msgs.ceProfile
        ∧ t.msgs.tmStore = s.msgs.tmStore ++ [.record i (activeRecord s i) (activeRecord t i)]
        ∧ (b.removal = true → activeRecord t i = none)
        ∧ (b.removal = false → ∀ r, b.content = .target r → activeRecord t i = some r))
    ∧ (∀ i, c.obj = .image i → t.msgs.ceProfile = s.msgs.ceProfile ∧ t.msgs.tmStore = s.msgs.tmStore ++ [.image i (activeRecord t i).isSome]
        ∧ (b.removal = false → ∀ n ps, b.content = .image n ps → activeImage t i = some (ps.take n)))
    ∧ (∀ i, c.obj = .profile i → t.msgs.tmStore = s.msgs.tmStore
        ∧ t.msgs.ceProfile = s.msgs.ceProfile ++ [⟨i, activeProfile s i, activeProfile t i⟩]
        ∧ (b.removal = true → activeProfile t i = none)
        ∧ (b.removal = false → ∀ h n ps, b.content = .profile h n ps → activeProfile t i = some ⟨h, ps.take n⟩)) := by
  intro t
  have hmsgs : t.msgs = _ := commitVerified_msgs c b s
  have hactive : activeCopy t c.obj = _ := commitVerified_activeCopy (s := s) hobj hfits
  obtain ⟨hdir, hstore⟩ : t.cs.dir = (activateCopy c b s).cs.dir ∧ t.cs.store = (activateCopy c b s).cs.store :=
    commitVerified_cs c b s
  have hkept : (activateCopy c b s).msgs = s.msgs := by rw [activateCopy_eq]
  have hce : (activateCopy c b s).msgs.ceProfile = s.msgs.ceProfile := congrArg Msgs.ceProfile hkept
  have htm : (activateCopy c b s).msgs.tmStore = s.msgs.tmStore := congrArg Msgs.tmStore hkept
  have hrecord (i : Slot) : activeRecord (activateCopy c b s) i = activeRecord t i := by
    unfold activeRecord
    rw [hdir, hstore]
  have hprofile (i : ProfileId) : activeProfile (activateCopy c b s) i = activeProfile t i := by
    unfold activeProfile
    rw [hdir, hstore]
  refine ⟨fun hs => ?_, fun i hi => ?_, fun i hi => ?_, fun i hi => ?_⟩
  · rw [hs] at hmsgs hactive
    refine ⟨hmsgs.trans hkept, fun hremoval x hx => ?_⟩
    rw [← activeSettings_copy, hremoval, hx] at hactive
    have hsome : activeContent t.cs.dir.settings t.cs.store.settings = some x := by simpa [BufferContent.stored] using hactive
    rw [activeSettings, hsome]
    rfl
  · rw [hi] at hmsgs hactive
    rw [← activeRecord_copy] at hactive
    rw [hmsgs]
    refine ⟨hce, ?_, fun hremoval => ?_, fun hremoval r hr => ?_⟩
    · rw [← hrecord, ← hkept]
      rfl
    · simpa [hremoval] using hactive
    · rw [hremoval, hr] at hactive
      simpa [BufferContent.stored] using hactive
  · rw [hi] at hmsgs hactive
    rw [← activeImage_copy] at hactive
    rw [hmsgs]
    refine ⟨hce, ?_, fun hremoval n ps hps => ?_⟩
    · rw [← hrecord, ← hkept]
      rfl
    · rw [hremoval, hps] at hactive
      simpa [BufferContent.stored] using hactive
  · rw [hi] at hmsgs hactive
    rw [← activeProfile_copy] at hactive
    rw [hmsgs]
    refine ⟨htm, ?_, fun hremoval => ?_, fun hremoval h n ps hps => ?_⟩
    · rw [← hprofile, ← hkept]
      rfl
    · simpa [hremoval] using hactive
    · rw [hremoval, hps] at hactive
      simpa [BufferContent.stored] using hactive

end

/-- Settles O39: the copy, the directory, the answer and the announcement of a verified commit. -/
theorem verifiedCommitActivatesCopy : Obligations.VerifiedCommitActivatesCopy := by
  unfold Obligations.VerifiedCommitActivatesCopy
  refine ⟨fun s c b hc hb hobj hfits => ?_, fun s c b hc hb hobj hfits => ?_⟩
  · intro payload
    refine ⟨_, exec_commitEnd hc hb, ?_⟩
    rw [if_pos rfl]
    beta_reduce
    have hcontent : contentFits c.obj b.content = true := by
      rw [← hobj, ← EditBuffer.fits_eq]
      exact hfits
    obtain ⟨hdir, hstore⟩ := commitVerified_cs c b (advanceTo c.endTime s)
    have hcopy (obj : ObjId) (n : CopyName) := writeCopy_copyAt hcontent obj c.copy n c.gen b.removal s.cs.store
    rw [hdir, hstore, activateCopy_store, activateCopy_entry, if_pos rfl]
    refine ⟨(hcopy c.obj c.copy).trans (if_pos ⟨rfl, rfl⟩), fun obj n hne => (hcopy obj n).trans (if_neg fun ⟨ho, hn⟩ => hne (by rw [ho, hn])),
      rfl, DirEntry.setInfo_info .., fun obj hne => ?_, ?_, ?_⟩
    · rw [activateCopy_entry, if_neg hne]
      rfl
    · rw [commitVerified_eq]
      simp only [endPending_keeps, verified_eq]
      exact activateCopy_inEffect ..
    · rw [commitVerified_eq]
      have hhl : (verified c b (advanceTo c.endTime s)).hl = s.hl := by rw [verified_eq]; rfl
      have hspec {e : PendingEntry} := endPending_spec (s := verified c b (advanceTo c.endTime s)) (op := .commit) (e := e)
        (payload := replyPayload (some codeCommit) .ok (commitItems c ++ [flagByte b.removal]))
      rw [hhl] at hspec
      have hpayload : replyPayload (some codeCommit) .ok (commitItems c ++ [flagByte b.removal]) = payload := by
        simp [payload, replyPayload, commitItems, codeCommit, Result.code]
      rw [hpayload] at hspec ⊢
      simp only [endPending_keeps, verified_eq] at hspec ⊢
      refine ⟨trivial, trivial, trivial, trivial, rfl, ?_, fun e he hop hunique hsettled => hspec he hop hunique hsettled,
        rfl, rfl, rfl, rfl, rfl⟩
      rw [announce_notices, activateCopy_eq]
      rfl
  · refine ⟨_, exec_commitEnd hc hb, ?_⟩
    rw [if_pos rfl]
    exact commitVerified_announces hobj hfits

/-! ### The failed commit -/

section
variable {s : State} {c : Commit}

/-- The part at the moment a failed commit is answered: the copy damaged, the settings in effect settled again. -/
def spoiled (c : Commit) (s : State) : State :=
  resettle c.obj (modEntry c.obj (fun e => e.setInfo c.copy .damaged)
    { s with cs := { s.cs with store := spoilCopy c.obj c.copy false s.cs.store } })

theorem spoiled_eq (c : Commit) (s : State) : spoiled c s = { s with cs := (spoiled c s).cs } := by
  unfold spoiled resettle
  split <;> rfl

theorem spoiled_dir (c : Commit) (s : State) :
    (spoiled c s).cs.dir = s.cs.dir.setEntry c.obj ((s.cs.dir.entry c.obj).setInfo c.copy .damaged) := by
  unfold spoiled resettle
  split <;> rfl

theorem spoiled_inEffect (c : Commit) (s : State) : (spoiled c s).cs.inEffect
    = if c.obj = .settings then settleInEffect ((s.cs.dir.entry c.obj).setInfo c.copy .damaged) else s.cs.inEffect := by
  unfold spoiled resettle
  split
  · next hobj =>
    rw [hobj]
    rfl
  · rfl

theorem commitFailed_eq (c : Commit) (s : State) : commitFailed c s = startEditTimer
    { endPending .commit (replyPayload (some codeCommit) .storeFault (commitItems c)) (spoiled c s) with
      cs := { (spoiled c s).cs with session := .opened, commit := none }
      msgs := { s.msgs with notices := s.msgs.notices
        ++ [⟨.fault, .storeCommit c.obj c.copy c.gen ((spoiled c s).cs.dir.entry c.obj).a ((spoiled c s).cs.dir.entry c.obj).b⟩] } } := by
  have hmsgs : (spoiled c s).msgs = s.msgs := by rw [spoiled_eq]
  obtain ⟨-, -, -, -, -, -, -, hcs, -, hended⟩ :=
    endPending_keeps .commit (replyPayload (some codeCommit) .storeFault (commitItems c)) (spoiled c s)
  have hfailed (w : State) (hw : w = endPending .commit (replyPayload (some codeCommit) .storeFault (commitItems c)) (spoiled c s)) :
      commitFailed c s = startEditTimer { w with
        cs := { w.cs with session := .opened, commit := none }
        msgs := { w.msgs with notices := w.msgs.notices
          ++ [⟨.fault, .storeCommit c.obj c.copy c.gen ((spoiled c s).cs.dir.entry c.obj).a ((spoiled c s).cs.dir.entry c.obj).b⟩] } } := by
    rw [hw]
    rfl
  rw [hfailed _ rfl, hcs, hended, hmsgs]

theorem commitFailed_inEffect (c : Commit) (s : State) : (commitFailed c s).cs.inEffect = (spoiled c s).cs.inEffect := by
  rw [commitFailed_eq]
  rfl

theorem DirEntry.setInfo_info_ne (e : DirEntry) {n m : CopyName} (h : m ≠ n) (i : CopyInfo) : (e.setInfo n i).info m = e.info m := by
  cases n with
  | a =>
    cases m with
    | a => exact absurd rfl h
    | b => rfl
  | b =>
    cases m with
    | a => rfl
    | b => exact absurd rfl h

/-- The settings in effect after a first commit of them has failed. -/
theorem settleInEffect_first {e : DirEntry} (n : CopyName) (h : e.active = none) :
    settleInEffect (e.setInfo n .damaged) = .factoryDamaged := by
  have hactive : (e.setInfo n .damaged).active = none := (DirEntry.setInfo_active ..).trans h
  have hpresent : (e.setInfo n .damaged).present = false := by
    rw [DirEntry.present, DirEntry.activeInfo, hactive]
    rfl
  have hdamaged : 0 < (e.setInfo n .damaged).damagedCopies := by
    cases n <;> simp [DirEntry.setInfo, DirEntry.damagedCopies]
  rw [settleInEffect, hpresent, DirEntry.absentByDamage, hactive]
  simp [hdamaged]

theorem settleInEffect_kept {e : DirEntry} {n m : CopyName} {g : Word16} (hactive : e.active = some m) (hne : m ≠ n)
    (hinfo : e.info m = .valid g) : settleInEffect (e.setInfo n .damaged) = .stored := by
  have hpresent : (e.setInfo n .damaged).present = true := by
    have hsame : (e.setInfo n .damaged).activeInfo = some (.valid g) := by
      rw [← hinfo, ← DirEntry.setInfo_info_ne e hne .damaged]
      exact congrArg (Option.map _) ((DirEntry.setInfo_active ..).trans hactive)
    rw [DirEntry.present, hsame]
  rw [settleInEffect, hpresent]
  rfl

end

/-- Settles O40: the copy, the directory, the settings in effect, the notice and the answer of a failed commit. -/
theorem failedCommitKeepsActiveCopy : Obligations.FailedCommitKeepsActiveCopy := by
  unfold Obligations.FailedCommitKeepsActiveCopy
  intro s c b hc hb payload
  refine ⟨_, exec_commitEnd hc hb, ?_⟩
  rw [if_neg Bool.false_ne_true]
  beta_reduce
  have hcs := commitFailed_cs c (advanceTo c.endTime s)
  have hcopy (obj : ObjId) (n : CopyName) := spoilCopy_copyAt c.obj obj c.copy n false s.cs.store
  have hentry (obj : ObjId) : (commitFailed c (advanceTo c.endTime s)).cs.dir.entry obj
      = if obj = c.obj then (s.cs.dir.entry c.obj).setInfo c.copy .damaged else s.cs.dir.entry obj := by
    rw [hcs]
    exact Directory.setEntry_entry ..
  have heffect : (commitFailed c (advanceTo c.endTime s)).cs.inEffect = if c.obj = .settings
      then settleInEffect ((s.cs.dir.entry c.obj).setInfo c.copy .damaged) else s.cs.inEffect :=
    (commitFailed_inEffect ..).trans (spoiled_inEffect ..)
  have hsettings {x : InEffect} (hobj : c.obj = .settings)
      (hx : settleInEffect (s.cs.dir.settings.setInfo c.copy .damaged) = x) :
      (commitFailed c (advanceTo c.endTime s)).cs.inEffect = x := by
    rw [heffect, if_pos hobj, hobj]
    exact hx
  have hhl : (spoiled c (advanceTo c.endTime s)).hl = s.hl := by rw [spoiled_eq]; rfl
  refine ⟨?_, fun obj n hne => ?_, fun obj => ?_, ?_, by rw [hcs], by rw [hcs]; exact hb, by rw [hcs], by rw [hcs]; rfl,
    fun hobj => by rw [heffect, if_neg hobj], fun hobj hnone => hsettings hobj (settleInEffect_first _ hnone),
    fun n g hobj hactive hne hinfo => hsettings hobj (settleInEffect_kept hactive hne hinfo), ?_, fun e he hop hunique hsettled => ?_, ?_⟩
  · rw [hcs]
    exact (hcopy c.obj c.copy).trans (if_pos ⟨rfl, rfl⟩)
  · rw [hcs]
    exact (hcopy obj n).trans (if_neg fun ⟨ho, hn⟩ => hne (by rw [ho, hn]))
  · rw [hentry]
    split
    · next ho => rw [ho, DirEntry.setInfo_active]
    · rfl
  · rw [hentry, if_pos rfl]
    exact DirEntry.setInfo_info ..
  · rw [hentry, if_pos rfl, commitFailed_eq, spoiled_dir, Directory.setEntry_entry, if_pos rfl]
    rfl
  · have hspec := endPending_spec (s := spoiled c (advanceTo c.endTime s)) (op := .commit) (e := e) (payload := payload)
      (by rw [hhl]; exact he) hop (by rw [hhl]; exact hunique) (by rw [hhl]; exact hsettled)
    rw [hhl] at hspec
    rw [commitFailed_eq]
    exact hspec
  · rw [commitFailed_eq]
    simp only [startEditTimer_fields, endPending_keeps]
    rw [spoiled_eq]
    exact ⟨rfl, rfl, rfl, rfl, rfl⟩

end Sys2Proof.Machine
end

section
/-! The receive machine: a REQUEST frame from HRX to the intake (O46). -/

namespace Sys2Proof.Machine

section
variable {s : State}

/-! ### What the transmitter's choice changes at the Host Link -/

theorem fillReplies_hl (n : Nat) (s : State) : (fillReplies n s).hl = { s.hl with
    replies := (fillReplies n s).hl.replies
    pend := (fillReplies n s).hl.pend
    cache := (fillReplies n s).hl.cache } := by
  induction n generalizing s with
  | zero => rfl
  | succ n ih =>
    unfold fillReplies
    split
    · split
      · rfl
      · next e he =>
        rw [ih (admitEnded e s)]
        rfl
    · rfl

theorem txChoose_hl (s : State) : (txChoose s).hl = { s.hl with
    replies := (txChoose s).hl.replies
    pend := (txChoose s).hl.pend
    cache := (txChoose s).hl.cache
    tx := (txChoose s).hl.tx
    fairness := (txChoose s).hl.fairness } := by
  rcases txChoose_cases s with h | ⟨-, r, rest, -, -, h⟩ | ⟨-, -, -, h⟩
  · rw [h]
  · rw [h, sendReply, fillReplies_hl]
  · rw [h]
    unfold sendNotice
    split <;> rfl

/-! ### Single characters -/

/-- The receive machine moved on, with the gap timer started. -/
def atRx (rx : Rx) (s : State) : State := { s with hl := { s.hl with rx := rx, gap := some (s.now + 5) } }

theorem moveRx_eq_atRx {rx : Rx} (h : rx ≠ .hunt) (s : State) : moveRx rx s = atRx rx s := by
  cases rx with
  | hunt => exact absurd rfl h
  | _ => rfl

theorem exec_characterReceived {c : Byte} {framingError : Bool} (hheld : s.oc.held = false)
    (hplain : classify s.hl.rx c framingError = .plain) : exec (.characterReceived c framingError) s
      = .next (if s.hl.rx = .hunt ∧ nextRx s.hl.rx c framingError = .hunt then s else moveRx (nextRx s.hl.rx c framingError) s) :=
  congrArg Host.Outcome.next (if_pos ⟨hheld, hplain⟩)

theorem character_moves {c : Byte} {rx : Rx} (hheld : s.oc.held = false) (hplain : classify s.hl.rx c false = .plain)
    (hnext : nextRx s.hl.rx c false = rx) (hrx : rx ≠ .hunt) : exec (.characterReceived c false) s = .next (atRx rx s) := by
  rw [exec_characterReceived hheld hplain, if_neg (fun h => hrx (hnext.symm.trans h.2)), hnext, moveRx_eq_atRx hrx]

theorem character_dropped {c : Byte} {framingError : Bool} (hheld : s.oc.held = false) (hrx : s.hl.rx = .hunt)
    (hnext : nextRx .hunt c framingError = .hunt) : exec (.characterReceived c framingError) s = .next s := by
  have hplain : classify s.hl.rx c framingError = .plain := by rw [hrx]; rfl
  rw [exec_characterReceived hheld hplain, if_pos ⟨hrx, by rw [hrx]; exact hnext⟩]

theorem sync_moves (hheld : s.oc.held = false) (hrx : s.hl.rx = .hunt) :
    exec (.characterReceived 0xA5 false) s = .next (atRx .length s) :=
  character_moves hheld (by rw [hrx]; rfl) (by rw [hrx]; rfl) nofun

theorem length_moves {c : Byte} (hheld : s.oc.held = false) (hrx : s.hl.rx = .length) (hmin : 2 ≤ c.toNat) (hmax : c.toNat ≤ 250) :
    exec (.characterReceived c false) s = .next (atRx (.body c []) s) :=
  character_moves hheld (by rw [hrx]; exact if_pos ⟨hmin, hmax⟩) (by rw [hrx]; exact if_pos ⟨hmin, hmax⟩) nofun

theorem body_moves {c len : Byte} {bytes : List Byte} (hheld : s.oc.held = false) (hrx : s.hl.rx = .body len bytes)
    (hlen : bytes.length + 1 < len.toNat) : exec (.characterReceived c false) s = .next (atRx (.body len (bytes ++ [c])) s) :=
  character_moves hheld (by rw [hrx]; rfl) (by rw [hrx]; exact if_pos (by simpa using hlen)) nofun

theorem body_ends {c len : Byte} {bytes : List Byte} (hheld : s.oc.held = false) (hrx : s.hl.rx = .body len bytes)
    (hlen : bytes.length + 1 = len.toNat) : exec (.characterReceived c false) s = .next (atRx (.check len (bytes ++ [c]) none) s) :=
  character_moves hheld (by rw [hrx]; rfl) (by rw [hrx]; exact if_neg (by simp [hlen])) nofun

theorem check_moves {c len : Byte} {bytes : List Byte} (hheld : s.oc.held = false) (hrx : s.hl.rx = .check len bytes none) :
    exec (.characterReceived c false) s = .next (atRx (.check len bytes (some c)) s) :=
  character_moves hheld (by rw [hrx]; rfl) (by rw [hrx]; rfl) nofun

/-! ### A frame, character by character -/

theorem receive_cons {c : Byte} {cs : List Byte} {t : State} (h : exec (.characterReceived c false) s = .next t) :
    receive (c :: cs) s = receive cs t := by rw [receive, h]

/-- The body of a frame, from any part of it on. -/
theorem receive_body {len c : Byte} {before rest more : List Byte} (hheld : s.oc.held = false) (hrx : s.hl.rx = .body len before)
    (hlen : before.length + (rest.length + 1) = len.toNat) :
    receive (c :: rest ++ more) s = receive more (atRx (.check len (before ++ c :: rest) none) s) := by
  induction rest generalizing s c before with
  | nil => exact receive_cons (body_ends hheld hrx hlen)
  | cons d rest ih =>
    have hmove := body_moves (c := c) hheld hrx (by rw [List.length_cons] at hlen; omega)
    have hrest := ih (s := atRx (.body len (before ++ [c])) s) (c := d) (before := before ++ [c]) hheld rfl
      (by simp only [List.length_append, List.length_singleton]; rw [List.length_cons] at hlen; omega)
    rw [List.append_assoc, List.singleton_append] at hrest
    exact (receive_cons hmove).trans hrest

theorem receive_frame {len c hi : Byte} {rest : List Byte} (hheld : s.oc.held = false) (hrx : s.hl.rx = .hunt) (hmin : 2 ≤ len.toNat)
    (hmax : len.toNat ≤ 250) (hlen : rest.length + 1 = len.toNat) :
    receive (0xA5 :: len :: (c :: rest ++ [hi])) s = atRx (.check len (c :: rest) (some hi)) s := by
  rw [receive_cons (sync_moves hheld hrx), receive_cons (length_moves (s := atRx .length s) hheld rfl hmin hmax),
    receive_body (s := atRx (.body len []) (atRx .length s)) hheld rfl (by simpa using hlen)]
  exact receive_cons (check_moves hheld rfl)

theorem crcMatches_be16 {len hi lo : Byte} {bytes : List Byte} (h : be16 (crc16 (len :: bytes)).toNat = [hi, lo]) :
    crcMatches len bytes hi lo = true := by
  obtain ⟨rfl, rfl⟩ : byteOf ((crc16 (len :: bytes)).toNat / 256) = hi ∧ byteOf (crc16 (len :: bytes)).toNat = lo := by
    simpa [be16] using h
  rw [crcMatches, nat16_be16 (Nat.le_of_lt_succ (crc16 (len :: bytes)).isLt), BitVec.ofNat_toNat, BitVec.setWidth_eq]
  exact beq_self_eq_true _

/-! ### The last character of a REQUEST frame -/

theorem exec_requestFrameReceived {c : Byte} (h : classify s.hl.rx c false = .request) : exec (.requestFrameReceived c) s
    = .next (intakeFrame (receivedFrame s.hl.rx) (deliverFrame none (moveRx .hunt s))) :=
  congrArg Host.Outcome.next (if_pos h)

theorem classify_request {len hi lo tag : Byte} {payload : List Byte}
    (hcrc : crcMatches len (kindRequest :: tag :: payload) hi lo = true) :
    classify (.check len (kindRequest :: tag :: payload) (some hi)) lo false = .request := by
  rw [classify, if_pos hcrc]
  rfl

theorem intakeFrame_room {f : Frame} (h : s.hl.intake.length < 2) : intakeFrame f s = setIntake (s.hl.intake ++ [f]) s := if_pos h

theorem endStall_of_running {nu : Nu} (h : nu.stalled = false) : endStall nu = nu := if_neg (by rw [h]; exact Bool.false_ne_true)

theorem deliverFrame_intake (ack : Option Byte) (s : State) : (deliverFrame ack s).hl.intake = s.hl.intake := by
  simp [deliverFrame]

theorem deliverFrame_rx (ack : Option Byte) (s : State) : (deliverFrame ack s).hl.rx = s.hl.rx ∧ (deliverFrame ack s).hl.gap = s.hl.gap
    ∧ (deliverFrame ack s).hl.overruns = s.hl.overruns ∧ (deliverFrame ack s).hl.startOverrun = s.hl.startOverrun := by
  rw [deliverFrame, txChoose_hl]
  exact ⟨rfl, rfl, rfl, rfl⟩

theorem deliverFrame_busy {ack : Option Byte} (h : s.hl.tx.isSome = true) :
    deliverFrame ack s = setNu (validFrameAtNu s.now ack s.nu) s := txChoose_busy _ h

end

/-- Settles O46: each character by the state of the receive machine, and a whole frame through all of them. -/
theorem frameBytesReachIntake : Obligations.FrameBytesReachIntake := by
  unfold Obligations.FrameBytesReachIntake
  refine ⟨fun s c len bytes hheld => ?_, fun s tag payload hlen hheld hrx hroom => ?_⟩
  · intro moves
    refine ⟨fun hrx hc => ?_, fun hrx hc => character_dropped hheld hrx (if_neg hc), fun hrx => character_dropped hheld hrx rfl,
      fun hrx => length_moves hheld hrx, fun hrx => body_moves hheld hrx, fun hrx => body_ends hheld hrx, fun hrx => check_moves hheld hrx⟩
    subst hc
    exact sync_moves hheld hrx
  · have hbyte : (byteOf (payload.length + 2)).toNat = payload.length + 2 := byteOf_toNat (by omega)
    generalize hl : byteOf (payload.length + 2) = len at hbyte
    obtain ⟨hi, lo, hcrc⟩ : ∃ hi lo, be16 (crc16 (len :: kindRequest :: tag :: payload)).toNat = [hi, lo] := ⟨_, _, rfl⟩
    refine ⟨0xA5 :: len :: (kindRequest :: tag :: payload ++ [hi]), lo, ?_, ?_⟩
    · rw [frameBytes, hl, hcrc]
      simp
    · rw [receive_frame hheld hrx (by omega) (by omega) (by rw [hbyte, List.length_cons])]
      generalize hu : atRx (.check len (kindRequest :: tag :: payload) (some hi)) s = u
      have hurx : u.hl.rx = .check len (kindRequest :: tag :: payload) (some hi) := by rw [← hu]; rfl
      have hclass : classify u.hl.rx lo false = .request := by rw [hurx]; exact classify_request (crcMatches_be16 hcrc)
      have hintake : (deliverFrame none (moveRx .hunt u)).hl.intake = s.hl.intake := by
        rw [deliverFrame_intake, ← hu]
        rfl
      obtain ⟨hdrx, hdgap, hdover, -⟩ := deliverFrame_rx none (moveRx .hunt u)
      have hoff := offLink_deliverFrame none (moveRx .hunt u)
      refine ⟨_, exec_requestFrameReceived hclass, ?_⟩
      rw [intakeFrame_room (by rw [hintake]; exact hroom), hintake, hurx]
      beta_reduce
      refine ⟨rfl, hdrx, hdgap, ?_, hdover.trans (by rw [← hu]; rfl), fun hbusy hrunning => ?_, hoff.now.trans (by rw [← hu]; rfl),
        hoff.msgs.trans (by rw [← hu]; rfl), hoff.oc.trans (by rw [← hu]; rfl), hoff.cs.trans (by rw [← hu]; rfl),
        hoff.mu.trans (by rw [← hu]; rfl), hoff.ce.trans (by rw [← hu]; rfl), hoff.ctxs.trans (by rw [← hu]; rfl),
        hoff.bm.trans (by rw [← hu]; rfl), hoff.pending.trans (by rw [← hu]; rfl)⟩
      · have hoc : (deliverFrame none (moveRx .hunt u)).oc.held = false := by
          rw [hoff.oc, ← hu]
          exact hheld
        change (!(deliverFrame none (moveRx .hunt u)).oc.held && hrdyLevel (s.hl.intake ++ [⟨tag, payload⟩])) = _
        rw [hoc, hrdyLevel, List.length_append]
        rfl
      · rw [deliverFrame_busy (by rw [← hu]; exact hbusy)]
        have hnu : validFrameAtNu (moveRx .hunt u).now none (moveRx .hunt u).nu = s.nu := by
          rw [← hu]
          exact endStall_of_running hrunning
        rw [hnu, ← hu]
        exact ⟨rfl, rfl, rfl, rfl, rfl⟩

end Sys2Proof.Machine
end

section
/-! The last character of a frame: discarded frames, the intake, acknowledgements and the end of a stall (O47). -/

namespace Sys2Proof.Machine

section
variable {s : State}

/-! ### ALERT_N and the queue -/

theorem alertLevel_map {q : List Entry} {g : Entry → Entry} (h : ∀ e, (g e).severity = e.severity) :
    alertLevel (q.map g) = alertLevel q := by
  simp [alertLevel, List.any_map, Function.comp_def, h]

theorem endStall_alert (nu : Nu) : alertLevel (endStall nu).queue = alertLevel nu.queue := by
  unfold endStall
  split
  · exact alertLevel_map fun e => by split <;> rfl
  · rfl

theorem setNu_of_alert {nu : Nu} (h : s.pins.alertN = alertLevel nu.queue) : setNu nu s = { s with nu := nu } := by
  rw [setNu, ← h]

/-! ### Acknowledgement -/

theorem numbered_iff {tag : Byte} {e : Entry} : numbered tag e = true ↔ e.transmitted = true ∧ e.seq = some tag := by
  simp [numbered, Entry.outstanding]

theorem afterAck_of_split {tag : Byte} {before : List Entry} {e : Entry} {after : List Entry} (he : numbered tag e = true)
    (hbefore : ∀ x ∈ before, numbered tag x = false) : afterAck tag (before ++ e :: after) = after := by
  induction before with
  | nil => exact if_pos he
  | cons x before ih =>
    obtain ⟨hx, hrest⟩ := List.forall_mem_cons.1 hbefore
    exact (if_neg (by rw [hx]; exact Bool.false_ne_true)).trans (ih hrest)

theorem acknowledge_of_split {now : Nat} {tag : Byte} {nu : Nu} {before : List Entry} {e : Entry} {after : List Entry}
    (hq : nu.queue = before ++ e :: after) (he : e.transmitted = true) (hseq : e.seq = some tag)
    (hbefore : ∀ x ∈ before, x.transmitted = true → x.seq ≠ some tag) : acknowledge now tag nu = { nu with
      queue := after
      timer := if (∃ x ∈ after, x.transmitted = true) then some (now + 200) else none } := by
  have hnum : numbered tag e = true := numbered_iff.2 ⟨he, hseq⟩
  have hany : nu.queue.any (numbered tag) = true := List.any_eq_true.2 ⟨e, by rw [hq]; simp, hnum⟩
  have hafter : afterAck tag nu.queue = after := by
    rw [hq]
    refine afterAck_of_split hnum fun x hx => ?_
    rw [← Bool.not_eq_true, numbered_iff]
    exact fun h => hbefore x hx h.1 h.2
  have htimer : (after.any Entry.outstanding = true) = ∃ x ∈ after, x.transmitted = true := by
    rw [List.any_eq_true]
    rfl
  rw [acknowledge, if_pos hany, hafter]
  simp only [htimer]

theorem acknowledge_of_unknown {now : Nat} {tag : Byte} {nu : Nu} (h : ∀ x ∈ nu.queue, x.transmitted = true → x.seq ≠ some tag) :
    acknowledge now tag nu = nu := by
  refine if_neg fun hany => ?_
  obtain ⟨x, hx, hnum⟩ := List.any_eq_true.1 hany
  obtain ⟨hsent, hseq⟩ := numbered_iff.1 hnum
  exact h x hx hsent hseq

/-! ### Classes of the last character -/

theorem ofNat_nat16 (hi lo : Byte) : BitVec.ofNat 16 (nat16 hi lo) = hi ++ lo := by
  refine BitVec.eq_of_toNat_eq ?_
  rw [BitVec.toNat_append, BitVec.toNat_ofNat, nat16, ← Nat.shiftLeft_add_eq_or_of_lt lo.isLt, Nat.shiftLeft_eq]
  omega

theorem crcMatches_iff {len hi lo : Byte} {bytes : List Byte} : crcMatches len bytes hi lo = true ↔ crc16 (len :: bytes) = hi ++ lo := by
  rw [crcMatches, ofNat_nat16, beq_iff_eq]

theorem classify_wrongCrc {len hi lo : Byte} {bytes : List Byte} (h : crc16 (len :: bytes) ≠ hi ++ lo) :
    classify (.check len bytes (some hi)) lo false = .invalid := if_neg fun hcrc => h (crcMatches_iff.1 hcrc)

theorem classify_ack {len hi lo tag : Byte} {payload : List Byte} (h : crc16 (len :: kindAck :: tag :: payload) = hi ++ lo) :
    classify (.check len (kindAck :: tag :: payload) (some hi)) lo false = .ack := by
  rw [classify, if_pos (crcMatches_iff.2 h)]
  rfl

theorem classify_foreign {len hi lo kind tag : Byte} {payload : List Byte} (h : crc16 (len :: kind :: tag :: payload) = hi ++ lo)
    (hrequest : kind ≠ kindRequest) (hack : kind ≠ kindAck) :
    classify (.check len (kind :: tag :: payload) (some hi)) lo false = .invalid := by
  rw [classify, if_pos (crcMatches_iff.2 h)]
  exact (if_neg hrequest).trans (if_neg hack)

/-! ### The executions -/

theorem exec_invalidFrame_discards {c : Byte} {framingError : Bool} (hclass : classify s.hl.rx c framingError = .invalid)
    (hforeign : validForeign s.hl.rx c framingError = false) :
    exec (.invalidFrame c framingError) s = .next { s with hl := { s.hl with rx := .hunt, gap := none } } := by
  refine congrArg Host.Outcome.next ((if_pos hclass).trans ?_)
  rw [hforeign, if_neg Bool.false_ne_true]
  rfl

theorem exec_invalidFrame_foreign {c : Byte} {framingError : Bool} (hclass : classify s.hl.rx c framingError = .invalid)
    (hforeign : validForeign s.hl.rx c framingError = true) :
    exec (.invalidFrame c framingError) s = .next (deliverFrame none (moveRx .hunt s)) :=
  congrArg Host.Outcome.next ((if_pos hclass).trans (if_pos hforeign))

theorem exec_ackReceived {c : Byte} (hclass : classify s.hl.rx c false = .ack) :
    exec (.ackReceived c) s = .next (deliverFrame (some (receivedFrame s.hl.rx).tag) (moveRx .hunt s)) :=
  congrArg Host.Outcome.next (if_pos hclass)

theorem validForeign_framing (rx : Rx) (c : Byte) : validForeign rx c true = false := by
  unfold validForeign
  split
  · next h => exact absurd h nofun
  · rfl

theorem classify_framing {rx : Rx} (c : Byte) (h : rx ≠ .hunt) : classify rx c true = .invalid := by
  cases rx with
  | hunt => exact absurd rfl h
  | _ => rfl

theorem intakeFrame_full {f : Frame} (h : 2 ≤ s.hl.intake.length) : intakeFrame f s = if s.oc.part = .start
    then { s with hl := { s.hl with overruns := satInc s.hl.overruns, startOverrun := some (f.tag, f.code.getD 0) } }
    else postNotice .warn (.linkOverrun f.tag (f.code.getD 0) (satInc s.hl.overruns))
      { s with hl := { s.hl with overruns := satInc s.hl.overruns } } := if_neg (Nat.not_lt.2 h)

end

/-- Settles O47: a frame's last character by the state of the receive machine, the CRC and the KIND. -/
theorem framesAcknowledgeOrAreDiscarded : Obligations.FramesAcknowledgeOrAreDiscarded := by
  unfold Obligations.FramesAcknowledgeOrAreDiscarded
  intro s len hi lo bytes hbusy live
  have hlive (nu : Nu) : live nu = endStall nu := rfl
  have hdelivered (ack : Option Byte) : deliverFrame ack (moveRx .hunt s) = setNu (validFrameAtNu s.now ack s.nu) (moveRx .hunt s) :=
    deliverFrame_busy hbusy
  refine ⟨fun c hrx => exec_invalidFrame_discards (classify_framing c hrx) (validForeign_framing _ c), fun c hrx hc => ?_, fun hrx =>
    ⟨fun hcrc => ?_, fun tag payload hcrc hbytes hroom => ?_, fun tag payload hcrc hbytes hfull => ?_, fun tag payload hcrc hbytes =>
      ⟨fun before e after hq he hseq hbefore => ?_, fun hunknown halert => ?_⟩, fun kind tag payload hcrc hbytes hrequest hack halert => ?_⟩⟩
  · refine exec_invalidFrame_discards ?_ (by rw [hrx]; rfl)
    rw [hrx]
    exact if_neg (by omega)
  · refine exec_invalidFrame_discards (by rw [hrx]; exact classify_wrongCrc hcrc) ?_
    rw [hrx, ← Bool.not_eq_true]
    exact fun hmatch => hcrc (crcMatches_iff.1 hmatch)
  · subst hbytes
    have hclass : classify s.hl.rx lo false = .request := by rw [hrx]; exact classify_request (crcMatches_iff.2 hcrc)
    refine ⟨_, exec_requestFrameReceived hclass, ?_⟩
    rw [hdelivered, hrx, intakeFrame_room (by exact hroom), hlive]
    exact ⟨rfl, rfl, rfl, rfl, rfl, rfl, rfl⟩
  · subst hbytes
    have hclass : classify s.hl.rx lo false = .request := by rw [hrx]; exact classify_request (crcMatches_iff.2 hcrc)
    refine ⟨_, exec_requestFrameReceived hclass, ?_⟩
    rw [hdelivered, hrx, intakeFrame_full (by exact hfull), hlive]
    split
    · next hpart => exact ⟨rfl, rfl, rfl, rfl, fun _ => ⟨rfl, rfl⟩, fun hne => absurd hpart hne, rfl⟩
    · next hpart => exact ⟨rfl, rfl, rfl, rfl, fun heq => absurd heq hpart, fun _ => ⟨rfl, rfl⟩, rfl⟩
  · subst hbytes
    rw [exec_ackReceived (by rw [hrx]; exact classify_ack hcrc), hdelivered, hrx]
    refine congrArg Host.Outcome.next ?_
    have hack : acknowledge s.now tag s.nu = _ := acknowledge_of_split hq he hseq hbefore
    change setNu (endStall (acknowledge s.now tag s.nu)) (moveRx .hunt s) = _
    rw [hack, setNu, endStall_alert, hlive]
    rfl
  · subst hbytes
    rw [exec_ackReceived (by rw [hrx]; exact classify_ack hcrc), hdelivered, hrx]
    refine congrArg Host.Outcome.next ?_
    change setNu (endStall (acknowledge s.now tag s.nu)) (moveRx .hunt s) = _
    rw [acknowledge_of_unknown hunknown]
    exact setNu_of_alert (s := moveRx .hunt s) (halert.trans (endStall_alert s.nu).symm)
  · subst hbytes
    rw [exec_invalidFrame_foreign (by rw [hrx]; exact classify_foreign hcrc hrequest hack)
      (by rw [hrx]; exact crcMatches_iff.2 hcrc), hdelivered]
    exact congrArg Host.Outcome.next (setNu_of_alert (s := moveRx .hunt s) (halert.trans (endStall_alert s.nu).symm))

end Sys2Proof.Machine
end

section
/-! The appending of a notice (O48): it merges, joins, displaces or is dropped. -/

namespace Sys2Proof.Machine

/-! ### The lowest severity among the untransmitted entries -/

theorem Severity.rank_injective : Function.Injective Severity.rank := by
  intro a b h
  cases a <;> cases b <;> simp_all [Severity.rank]

theorem lowestSeverity_eq_none {q : List Entry} (h : lowestSeverity q = none) : ∀ e ∈ q, e.transmitted = true := by
  induction q with
  | nil => exact fun _ he => nomatch he
  | cons e es ih =>
    unfold lowestSeverity at h
    split at h
    · next he => exact List.forall_mem_cons.2 ⟨he, ih h⟩
    · cases h
    · cases h

theorem lowestSeverity_le {q : List Entry} {low : Severity} (h : lowestSeverity q = some low) :
    ∀ e ∈ q, e.transmitted = false → low.rank ≤ e.severity.rank := by
  induction q generalizing low with
  | nil => exact fun _ he => nomatch he
  | cons e es ih =>
    unfold lowestSeverity at h
    split at h
    · next he => exact List.forall_mem_cons.2 ⟨fun hsent => absurd (he.symm.trans hsent) nofun, ih h⟩
    · next hnone =>
      cases h
      exact List.forall_mem_cons.2 ⟨fun _ => le_rfl,
        fun x hx hsent => absurd ((lowestSeverity_eq_none hnone x hx).symm.trans hsent) nofun⟩
    · next r _ hr =>
      cases h
      refine List.forall_mem_cons.2 ⟨fun _ => ?_, fun x hx hsent => ?_⟩
      · split <;> omega
      · have := ih hr x hx hsent
        split <;> omega

theorem lowestSeverity_eq_some {q : List Entry} {e : Entry} (he : e ∈ q) (hsent : e.transmitted = false)
    (hleast : ∀ x ∈ q, x.transmitted = false → e.severity.rank ≤ x.severity.rank) : lowestSeverity q = some e.severity := by
  cases hlow : lowestSeverity q with
  | none => exact absurd ((lowestSeverity_eq_none hlow e he).symm.trans hsent) nofun
  | some low =>
    obtain ⟨x, hx, hxsent, rfl⟩ := lowestSeverity_mem hlow
    exact congrArg some (Severity.rank_injective (Nat.le_antisymm (lowestSeverity_le hlow e he hsent) (hleast x hx hxsent)))

/-! ### The four steps of an append -/

section
variable {n : Notice} {nu : Nu}

theorem mergesInto_iff {e : Entry} : mergesInto n e = true ↔ e.transmitted = false ∧ sameSubject e.content n.content = true := by
  simp [mergesInto, Entry.untransmitted]

theorem appendTo_merges {before : List Entry} {e : Entry} {after : List Entry} (hq : nu.queue = before ++ e :: after)
    (he : mergesInto n e = true) (hbefore : ∀ x ∈ before, mergesInto n x = false) :
    appendTo n nu = { nu with queue := before ++ mergeEntry n e :: after } := by
  rw [appendTo, if_pos (List.any_eq_true.2 ⟨e, by simp [hq], he⟩), hq, changeFirst_append _ _ _ _ _ hbefore he]

theorem not_any_mergesInto (h : ∀ x ∈ nu.queue, mergesInto n x = false) : ¬ nu.queue.any (mergesInto n) = true := by
  simpa using h

theorem appendTo_joins (h : ∀ x ∈ nu.queue, mergesInto n x = false) (hroom : nu.queue.length < Config.noticePlaces) :
    appendTo n nu = { nu with queue := nu.queue ++ [newEntry n nu.lostPending], lostPending := false } := by
  rw [appendTo, if_neg (not_any_mergesInto h), if_pos hroom]

theorem appendTo_displaces {before : List Entry} {e : Entry} {after : List Entry} (h : ∀ x ∈ nu.queue, mergesInto n x = false)
    (hfull : Config.noticePlaces ≤ nu.queue.length) (hq : nu.queue = before ++ e :: after) (hsent : e.transmitted = false)
    (hlower : e.severity.rank < n.severity.rank)
    (hleast : ∀ x ∈ nu.queue, x.transmitted = false → e.severity.rank ≤ x.severity.rank)
    (holdest : ∀ x ∈ before, x.transmitted = false → x.severity ≠ e.severity) :
    appendTo n nu = { nu with queue := (before ++ after) ++ [newEntry n true], lostPending := false } := by
  have hlow := lowestSeverity_eq_some (e := e) (by simp [hq]) hsent hleast
  have hdrop := dropFirst_append (fun x : Entry => x.untransmitted && x.severity == e.severity) before e after
    (by simpa [Entry.untransmitted] using holdest) (by simp [Entry.untransmitted, hsent])
  simp only [appendTo, if_neg (not_any_mergesInto h), if_neg (Nat.not_lt.2 hfull), hlow, if_pos hlower]
  rw [hq, hdrop]

theorem appendTo_drops (h : ∀ x ∈ nu.queue, mergesInto n x = false) (hfull : Config.noticePlaces ≤ nu.queue.length)
    (hhigher : ∀ x ∈ nu.queue, x.transmitted = false → n.severity.rank ≤ x.severity.rank) :
    appendTo n nu = { nu with lostPending := true } := by
  rw [appendTo, if_neg (not_any_mergesInto h), if_neg (Nat.not_lt.2 hfull)]
  cases hlow : lowestSeverity nu.queue with
  | none => rfl
  | some low =>
    obtain ⟨x, hx, hsent, rfl⟩ := lowestSeverity_mem hlow
    exact if_neg (Nat.not_lt.2 (hhigher x hx hsent))

end

theorem exec_noticeAppend {s : State} {n : Notice} {rest : List Notice} {nu : Nu} (hbusy : s.hl.tx.isSome = true)
    (hn : s.msgs.notices = n :: rest) (hnu : appendTo n s.nu = nu) :
    exec .noticeAppend s = .next (setNu nu { s with msgs := { s.msgs with notices := rest } }) := by
  change execNoticeAppend s = _
  simp only [execNoticeAppend, hn, hnu]
  exact congrArg Host.Outcome.next (txChoose_busy _ hbusy)

/-- Settles O48: the four steps of R187, each by its equation for `appendTo`. -/
theorem noticeMergesJoinsDisplacesOrIsDropped : Obligations.NoticeMergesJoinsDisplacesOrIsDropped := by
  unfold Obligations.NoticeMergesJoinsDisplacesOrIsDropped
  intro s n rest hbusy hn answers rival
  have hrival (e : Entry) : ¬ rival e → mergesInto n e = false := fun h => eq_false_of_ne_true fun he => h (mergesInto_iff.1 he)
  have hforeign {q : List Entry} (h : ∀ x ∈ q, ¬ rival x) : ∀ x ∈ q, mergesInto n x = false := fun x hx => hrival x (h x hx)
  refine ⟨fun before e after hq he hbefore => ?_, fun hnone hroom => ?_,
    fun before e after hnone hfull hq hsent hlower hleast holdest => ?_, fun hnone hfull hhigher => ?_⟩
  · exact exec_noticeAppend hbusy hn (appendTo_merges hq (mergesInto_iff.2 he) (hforeign hbefore))
  · exact exec_noticeAppend hbusy hn (appendTo_joins (hforeign hnone) hroom)
  · rw [← List.append_assoc]
    exact exec_noticeAppend hbusy hn (appendTo_displaces (hforeign hnone) hfull hq hsent hlower hleast holdest)
  · exact exec_noticeAppend hbusy hn (appendTo_drops (hforeign hnone) hfull hhigher)

end Sys2Proof.Machine
end

section
/-! The idle transmitter's choice at the end of a frame and the retransmission rounds (O49). -/

namespace Sys2Proof.Machine

/-! ### The operation that ended first -/

theorem nextEnded_of_first {pend : List PendingEntry} {e : PendingEntry} {k : Nat} {payload : List Byte} (he : e ∈ pend)
    (hended : e.ended = some (k, payload))
    (hfirst : ∀ x ∈ pend, x ≠ e → ∀ k' payload', x.ended = some (k', payload') → k < k') : nextEnded pend = some e := by
  have hin : e ∈ endedEntries pend := List.mem_filter.2 ⟨he, by rw [hended]; rfl⟩
  cases hnext : nextEnded pend with
  | none => exact absurd (nextEnded_eq_none.1 hnext ▸ hin) List.not_mem_nil
  | some x =>
    obtain ⟨hx, hleast⟩ := leastBy_spec _ _ _ hnext
    obtain ⟨hxpend, hxended⟩ := List.mem_filter.1 hx
    obtain ⟨⟨k', payload'⟩, hk'⟩ := Option.isSome_iff_exists.1 hxended
    by_contra hne
    have hlt := hfirst x hxpend (fun h => hne (congrArg some h)) k' payload' hk'
    have hle := hleast e hin
    rw [hended, hk'] at hle
    exact absurd hlt (Nat.not_lt.2 hle)

section
variable {s : State}

/-- With one place free, the reply of the operation that ended first fills the queue. -/
theorem fillReplies_one {e : PendingEntry} (hroom : s.hl.replies.length = 3) (hnext : nextEnded s.hl.pend = some e) :
    fillReplies Config.pendingPlaces s = admitEnded e s := by
  have hfull : ¬ (admitEnded e s).hl.replies.length < Config.replyPlaces := by
    simp [admitEnded, cacheReply, pushReply, hroom, Config.replyPlaces]
  have hstop : fillReplies 3 (admitEnded e s) = admitEnded e s := if_neg hfull
  rw [show Config.pendingPlaces = 3 + 1 from rfl, fillReplies, if_pos (hroom ▸ by decide), hnext]
  exact hstop

/-! ### The choice at the end of a frame -/

theorem exec_frameSent {straps : BitVec 2} {fr : TxFrame} (htx : s.hl.tx = some fr) (hrestart : fr.restart = false) :
    exec (.frameSent straps) s = .next (txChoose { s with hl := { s.hl with tx := none } }) := by
  change execFrameSent straps s = _
  simp [execFrameSent, htx, hrestart]

theorem txChoose_reply {r : Reply} {rest : List Reply} (hr : s.hl.replies = r :: rest)
    (h : noticeEligible s.nu = false ∨ s.hl.fairness < 4) :
    txChoose { s with hl := { s.hl with tx := none } } = sendReply r rest { s with hl := { s.hl with tx := none } } :=
  txChoose_of_idle_reply rfl hr fun ⟨heligible, hfair⟩ =>
    h.elim (fun hnot => absurd (hnot.symm.trans heligible) nofun) (fun hlt => absurd hlt (Nat.not_lt.2 hfair))

theorem txChoose_nothing (hr : s.hl.replies = []) (h : noticeEligible s.nu = false) :
    txChoose { s with hl := { s.hl with tx := none } } = { s with hl := { s.hl with tx := none } } :=
  (txChoose_of_idle_empty (s := { s with hl := { s.hl with tx := none } }) rfl hr).trans
    (if_neg (by exact h ▸ Bool.false_ne_true))

theorem txChoose_notice (h : s.hl.replies = [] ∨ 4 ≤ s.hl.fairness) (heligible : noticeEligible s.nu = true) :
    txChoose { s with hl := { s.hl with tx := none } } = sendNotice { s with hl := { s.hl with tx := none } } := by
  cases hr : s.hl.replies with
  | nil => exact (txChoose_of_idle_empty (s := { s with hl := { s.hl with tx := none } }) rfl hr).trans (if_pos heligible)
  | cons r rest => exact txChoose_of_idle_notice rfl hr ⟨heligible, h.resolve_left (hr ▸ List.cons_ne_nil _ _)⟩

/-! ### The entry the NU hands over -/

theorem startRetransmit_eq (now : Nat) (nu : Nu) :
    startRetransmit now nu = { nu with timer := some (nu.timer.getD (now + 200)) } := by
  cases nu with
  | mk queue nextSeq lostPending timer stalled => cases timer <;> rfl

variable {nu : Nu} {before after : List Entry} {e : Entry}

theorem find_due (hq : nu.queue = before ++ e :: after) (hbefore : ∀ x ∈ before, x.transmitted = false ∨ x.due = false)
    (hsent : e.transmitted = true) (hdue : e.due = true) : nu.queue.find? (fun e => e.outstanding && e.due) = some e :=
  List.find?_eq_some_iff_append.2 ⟨by simp [Entry.outstanding, hsent, hdue], before, after, hq,
    fun x hx => by simpa [Entry.outstanding, ← Bool.not_eq_true, imp_iff_not_or] using hbefore x hx⟩

theorem handNotice_due (now : Nat) (hq : nu.queue = before ++ e :: after)
    (hbefore : ∀ x ∈ before, x.transmitted = false ∨ x.due = false) (hsent : e.transmitted = true) (hdue : e.due = true) :
    handNotice now nu = { nu with
      queue := before ++ { e with due := false } :: after
      timer := some (nu.timer.getD (now + 200)) } := by
  have hany : nu.queue.any (fun e => e.outstanding && e.due) = true :=
    List.any_eq_true.2 ⟨e, by simp [hq], by simp [Entry.outstanding, hsent, hdue]⟩
  have hchanged := changeFirst_append (fun e : Entry => e.outstanding && e.due) (fun e => { e with due := false }) before e after
    (fun x hx => by simpa [Entry.outstanding, ← Bool.not_eq_true, imp_iff_not_or] using hbefore x hx)
    (by simp [Entry.outstanding, hsent, hdue])
  rw [handNotice, if_pos hany, startRetransmit_eq, hq, hchanged]

theorem find_due_none (h : ∀ x ∈ nu.queue, x.due = false) : nu.queue.find? (fun e => e.outstanding && e.due) = none :=
  List.find?_eq_none.2 fun x hx => by simp [h x hx]

theorem find_untransmitted (hq : nu.queue = before ++ e :: after) (hbefore : ∀ x ∈ before, x.transmitted = true)
    (hwaits : e.transmitted = false) : nu.queue.find? Entry.untransmitted = some e :=
  List.find?_eq_some_iff_append.2 ⟨by simp [Entry.untransmitted, hwaits], before, after, hq,
    fun x hx => by simp [Entry.untransmitted, hbefore x hx]⟩

theorem handNotice_first (now : Nat) (hdue : ∀ x ∈ nu.queue, x.due = false) (hq : nu.queue = before ++ e :: after)
    (hbefore : ∀ x ∈ before, x.transmitted = true) (hwaits : e.transmitted = false) :
    handNotice now nu = { nu with
      queue := before ++ { e with seq := some nu.nextSeq, transmitted := true } :: after
      nextSeq := nu.nextSeq + 1
      timer := some (nu.timer.getD (now + 200)) } := by
  have hany : ¬ nu.queue.any (fun e => e.outstanding && e.due) = true := by simpa using fun x hx _ => hdue x hx
  have hchanged := changeFirst_append Entry.untransmitted (fun e => { e with seq := some nu.nextSeq, transmitted := true })
    before e after (fun x hx => by simp [Entry.untransmitted, hbefore x hx]) (by simp [Entry.untransmitted, hwaits])
  rw [handNotice, if_neg hany, startRetransmit_eq, hq, hchanged]

theorem sendNotice_of_next (h : nextToSend s.nu = some e) : sendNotice s = setNu (handNotice s.now s.nu) { s with
    hl := { s.hl with
      tx := some ⟨frameBytes kindNotice (sentNumber s.nu e) e.payload, false⟩
      fairness := 0 } } := by
  rw [sendNotice, h]

theorem alertLevel_change {f : Entry → Entry} (hf : (f e).severity = e.severity) :
    alertLevel (before ++ f e :: after) = alertLevel (before ++ e :: after) := by
  simp [alertLevel, hf]

/-- A due notice goes out again under its own number. -/
theorem sendNotice_due {n : Byte} (halert : AlertShown s) (hq : s.nu.queue = before ++ e :: after)
    (hbefore : ∀ x ∈ before, x.transmitted = false ∨ x.due = false) (hsent : e.transmitted = true) (hdue : e.due = true)
    (hseq : e.seq = some n) : sendNotice s = { s with
      hl := { s.hl with tx := some ⟨frameBytes kindNotice n e.payload, false⟩, fairness := 0 }
      nu := { s.nu with
        queue := before ++ { e with due := false } :: after
        timer := some (s.nu.timer.getD (s.now + 200)) } } := by
  have hnumber : sentNumber s.nu e = n := by rw [sentNumber, hseq]; rfl
  rw [sendNotice_of_next (by rw [nextToSend, find_due hq hbefore hsent hdue]), hnumber,
    handNotice_due s.now hq hbefore hsent hdue]
  exact setNu_of_alert (halert.trans (hq ▸ (alertLevel_change (f := fun e => { e with due := false }) rfl).symm))

/-- With none due the oldest untransmitted notice goes out under the next number. -/
theorem sendNotice_first (halert : AlertShown s) (hdue : ∀ x ∈ s.nu.queue, x.due = false)
    (hq : s.nu.queue = before ++ e :: after) (hbefore : ∀ x ∈ before, x.transmitted = true) (hwaits : e.transmitted = false)
    (hseq : e.seq = none) : sendNotice s = { s with
      hl := { s.hl with tx := some ⟨frameBytes kindNotice s.nu.nextSeq e.payload, false⟩, fairness := 0 }
      nu := { s.nu with
        queue := before ++ { e with seq := some s.nu.nextSeq, transmitted := true } :: after
        nextSeq := s.nu.nextSeq + 1
        timer := some (s.nu.timer.getD (s.now + 200)) } } := by
  have hnumber : sentNumber s.nu e = s.nu.nextSeq := by rw [sentNumber, hseq]; rfl
  rw [sendNotice_of_next (by rw [nextToSend, find_due_none hdue, find_untransmitted hq hbefore hwaits]), hnumber,
    handNotice_first s.now hdue hq hbefore hwaits]
  exact setNu_of_alert (halert.trans
    (hq ▸ (alertLevel_change (f := fun e => { e with seq := some s.nu.nextSeq, transmitted := true }) rfl).symm))

theorem noticeEligible_due (hstalled : nu.stalled = false) (hq : nu.queue = before ++ e :: after) (hsent : e.transmitted = true)
    (hdue : e.due = true) : noticeEligible nu = true := by
  simp [noticeEligible, hstalled, hq, Entry.outstanding, hsent, hdue]

theorem noticeEligible_first (hstalled : nu.stalled = false) (hopen : outstandingCount nu.queue < 4)
    (hq : nu.queue = before ++ e :: after) (hwaits : e.transmitted = false) : noticeEligible nu = true := by
  have hany : nu.queue.any Entry.untransmitted = true :=
    List.any_eq_true.2 ⟨e, by simp [hq], by simp [Entry.untransmitted, hwaits]⟩
  simp [noticeEligible, hstalled, hany, show outstandingCount nu.queue < Config.noticeWindow from hopen]

/-! ### The retransmission rounds -/

theorem exec_retransmitTimerExpiry {at' : Nat} (hbusy : s.hl.tx.isSome = true) (halert : AlertShown s)
    (htimer : s.nu.timer = some at') :
    exec .retransmitTimerExpiry s = .next { s with now := max s.now at', nu := retransmitExpiry s.nu } := by
  change execRetransmitTimerExpiry s = _
  simp only [execRetransmitTimerExpiry, htimer]
  suffices halert' : s.pins.alertN = alertLevel (retransmitExpiry s.nu).queue by
    exact congrArg Host.Outcome.next ((txChoose_busy (setNu (retransmitExpiry s.nu) (advanceTo at' s)) hbusy).trans
      (setNu_of_alert (s := advanceTo at' s) halert'))
  refine halert.trans ?_
  unfold retransmitExpiry
  split
  · rfl
  · split
    · rfl
    · exact (alertLevel_map fun e => by split <;> rfl).symm

theorem retransmitExpiry_of_oldest (hq : nu.queue = before ++ e :: after) (hbefore : ∀ x ∈ before, x.transmitted = false)
    (hsent : e.transmitted = true) : retransmitExpiry nu = if 8 ≤ e.retrans then { nu with timer := none, stalled := true }
    else { nu with
      timer := none
      queue := nu.queue.map (fun e => if e.outstanding then { e with due := true, retrans := e.retrans + 1 } else e) } := by
  have hfind : nu.queue.find? Entry.outstanding = some e :=
    List.find?_eq_some_iff_append.2 ⟨hsent, before, after, hq, fun x hx => by simp [Entry.outstanding, hbefore x hx]⟩
  simp only [retransmitExpiry, hfind]

end

/-- Settles O49: the transmitter's choice by the replies and the fairness count, the expiry by the oldest outstanding
entry. -/
theorem transmitterAlternatesAndRetransmits : Obligations.TransmitterAlternatesAndRetransmits := by
  unfold Obligations.TransmitterAlternatesAndRetransmits
  intro straps s
  refine ⟨fun fr htx hrestart => ⟨fun r rest hr hfair hsettled => ?_, fun r rest e k payload hr hlen hfair he hended hfirst => ?_,
    fun hr hnone => ?_, fun hturn hstalled halert before e after n hq hbefore hsent hdue hseq => ?_,
    fun hturn hstalled hdue hopen halert sent e waiting hq hbefore hwaits hseq => ?_⟩,
    fun at' before e after hbusy halert htimer hq hbefore hsent => ⟨fun hlimit => ?_, fun hunder => ?_⟩⟩
  · rw [exec_frameSent htx hrestart, txChoose_reply hr hfair, sendReply, fillReplies_settled _ _ (by exact hsettled)]
  · rw [exec_frameSent htx hrestart, txChoose_reply hr hfair, sendReply,
      fillReplies_one hlen (by exact nextEnded_of_first he hended hfirst)]
    simp [admitEnded, cacheReply, pushReply, hended, Config.cachePlaces]
  · rw [exec_frameSent htx hrestart, txChoose_nothing hr hnone]
  · rw [exec_frameSent htx hrestart, txChoose_notice hturn (noticeEligible_due hstalled hq hsent hdue)]
    exact congrArg Host.Outcome.next (sendNotice_due halert hq hbefore hsent hdue hseq)
  · rw [exec_frameSent htx hrestart, txChoose_notice hturn (noticeEligible_first hstalled hopen hq hwaits)]
    exact congrArg Host.Outcome.next (sendNotice_first halert hdue hq hbefore hwaits hseq)
  · rw [exec_retransmitTimerExpiry hbusy halert htimer, retransmitExpiry_of_oldest hq hbefore hsent, if_pos hlimit]
  · rw [exec_retransmitTimerExpiry hbusy halert htimer, retransmitExpiry_of_oldest hq hbefore hsent,
      if_neg (Nat.not_le.2 hunder)]
    rfl

end Sys2Proof.Machine
end

section
/-! The end of a manual transfer (O35): its request is answered, and nothing else moves. -/

namespace Sys2Proof.Machine

section
variable {s : State} {t : Transfer} {resp : BusResponse} {derate : Bool}

theorem concluded_queue (t : Transfer) (r : BusResponse) (s : State) :
    (concluded t r s).bm.queue = s.bm.queue.filter fun x => !(x.id == t.id) := by rw [concluded_eq]

@[simp] theorem concluded_keeps (t : Transfer) (r : BusResponse) (s : State) :
    (concluded t r s).now = s.now ∧ (concluded t r s).ce = s.ce ∧ (concluded t r s).ctxs = s.ctxs ∧ (concluded t r s).cs = s.cs
      ∧ (concluded t r s).oc = s.oc ∧ (concluded t r s).mu = s.mu ∧ (concluded t r s).hl = s.hl ∧ (concluded t r s).nu = s.nu := by
  rw [concluded_eq]
  exact ⟨rfl, rfl, rfl, rfl, rfl, rfl, rfl, rfl⟩

/-- The answer to a manual transfer's outcome (R135). -/
def manualAnswer (t : Transfer) (out : BusOutcome) (bytes : List Byte) : List Byte :=
  if out = .done then manualReply t .ok (match t.dir with
    | .read => byteOf t.readLen :: bytes
    | .write => [byteOf t.data.length])
  else manualReply t .transferFailed [out.code]

theorem deliver_manual {tag : Byte} {out : BusOutcome} {bytes : List Byte} (horigin : t.origin = .request tag) :
    deliver t out bytes s = endPending (.transfer t.id) (manualAnswer t out bytes) s := by
  have hcls : t.cls = .manual := congrArg Origin.cls horigin
  simp only [deliver, hcls, manualOutcome, manualAnswer]
  split <;> rfl

theorem not_automatic_of_request {tag : Byte} (horigin : t.origin = .request tag) : t.automatic = false := by
  simp [Transfer.automatic, Transfer.cls, horigin, Origin.cls]

theorem endTransaction_manual {tag : Byte} (horigin : t.origin = .request tag) (hstuck : transactionOutcome t resp ≠ .busStuck) :
    endTransaction t resp s = grantDecision (endPending (.transfer t.id)
      (manualAnswer t (transactionOutcome t resp) (deliveredBytes t resp)) (concluded t resp s)) := by
  have hnever : retried s (counted t) = false := by
    rw [retried, not_automatic_of_request (t := counted t) horigin]
    rfl
  rw [endTransaction_final hstuck (.inr hnever), deliver_manual (t := counted t) horigin]
  rfl

theorem transactionOutcome_done (h : transactionOutcome t resp = .done) : ∃ acks data, resp = .complete acks data := by
  cases resp with
  | complete acks data => exact ⟨acks, data, rfl⟩
  | clockHeld n acks data => exact absurd h nofun
  | lineStuck repeated => exact absurd h nofun

end

/-- Settles O35: a manual transfer is never retried, and its delivery is the end of its pending operation. -/
theorem manualTransferEndAnswersRequest : Obligations.ManualTransferEndAnswersRequest := by
  unfold Obligations.ManualTransferEndAnswersRequest
  intro derate resp s t tag e hone htags hwaits hbus hidle horigin he hop hunique hroom hstuck out data head payload
  have hsettled : ∀ x ∈ s.hl.pend, x.ended = none := fun x hx => by
    by_contra hne
    exact absurd (hwaits ⟨x, hx, Option.isSome_iff_ne_none.2 hne⟩) (Nat.not_le.2 hroom)
  have hpayload : manualAnswer t (transactionOutcome t resp) (deliveredBytes t resp) = payload := by
    by_cases hdone : transactionOutcome t resp = .done
    · obtain ⟨acks, bytes, rfl⟩ := transactionOutcome_done hdone
      refine (if_pos hdone).trans (Eq.trans ?_ (if_pos hdone).symm)
      cases hdir : t.dir <;> simp only [manualReply, manualCode, deliveredBytes, hdir] <;> rfl
    · refine (if_neg hdone).trans (Eq.trans ?_ (if_neg hdone).symm)
      cases hdir : t.dir <;> simp only [manualReply, manualCode, hdir] <;> rfl
  obtain ⟨hreply, hpend, -⟩ := (endPending_spec (op := .transfer t.id) (payload := payload) (e := e)
    (s := concluded t resp (sampleDerate derate s)) (by simpa using he) hop (by simpa using hunique)
    (by simpa using hsettled)).1 (by simpa using hroom)
  refine ⟨_, exec_transactionEnd hbus hidle, ?_⟩
  rw [endTransaction_manual horigin hstuck, hpayload]
  refine ⟨hreply.of_hl (by simp), fun x hx => ?_, grantDecision_ids fun x hx => ?_, by simp, by simp, fun id => ?_⟩
  · simp only [grantDecision_keeps, hpend] at hx
    simpa using (List.mem_filter.1 hx).2
  · simp only [endPending_keeps] at hx
    rw [concluded_queue] at hx
    simpa using (List.mem_filter.1 hx).2
  · have hmoved := grantDecision_shadow (endPending (.transfer t.id) payload (concluded t resp (sampleDerate derate s))) id
    simp only [endPending_keeps, concluded_keeps, sampleDerate_fields] at hmoved
    exact ⟨hmoved.fields.2.1, hmoved.reference⟩

end Sys2Proof.Machine
end

section
/-! What work on one slot leaves of the other slots (R66 to R69, R82): `SlotWork slot n s t` says that `t` comes from `s`
by the Target Manager's work on one slot, with at most `n` new transfers. -/

namespace Sys2Proof.Machine

/-- Work on one slot with at most `n` steps placed: automatic transfers of other slots, the shadows of profiles that name
other slots and the invalidations asked for other slots stand as they were. -/
structure SlotWork (slot : Slot) (n : Nat) (s t : State) : Prop where
  evolves : Evolves {slot} s t
  length : t.bm.queue.length ≤ s.bm.queue.length + n
  others : ∀ x ∈ s.bm.queue, x.automatic = true → x.slot ≠ some slot → x ∈ t.bm.queue
  shadows : ∀ id p, activeProfile s id = some p → p.header.slot ≠ slot.val → t.ce.shadows[id] = s.ce.shadows[id]
  flags : ∀ i ≠ slot, t.msgs.ceInvalidate[i] = s.msgs.ceInvalidate[i]
  manual : ∀ x ∈ t.bm.queue, x.automatic = false → x ∈ s.bm.queue

section
variable {slot : Slot} {n k : Nat} {s t u : State}

theorem SlotWork.cs (h : SlotWork slot n s t) : t.cs = s.cs := h.evolves.framed.cs

@[refl] theorem SlotWork.refl (slot : Slot) (s : State) : SlotWork slot 0 s s :=
  ⟨.refl s, Nat.le_refl _, fun _ hx _ _ => hx, fun _ _ _ _ => rfl, fun _ _ => rfl, fun _ hx _ => hx⟩

theorem SlotWork.trans (h : SlotWork slot n s t) (h' : SlotWork slot k t u) : SlotWork slot (n + k) s u where
  evolves := h.evolves.trans h'.evolves
  length := by
    have := h.length
    have := h'.length
    omega
  others x hx hauto hslot := h'.others x (h.others x hx hauto hslot) hauto hslot
  shadows id p hp hslot := (h'.shadows id p ((activeProfile_congr h.cs id).trans hp) hslot).trans (h.shadows id p hp hslot)
  flags i hi := (h'.flags i hi).trans (h.flags i hi)
  manual x hx hman := h.manual x (h'.manual x hx hman) hman

theorem SlotWork.mono (h : SlotWork slot n s t) (hle : n ≤ k) : SlotWork slot k s t :=
  { h with length := h.length.trans (Nat.add_le_add_left hle _) }

/-- Work beside the queue, the shadows and the announcements to the CE. -/
theorem slotWork_of_beside (hevolves : Evolves {slot} s t) (hq : t.bm.queue = s.bm.queue) (hce : t.ce = s.ce)
    (hflags : t.msgs.ceInvalidate = s.msgs.ceInvalidate) : SlotWork slot 0 s t :=
  ⟨hevolves, by rw [hq]; exact Nat.le_refl _, fun x hx _ _ => hq ▸ hx, fun _ _ _ _ => by rw [hce], fun _ _ => by rw [hflags],
    fun x hx _ => hq ▸ hx⟩

theorem slotWork_modCtx (slot : Slot) (f : Ctx → Ctx) (s : State) : SlotWork slot 0 s (modCtx slot f s) :=
  slotWork_of_beside (evolves_modCtx slot f s) rfl rfl rfl

@[simp] theorem postTarget_beside (slot : Slot) (before : TargetState) (s : State) :
    (postTarget slot before s).bm = s.bm ∧ (postTarget slot before s).ce = s.ce ∧ (postTarget slot before s).hl = s.hl
      ∧ (postTarget slot before s).pins = s.pins ∧ (postTarget slot before s).nu = s.nu
      ∧ (postTarget slot before s).msgs = { s.msgs with notices := (postTarget slot before s).msgs.notices } := by
  unfold postTarget
  dsimp only
  split <;> exact ⟨rfl, rfl, rfl, rfl, rfl, rfl⟩

theorem slotWork_postTarget (slot : Slot) (before : TargetState) (s : State) : SlotWork slot 0 s (postTarget slot before s) :=
  slotWork_of_beside (evolves_postTarget slot before s) (by simp) (by simp) (by rw [(postTarget_beside slot before s).2.2.2.2.2])

/-! ### Entries -/

theorem mem_quietQueue_of_other {q : List Transfer} {x : Transfer} (hx : x ∈ q) (hslot : x.slot ≠ some slot) :
    x ∈ quietQueue slot q := by
  have hwaits : waitingAutomaticOf slot x = false := by simp [waitingAutomaticOf, hslot]
  have hbus : onBusAutomaticOf slot x = false := by simp [onBusAutomaticOf, hslot]
  exact List.mem_map.2 ⟨x, List.mem_filter.2 ⟨hx, by rw [hwaits]; rfl⟩, if_neg (by rw [hbus]; exact Bool.false_ne_true)⟩

theorem quietQueue_length_le (slot : Slot) (q : List Transfer) : (quietQueue slot q).length ≤ q.length := by
  rw [quietQueue, List.length_map]
  exact List.length_filter_le _ q

theorem mem_of_mem_quietQueue {q : List Transfer} {x : Transfer} (hx : x ∈ quietQueue slot q) (hman : x.automatic = false) :
    x ∈ q := by
  obtain ⟨y, hy, rfl⟩ := List.mem_map.1 hx
  unfold markedStale at *
  split
  · next hbus =>
    rw [if_pos hbus] at hman
    have hauto : y.automatic = false := hman
    simp [onBusAutomaticOf, hauto] at hbus
  · exact (List.mem_filter.1 hy).1

theorem slotWork_beginEntry (slot : Slot) (st : TargetState) (r : Reason) (d : Detail) (s : State) :
    SlotWork slot 0 s (beginEntry slot st r d s) := by
  obtain ⟨hce, -, hflags⟩ := beginEntry_rest slot st r d s
  refine ⟨evolves_beginEntry slot st r d s, ?_, fun x hx hauto hslot => ?_, fun _ _ _ _ => by rw [hce], fun i hi => ?_,
    fun x hx hman => ?_⟩
  · rw [beginEntry_queue]
    refine (List.length_filter_le _ _).trans ?_
    split
    · exact quietQueue_length_le slot _
    · exact Nat.le_refl _
  · have hkept : purgedAtEntry s slot st x = false := eq_false_of_ne_true fun hpurged => by
      simp [Transfer.automatic, (purgedAtEntry_manual hpurged).1] at hauto
    rw [beginEntry_queue]
    refine List.mem_filter.2 ⟨?_, by rw [hkept]; rfl⟩
    split
    · exact mem_quietQueue_of_other hx hslot
    · exact hx
  · rw [hflags]
    have hne : slot.val ≠ i.val := fun he => hi (Fin.ext he.symm)
    split
    · simp [hne]
    · rfl
  · rw [beginEntry_queue] at hx
    have hx := (List.mem_filter.1 hx).1
    split at hx
    · exact mem_of_mem_quietQueue hx hman
    · exact hx

theorem slotWork_enterPlain (slot : Slot) (st : TargetState) (r : Reason) (d : Detail) (s : State) :
    SlotWork slot 0 s (enterPlain slot st r d s) :=
  (slotWork_beginEntry slot st r d s).trans (slotWork_postTarget _ _ _)

theorem slotWork_enterInService (slot : Slot) (s : State) : SlotWork slot 0 s (enterInService slot s) :=
  ((slotWork_beginEntry slot .inService .loaded .absent s).trans (slotWork_modCtx slot _ _)).trans (slotWork_postTarget _ _ _)

/-! ### Steps -/

theorem slotWork_enqueueStep {r : Request} (hc : r.origin.cls = .restore ∨ r.origin.cls = .check)
    (hroom : s.bm.queue.length < Config.queuePlaces) : SlotWork slot 1 s (enqueueStep slot r s) where
  evolves := evolves_enqueueStep hc hroom
  length := by simp [enqueueStep]
  others x hx _ _ := by simp [enqueueStep, hx]
  shadows _ _ _ _ := rfl
  flags _ _ := rfl
  manual x hx hman := by
    obtain hx | rfl := by simpa [enqueueStep] using hx
    · exact hx
    · change (r.origin.cls != .manual) = false at hman
      obtain h | h := hc <;> simp [h] at hman

theorem slotWork_placeStep (slot : Slot) (marks : Bool) {r : Request} (s : State)
    (hc : r.origin.cls = .restore ∨ r.origin.cls = .check) : SlotWork slot 1 s (placeStep slot marks r s) := by
  rcases placeStep_cases slot marks r s with ⟨-, h⟩ | ⟨-, h⟩ | ⟨-, hroom, h⟩ <;> rw [h]
  · exact (SlotWork.refl slot s).mono (Nat.zero_le 1)
  · exact (slotWork_modCtx slot _ s).mono (Nat.zero_le 1)
  · exact slotWork_enqueueStep hc hroom

theorem slotWork_placeIdentity (slot : Slot) (s : State) : SlotWork slot 1 s (placeIdentity slot s) := by
  rcases placeIdentity_cases slot s with h | ⟨r, c, -, -, h⟩ <;> rw [h]
  · exact (SlotWork.refl slot s).mono (Nat.zero_le 1)
  · exact (slotWork_modCtx slot _ s).trans (slotWork_placeStep slot true _ (.inl rfl))

theorem slotWork_placeCheck (slot : Slot) (s : State) : SlotWork slot 1 s (placeCheck slot s) := by
  have hsame : SlotWork slot 1 s s := (SlotWork.refl slot s).mono (Nat.zero_le 1)
  unfold placeCheck
  split
  · exact hsame
  · split
    · exact hsame
    · split
      · exact hsame
      · exact slotWork_placeStep slot false s (.inr rfl)
    · split
      · exact hsame
      · exact slotWork_placeStep slot false s (.inr rfl)

theorem slotWork_settleInvalidation (slot : Slot) (s : State) : SlotWork slot 0 s (settleInvalidation slot s) where
  evolves := evolves_settleInvalidation slot s
  length := by simp
  others x hx _ _ := by simpa using hx
  shadows id p hp hslot := by
    unfold settleInvalidation
    split
    · have hnames : profileNames s slot id = false := by simp [profileNames, hp, hslot]
      simp only [invalidateSlot, mapTable_get, hnames]
      rfl
    · rfl
  flags i hi := by rw [settleInvalidation_flag, if_neg hi]
  manual x hx _ := by simpa using hx

theorem recordEvaluation_shadow_ne {id j : ProfileId} (hj : j ≠ id) (p : Profile) (e : Evaluation) (isLoad : Bool) (s : State) :
    (recordEvaluation id p e isLoad s).ce.shadows[j] = s.ce.shadows[j] := by
  have hkept : (modShadow id (fun sh => { sh with computed := some e.computed, clamped := e.stages.flag }) s).ce.shadows[j]
      = s.ce.shadows[j] := (setShadow_get ..).trans (if_neg hj)
  unfold recordEvaluation
  dsimp only
  split <;> exact hkept

theorem slotWork_placeProfile (r : TargetRecord) {id : ProfileId} {p : Profile} (s : State)
    (hserves : profileServes s slot id = true) : SlotWork slot 1 s (placeProfile slot r id p s) := by
  have hother {j : ProfileId} {q : Profile} (hq : activeProfile s j = some q) (hslot : q.header.slot ≠ slot.val) : j ≠ id := by
    rintro rfl
    simp [profileServes, hq, hslot] at hserves
  rcases placeProfile_cases slot r id p s with ⟨-, h⟩ | ⟨-, h⟩ | ⟨-, hroom, e, -, h⟩ <;> rw [h]
  · exact (SlotWork.refl slot s).mono (Nat.zero_le 1)
  · exact (slotWork_modCtx slot _ s).mono (Nat.zero_le 1)
  · have hsettled := slotWork_settleInvalidation slot s
    have hplaced : SlotWork slot 0 s (modShadow id (fun sh => { sh with waiting := some ⟨s.bm.nextId, e.output⟩ })
        (recordEvaluation id p e true (settleInvalidation slot s))) := by
      refine ⟨((evolves_settleInvalidation slot s).trans (evolves_recordEvaluation id p e true _)).trans
        (evolves_modShadow id _ _), by simp, fun x hx _ _ => by simpa using hx, fun j q hq hslot => ?_, fun i hi => ?_,
        fun x hx _ => by simpa using hx⟩
      · have hj := hother hq hslot
        exact ((setShadow_get ..).trans (if_neg hj)).trans
          ((recordEvaluation_shadow_ne hj p e true _).trans (hsettled.shadows j q hq hslot))
      · refine Eq.trans ?_ (hsettled.flags i hi)
        simp
    exact hplaced.trans (slotWork_enqueueStep (.inl rfl) (by simpa using hroom))

theorem slotWork_placeLoadStep (r : TargetRecord) {step : LoadStep} (s : State) (h : CursorServes s slot step) :
    SlotWork slot 1 s (placeLoadStep slot r step s) := by
  have hsame : SlotWork slot 1 s s := (SlotWork.refl slot s).mono (Nat.zero_le 1)
  cases step with
  | identity => exact hsame
  | finish => exact hsame
  | image i =>
    unfold placeLoadStep
    dsimp only
    split
    · exact hsame
    · exact slotWork_placeStep slot true s (.inl rfl)
  | profile j =>
    unfold placeLoadStep
    dsimp only
    split
    · exact hsame
    · next id hid =>
      split
      · exact hsame
      · obtain ⟨id', hid', hserves⟩ := h j rfl
        obtain rfl : id = id' := Option.some.inj (hid.symm.trans hid')
        exact slotWork_placeProfile r s hserves
  | latch =>
    unfold placeLoadStep
    dsimp only
    split
    · exact hsame
    · exact slotWork_placeStep slot true s (.inl rfl)
  | marker =>
    unfold placeLoadStep
    dsimp only
    split
    · exact hsame
    · exact slotWork_placeStep slot true s (.inl rfl)

theorem slotWork_goToStep (r : TargetRecord) {step : LoadStep} (s : State) (h : CursorServes s slot step) :
    SlotWork slot 1 s (goToStep slot r step s) := by
  have hmoved := slotWork_modCtx slot (fun c => { c with cursor := step, roomMark := false }) s
  unfold goToStep
  dsimp only
  split
  · exact (hmoved.trans (slotWork_enterInService slot _)).mono (Nat.zero_le 1)
  · refine hmoved.trans (slotWork_placeLoadStep r _ fun j hj => ?_)
    rw [modCtx_get_self]
    exact h j hj

/-! ### The load and the probe -/

theorem slotWork_enterLoading (slot : Slot) (s : State) : SlotWork slot 1 s (enterLoading slot s) := by
  unfold enterLoading
  split
  · exact (SlotWork.refl slot s).mono (Nat.zero_le 1)
  · next r _ =>
    have hcounted := (slotWork_beginEntry slot .loading .probed .absent s).trans
      (slotWork_modCtx slot (countSteps (beginEntry slot .loading .probed .absent s) slot r) _)
    dsimp only
    split
    · next hfinish =>
      rw [hfinish]
      exact (hcounted.trans (slotWork_postTarget slot _ _)).trans (slotWork_goToStep (step := .finish) r _ nofun)
    · exact (hcounted.trans (slotWork_goToStep r _ (cursorServes_fromImage 0))).trans (slotWork_postTarget slot _ _)

theorem slotWork_enterProbing (slot : Slot) (reason : Reason) (d : Detail) (s : State) :
    SlotWork slot 1 s (enterProbing slot reason d s) := by
  have hentered := slotWork_beginEntry slot .probing reason d s
  unfold enterProbing
  dsimp only
  split
  · exact (hentered.trans (slotWork_postTarget slot _ _)).mono (Nat.zero_le 1)
  · split
    · exact (hentered.trans (slotWork_placeIdentity slot _)).trans (slotWork_postTarget slot _ _)
    · exact (hentered.trans (slotWork_postTarget slot _ _)).trans (slotWork_enterLoading slot _)

theorem slotWork_resumeLoad (slot : Slot) (s : State) : SlotWork slot 1 s (resumeLoad slot s) := by
  unfold resumeLoad
  split
  · exact (SlotWork.refl slot s).mono (Nat.zero_le 1)
  · exact slotWork_goToStep _ s (cursorServes_presentStep _)

theorem slotWork_resumeStep (slot : Slot) (s : State) : SlotWork slot 1 s (resumeStep slot s) := by
  have hsame : SlotWork slot 1 s s := (SlotWork.refl slot s).mono (Nat.zero_le 1)
  unfold resumeStep
  split
  · exact hsame
  · split
    · exact slotWork_placeIdentity slot s
    · exact slotWork_resumeLoad slot s
    · exact slotWork_placeCheck slot s
    · exact hsame

theorem slotWork_setUpSlot (part : PartState) (slot : Slot) (s : State) : SlotWork slot 1 s (setUpSlot part slot s) := by
  unfold setUpSlot
  split
  · exact (SlotWork.refl slot s).mono (Nat.zero_le 1)
  · dsimp only
    split
    · exact (slotWork_enterPlain slot .disabled .started .absent s).trans (slotWork_enterProbing slot _ _ _)
    · exact (slotWork_enterPlain slot .disabled .started .absent s).mono (Nat.zero_le 1)

end

end Sys2Proof.Machine
end

section
/-! What a state shows of one slot that a later state still shows, and the queue, context and notice behind an entry
without a sequence start. -/

namespace Sys2Proof.Machine

/-! ### A grant decision at the end of a happening -/

/-- Behind a grant decision: one transfer of the queue may be on the bus, with the reference that names it. -/
structure Granted (s t : State) : Prop where
  ctxs : t.ctxs = s.ctxs
  cs : t.cs = s.cs
  mu : t.mu = s.mu
  oc : t.oc = s.oc
  hl : t.hl = s.hl
  nu : t.nu = s.nu
  msgs : t.msgs = s.msgs
  now : t.now = s.now
  pins : t.pins = s.pins
  ce : t.ce = { s.ce with shadows := t.ce.shadows, latches := t.ce.latches }
  queue : ∃ f : Transfer → Transfer, t.bm.queue = s.bm.queue.map f ∧ ∀ x, f x = x ∨ f x = { x with onBus := true }
  shadows : ∀ i : ProfileId, MovedShadow s.ce.shadows[i] t.ce.shadows[i]

section
variable {s t u : State} {slot : Slot}

theorem Granted.refl (s : State) : Granted s s :=
  ⟨rfl, rfl, rfl, rfl, rfl, rfl, rfl, rfl, rfl, rfl, ⟨id, by simp, fun _ => .inl rfl⟩, fun _ => .inl rfl⟩

theorem granted_grantDecision (s : State) : Granted s (grantDecision s) := by
  refine ⟨by simp, by simp, by simp, by simp, by simp, by simp, by simp, by simp, by simp, grantDecision_ce s, ?_,
    grantDecision_shadow s⟩
  rcases grantDecision_choice s with hsame | ⟨g, -, -, -, hgrant⟩
  · exact ⟨id, by rw [hsame, List.map_id], fun _ => .inl rfl⟩
  · refine ⟨_, by rw [hgrant, grant_queue], fun x => ?_⟩
    split
    · exact .inr rfl
    · exact .inl rfl

theorem granted_decideIfEnqueued (before s : State) : Granted s (decideIfEnqueued before s) := by
  unfold decideIfEnqueued
  split
  · exact granted_grantDecision s
  · exact .refl s

theorem Granted.forward (h : Granted s t) {x : Transfer} (hx : x ∈ s.bm.queue) :
    ∃ y ∈ t.bm.queue, y = { x with onBus := y.onBus } := by
  obtain ⟨f, hq, hf⟩ := h.queue
  refine ⟨f x, hq ▸ List.mem_map_of_mem hx, ?_⟩
  rcases hf x with hfx | hfx <;> rw [hfx]

theorem Granted.backward (h : Granted s t) {y : Transfer} (hy : y ∈ t.bm.queue) :
    ∃ x ∈ s.bm.queue, y = { x with onBus := y.onBus } ∧ (x.onBus = true → y.onBus = true) := by
  obtain ⟨f, hq, hf⟩ := h.queue
  rw [hq] at hy
  obtain ⟨x, hx, rfl⟩ := List.mem_map.1 hy
  refine ⟨x, hx, ?_⟩
  rcases hf x with hfx | hfx <;> rw [hfx] <;> simp

theorem Granted.length (h : Granted s t) : t.bm.queue.length = s.bm.queue.length := by
  obtain ⟨f, hq, -⟩ := h.queue
  rw [hq, List.length_map]

theorem Granted.gone (h : Granted s t) {id : Nat} (hgone : ∀ x ∈ s.bm.queue, x.id ≠ id) : ∀ y ∈ t.bm.queue, y.id ≠ id := by
  intro y hy
  obtain ⟨x, hx, heq, -⟩ := h.backward hy
  rw [heq]
  exact hgone x hx

/-! ### A quiet slot -/

theorem slotQuiet_quietQueue {q : List Transfer} : ∀ x ∈ quietQueue slot q, x.automatic = true → x.slot = some slot →
    x.onBus = true ∧ x.stale = true := by
  intro x hx hauto hslot
  obtain ⟨y, hy, rfl⟩ := List.mem_map.1 hx
  obtain ⟨-, hkept⟩ := List.mem_filter.1 hy
  unfold markedStale at *
  split
  · next hbus =>
    simp only [onBusAutomaticOf, Bool.and_eq_true] at hbus
    exact ⟨hbus.1.1, rfl⟩
  · next hbus =>
    rw [if_neg hbus] at hauto hslot
    cases hon : y.onBus <;> simp_all [waitingAutomaticOf, onBusAutomaticOf]

theorem slotQuiet_beginEntry (slot : Slot) {st : TargetState} (hst : cleanEntry st = true) (r : Reason) (d : Detail)
    (s : State) : SlotQuiet slot (beginEntry slot st r d s) := by
  intro x hx
  rw [beginEntry_queue, if_pos hst] at hx
  exact slotQuiet_quietQueue x (List.mem_filter.1 hx).1

theorem slotQuiet_of_bm (hbm : t.bm = s.bm) (h : SlotQuiet slot s) : SlotQuiet slot t := by
  unfold SlotQuiet
  rw [hbm]
  exact h

theorem slotQuiet_enterPlain (slot : Slot) {st : TargetState} (hst : cleanEntry st = true) (r : Reason) (d : Detail)
    (s : State) : SlotQuiet slot (enterPlain slot st r d s) :=
  slotQuiet_of_bm (postTarget_beside ..).1 (slotQuiet_beginEntry slot hst r d s)

theorem slotQuiet_enterFaultHold (slot : Slot) (r : Reason) (d : Detail) (s : State) :
    SlotQuiet slot (enterFaultHold slot r d s) :=
  slotQuiet_of_bm ((postTarget_beside ..).1.trans rfl) (slotQuiet_beginEntry slot (st := .faultHold) rfl r d s)

theorem Granted.slotQuiet (h : Granted s t) (hquiet : SlotQuiet slot s) : SlotQuiet slot t := by
  intro y hy
  obtain ⟨x, hx, heq, hbus⟩ := h.backward hy
  rw [heq]
  intro hauto hslot
  obtain ⟨hon, hstale⟩ := hquiet x hx hauto hslot
  exact ⟨hbus hon, hstale⟩

/-- Every slot-addressed manual transfer of the slot is on the bus (R67). -/
def ManualsGone (slot : Slot) (s : State) : Prop := ∀ x ∈ s.bm.queue, x.cls = .manual → x.slot = some slot → x.onBus = true

theorem manualsGone_of_filter {p : Transfer → Bool} (h : ∀ x, waitingManualOf slot x = true → p x = true)
    (hq : ∀ x ∈ s.bm.queue, p x = false) : ManualsGone slot s := by
  intro x hx hcls hslot
  by_contra hne
  have hwaits : waitingManualOf slot x = true := by simpa [waitingManualOf, hcls, hslot] using hne
  exact absurd ((hq x hx).symm.trans (h x hwaits)) nofun

theorem manualsGone_beginEntry (slot : Slot) {st : TargetState} (hst : st = .disabled ∨ st = .unconfigured) (r : Reason)
    (d : Detail) (s : State) : ManualsGone slot (beginEntry slot st r d s) := by
  refine manualsGone_of_filter (p := purgedAtEntry s slot st) (fun x hx => by simp [purgedAtEntry, hst, hx]) fun x hx => ?_
  rw [beginEntry_queue] at hx
  simpa using (List.mem_filter.1 hx).2

theorem manualsGone_purgeSlotManual (slot : Slot) (cause : CancelCause) (s : State) :
    ManualsGone slot (purgeSlotManual slot cause s) := by
  refine manualsGone_of_filter (p := waitingManualOf slot) (fun _ => id) fun x hx => ?_
  rw [purgeSlotManual, purgeManual_queue] at hx
  simpa using (List.mem_filter.1 hx).2

theorem Granted.manualsGone (h : Granted s t) (hgone : ManualsGone slot s) : ManualsGone slot t := by
  intro y hy
  obtain ⟨x, hx, heq, hbus⟩ := h.backward hy
  rw [heq]
  exact fun hcls hslot => hbus (hgone x hx hcls hslot)

/-! ### What is still shown of a slot -/

/-- A later state shows the same context of the slot, its automatic transfers but for the bus, and what the shadows of its
profiles refer to. -/
structure StillShown (slot : Slot) (u v : State) : Prop where
  cs : v.cs = u.cs
  tmStore : v.msgs.tmStore = u.msgs.tmStore
  ctx : v.ctxs[slot] = u.ctxs[slot]
  queue : ∀ x ∈ u.bm.queue, x.automatic = true → x.slot = some slot → ∃ y ∈ v.bm.queue, y = { x with onBus := y.onBus }
  shadows : ∀ id p, activeProfile u id = some p → p.header.slot = slot.val →
    v.ce.shadows[id].reference = u.ce.shadows[id].reference ∧ v.ce.shadows[id].computed = u.ce.shadows[id].computed
      ∧ v.ce.shadows[id].clamped = u.ce.shadows[id].clamped

theorem StillShown.refl (slot : Slot) (u : State) : StillShown slot u u :=
  ⟨rfl, rfl, rfl, fun x hx _ _ => ⟨x, hx, rfl⟩, fun _ _ _ _ => ⟨rfl, rfl, rfl⟩⟩

theorem StillShown.trans (h : StillShown slot s t) (h' : StillShown slot t u) : StillShown slot s u where
  cs := h'.cs.trans h.cs
  tmStore := h'.tmStore.trans h.tmStore
  ctx := h'.ctx.trans h.ctx
  queue x hx hauto hslot := by
    obtain ⟨y, hy, hxy⟩ := h.queue x hx hauto hslot
    obtain ⟨z, hz, hyz⟩ := h'.queue y hy (by rw [hxy]; exact hauto) (by rw [hxy]; exact hslot)
    exact ⟨z, hz, by rw [hyz, hxy]⟩
  shadows id p hp hslot := by
    obtain ⟨hreference, hcomputed, hclamped⟩ := h.shadows id p hp hslot
    obtain ⟨hreference', hcomputed', hclamped'⟩ := h'.shadows id p ((activeProfile_congr h.cs id).trans hp) hslot
    exact ⟨hreference'.trans hreference, hcomputed'.trans hcomputed, hclamped'.trans hclamped⟩

theorem Granted.stillShown (h : Granted s t) (slot : Slot) : StillShown slot s t where
  cs := h.cs
  tmStore := by rw [h.msgs]
  ctx := by rw [h.ctxs]
  queue _ hx _ _ := h.forward hx
  shadows id _ _ _ :=
    have hmoved := h.shadows id
    ⟨hmoved.reference, hmoved.fields.1, hmoved.fields.2.2.2⟩

theorem SlotWork.stillShown {i : Slot} {n : Nat} (h : SlotWork slot n s t) (hi : i ≠ slot) : StillShown i s t where
  cs := h.cs
  tmStore := by rw [h.evolves.framed.msgs]
  ctx := h.evolves.framed.ctxs i hi
  queue x hx hauto hslot := ⟨x, h.others x hx hauto fun he => hi (Option.some.inj (hslot.symm.trans he)), rfl⟩
  shadows id p hp hslot := by
    rw [h.shadows id p hp fun he => hi (Fin.ext (hslot.symm.trans he))]
    exact ⟨rfl, rfl, rfl⟩

theorem stillShown_postTarget (slot : Slot) (before : TargetState) (s : State) : StillShown slot s (postTarget slot before s) :=
  ⟨by simp, by rw [(postTarget_beside ..).2.2.2.2.2], by simp, fun x hx _ _ => ⟨x, by simpa using hx, rfl⟩,
    fun _ _ _ _ => by simp⟩

theorem Placed.still {o : Origin} {d : Dir} {addr reg : Byte} {data : List Byte} {readLen delay : Nat}
    (h : Placed s slot o d addr reg data readLen delay) (hauto : o.cls ≠ .manual) (hshown : StillShown slot s t) :
    Placed t slot o d addr reg data readLen delay := by
  obtain ⟨x, hx, hawaited, horigin, hslot, hfields⟩ := h
  obtain ⟨y, hy, hxy⟩ := hshown.queue x hx (by simpa [Transfer.automatic, Transfer.cls, horigin] using hauto) hslot
  refine ⟨y, hy, ?_⟩
  rw [hshown.ctx, hxy]
  exact ⟨hawaited, horigin, hslot, hfields⟩

/-! ### Notices and records -/

theorem postTarget_notices (slot : Slot) (before : TargetState) {r : TargetRecord} (h : activeRecord s slot = some r) :
    (postTarget slot before s).msgs.notices = s.msgs.notices ++ [⟨targetSeverity s.ctxs[slot].state s.ctxs[slot].reason,
      .target slot before s.ctxs[slot].state s.ctxs[slot].reason s.ctxs[slot].detail r.addr s.ctxs[slot].recovery
        s.ctxs[slot].loads s.ctxs[slot].losses s.ctxs[slot].faults⟩] := by
  simp only [postTarget, h]
  rfl

theorem activeRecord_congr (hcs : t.cs = s.cs) (slot : Slot) : activeRecord t slot = activeRecord s slot := by
  unfold activeRecord
  rw [hcs]

theorem recordInUse_congr (hcs : t.cs = s.cs) (hstore : t.msgs.tmStore = s.msgs.tmStore) (slot : Slot) :
    recordInUse t slot = recordInUse s slot := by
  unfold recordInUse
  rw [activeRecord_congr hcs, hstore]

theorem StillShown.recordInUse (h : StillShown slot s t) (i : Slot) : recordInUse t i = recordInUse s i :=
  recordInUse_congr h.cs h.tmStore i

theorem SlotWork.recordInUse {n : Nat} (h : SlotWork slot n s t) (i : Slot) : recordInUse t i = recordInUse s i :=
  recordInUse_congr h.cs (by rw [h.evolves.framed.msgs]) i

/-! ### Work on several slots -/

section
variable {work : Slot → State → State} {n : Nat}

theorem stillShown_foldl (hwork : ∀ i s, SlotWork i n s (work i s)) {slots : List Slot} (h : slot ∉ slots) (s : State) :
    StillShown slot s (slots.foldl (fun s i => work i s) s) := by
  induction slots generalizing s with
  | nil => exact .refl slot s
  | cons i is ih =>
    obtain ⟨hi, his⟩ := not_or.1 (List.mem_cons.not.1 h)
    exact ((hwork i s).stillShown hi).trans (ih his _)

/-- The work on one slot among several. -/
theorem foldl_at (hwork : ∀ i s, SlotWork i n s (work i s)) {slots : List Slot} (hnodup : slots.Nodup) (hmem : slot ∈ slots)
    (s : State) : ∃ m, StillShown slot s m ∧ StillShown slot (work slot m) (slots.foldl (fun s i => work i s) s) := by
  induction slots generalizing s with
  | nil => cases hmem
  | cons i is ih =>
    obtain ⟨hi, his⟩ := List.nodup_cons.1 hnodup
    by_cases heq : slot = i
    · subst heq
      exact ⟨s, .refl slot s, stillShown_foldl hwork hi _⟩
    · obtain ⟨m, hm, hset⟩ := ih his ((List.mem_cons.1 hmem).resolve_left heq) (work i s)
      exact ⟨m, ((hwork i s).stillShown heq).trans hm, hset⟩

end

end

end Sys2Proof.Machine
end

section
/-! The steps of a slot one by one: what placing a step leaves of its context and the queue, and how a probe begins
(R82, R86, R88, R92). -/

namespace Sys2Proof.Machine

section
variable {s t : State} {slot : Slot} {r : TargetRecord}

/-! ### One step -/

theorem postTarget_ctx (slot i : Slot) (before : TargetState) (s : State) : (postTarget slot before s).ctxs[i] = s.ctxs[i] := by
  rw [postTarget_ctxs]

theorem enqueueStep_ctx (slot : Slot) (r : Request) (s : State) :
    (enqueueStep slot r s).ctxs[slot] = { s.ctxs[slot] with awaited := some s.bm.nextId, roomMark := false } := by
  simp [enqueueStep]

/-- An enqueued step stands in the queue as its request asks. -/
theorem placed_enqueueStep {r : Request} (hslot : r.slot = some slot) :
    Placed (enqueueStep slot r s) slot r.origin r.dir r.addr r.reg r.data r.readLen r.delay :=
  ⟨r.record s.bm.nextId s.bm.nextAge, by simp [enqueueStep], by rw [enqueueStep_ctx]; rfl, rfl, hslot, rfl, rfl, rfl, rfl, rfl,
    rfl, rfl, rfl⟩

theorem placeStep_of_room {marks : Bool} {r : Request} (hhold : s.ctxs[slot].staleHold = none) (hroom : s.bm.queue.length < 32) :
    placeStep slot marks r s = enqueueStep slot r s := by
  have hopen : queueFull s = false := by simpa [queueFull] using show s.bm.queue.length < Config.queuePlaces from hroom
  rw [placeStep, hhold, hopen]
  rfl

theorem placeStep_of_hold {marks : Bool} {r : Request} (hhold : s.ctxs[slot].staleHold.isSome = true) :
    placeStep slot marks r s = s := if_pos hhold

theorem placeStep_of_full {marks : Bool} {r : Request} (hhold : s.ctxs[slot].staleHold = none) (hfull : 32 ≤ s.bm.queue.length) :
    placeStep slot marks r s = modCtx slot (fun c => { c with roomMark := marks }) s := by
  have hclosed : queueFull s = true := decide_eq_true hfull
  rw [placeStep, hhold, hclosed]
  rfl

/-- Placing a step touches of its context the awaited transfer and the room mark alone. -/
theorem placeStep_ctx (slot : Slot) (marks : Bool) (r : Request) (s : State) :
    ∃ awaited mark, (placeStep slot marks r s).ctxs[slot] = { s.ctxs[slot] with awaited := awaited, roomMark := mark } := by
  rcases placeStep_cases slot marks r s with ⟨-, h⟩ | ⟨-, h⟩ | ⟨-, -, h⟩ <;> rw [h]
  · exact ⟨_, _, rfl⟩
  · exact ⟨_, _, modCtx_get_self slot _ s⟩
  · exact ⟨_, _, enqueueStep_ctx slot r s⟩

/-! ### The identity read -/

/-- How the identity read of a probe stands: placed, or waiting for the stale hold or with the room mark. -/
def ProbeStands (t : State) (slot : Slot) (r : TargetRecord) (c : IdentityCheck) : Prop :=
  Placed t slot .identity .read r.addr c.reg [] 1 0
    ∨ (t.ctxs[slot].awaited = none ∧ (t.ctxs[slot].staleHold.isSome = true ∨ t.ctxs[slot].roomMark = true))

theorem placeIdentity_eq {c : IdentityCheck} (hr : recordInUse s slot = some r) (hc : r.identity = some c) :
    placeIdentity slot s = placeStep slot true (readRequest .identity slot r.addr c.reg)
      (modCtx slot (fun x => { x with probe := some c }) s) := by
  simp only [placeIdentity, hr, hc]

theorem placeIdentity_probe {c : IdentityCheck} (hr : recordInUse s slot = some r) (hc : r.identity = some c)
    (hidle : s.ctxs[slot].awaited = none) : ProbeStands (placeIdentity slot s) slot r c
      ∧ ∃ awaited mark, (placeIdentity slot s).ctxs[slot]
        = { s.ctxs[slot] with probe := some c, awaited := awaited, roomMark := mark } := by
  have hself := modCtx_get_self slot (fun x => { x with probe := some c }) s
  rw [placeIdentity_eq hr hc]
  refine ⟨?_, ?_⟩
  · rcases placeStep_cases slot true (readRequest .identity slot r.addr c.reg)
      (modCtx slot (fun x => { x with probe := some c }) s) with ⟨hhold, h⟩ | ⟨-, h⟩ | ⟨-, -, h⟩ <;> rw [h]
    · exact .inr ⟨by rw [hself]; exact hidle, .inl hhold⟩
    · exact .inr ⟨by rw [modCtx_get_self, hself]; exact hidle, .inr (by rw [modCtx_get_self])⟩
    · exact .inl (placed_enqueueStep (r := readRequest .identity slot r.addr c.reg) rfl)
  · obtain ⟨awaited, mark, h⟩ := placeStep_ctx slot true (readRequest .identity slot r.addr c.reg)
      (modCtx slot (fun x => { x with probe := some c }) s)
    exact ⟨awaited, mark, by rw [h, hself]⟩

/-! ### The step of a load -/

theorem enqueueStep_ctx_of {u : State} {q : Request} (hu : u.ctxs = s.ctxs) : ∃ awaited mark,
    (enqueueStep slot q u).ctxs[slot] = { s.ctxs[slot] with awaited := awaited, roomMark := mark } :=
  ⟨_, _, by rw [enqueueStep_ctx, hu]⟩

theorem placeProfile_ctx (slot : Slot) (r : TargetRecord) (id : ProfileId) (p : Profile) (s : State) : ∃ awaited mark,
    (placeProfile slot r id p s).ctxs[slot] = { s.ctxs[slot] with awaited := awaited, roomMark := mark } := by
  rcases placeProfile_cases slot r id p s with ⟨-, h⟩ | ⟨-, h⟩ | ⟨-, -, e, -, h⟩ <;> rw [h]
  · exact ⟨_, _, rfl⟩
  · exact ⟨_, _, modCtx_get_self slot _ s⟩
  · exact enqueueStep_ctx_of (by simp)

theorem placeLoadStep_ctx (slot : Slot) (r : TargetRecord) (step : LoadStep) (s : State) : ∃ awaited mark,
    (placeLoadStep slot r step s).ctxs[slot] = { s.ctxs[slot] with awaited := awaited, roomMark := mark } := by
  unfold placeLoadStep
  split
  case h_1 => exact ⟨_, _, rfl⟩
  case h_6 => exact ⟨_, _, rfl⟩
  case h_3 =>
    split
    · exact ⟨_, _, rfl⟩
    · split
      · exact ⟨_, _, rfl⟩
      · exact placeProfile_ctx slot r _ _ s
  all_goals
    split
    · exact ⟨_, _, rfl⟩
    · exact placeStep_ctx slot true _ s

theorem goToStep_of_ne {step : LoadStep} (h : step ≠ .finish) : goToStep slot r step s
    = placeLoadStep slot r step (modCtx slot (fun c => { c with cursor := step, roomMark := false }) s) := if_neg h

theorem goToStep_finish : goToStep slot r .finish s
    = enterInService slot (modCtx slot (fun c => { c with cursor := .finish, roomMark := false }) s) := by
  rw [goToStep]
  exact if_pos rfl

/-- The context of a load in progress behind a move of its cursor. -/
theorem goToStep_ctx (slot : Slot) (r : TargetRecord) {step : LoadStep} (h : step ≠ .finish) (s : State) : ∃ awaited mark,
    (goToStep slot r step s).ctxs[slot] = { s.ctxs[slot] with cursor := step, awaited := awaited, roomMark := mark } := by
  obtain ⟨awaited, mark, hctx⟩ := placeLoadStep_ctx slot r step
    (modCtx slot (fun c => { c with cursor := step, roomMark := false }) s)
  exact ⟨awaited, mark, by rw [goToStep_of_ne h, hctx, modCtx_get_self]⟩

/-- The context a completed load leaves (R92). -/
def completedCtx (s : State) (slot : Slot) (c : Ctx) : Ctx :=
  { forgetCounts (nameEntry .inService .loaded .absent c) with
    loads := satInc c.loads
    cursor := .identity
    roomMark := false
    checkTimer := checkExpiry s slot }

theorem enterInService_ctx (slot : Slot) (s : State) :
    (enterInService slot s).ctxs[slot] = completedCtx s slot s.ctxs[slot] := by
  rw [enterInService, postTarget_ctx, modCtx_get_self, beginEntry_ctx]
  rfl

theorem SlotWork.checkExpiry {n : Nat} (h : SlotWork slot n s t) (i : Slot) : checkExpiry t i = checkExpiry s i := by
  unfold Machine.checkExpiry
  rw [h.recordInUse, h.evolves.framed.now]

theorem goToStep_finish_ctx (slot : Slot) (r : TargetRecord) (s : State) :
    (goToStep slot r .finish s).ctxs[slot] = completedCtx s slot s.ctxs[slot] := by
  rw [goToStep_finish, enterInService_ctx, modCtx_get_self]
  rfl

/-! ### The count of a load -/

theorem imageEntries_congr (hcs : t.cs = s.cs) (slot : Slot) : imageEntries t slot = imageEntries s slot := by
  simp only [imageEntries, activeImage, hcs]

theorem profileServes_congr (hcs : t.cs = s.cs) (slot : Slot) : profileServes t slot = profileServes s slot := by
  funext id
  simp only [profileServes, activeProfile_congr hcs id]

theorem slotProfiles_congr (hcs : t.cs = s.cs) (slot : Slot) : slotProfiles t slot = slotProfiles s slot := by
  have hkey : profileKey t = profileKey s := by
    funext id
    simp only [profileKey, activeProfile_congr hcs id]
  rw [slotProfiles, slotProfiles, hkey, profileServes_congr hcs]

theorem countSteps_congr (hcs : t.cs = s.cs) (slot : Slot) (r : TargetRecord) : countSteps t slot r = countSteps s slot r := by
  funext c
  rw [countSteps, countSteps, imageEntries_congr hcs, slotProfiles_congr hcs]

/-- The context at the entry into LOADING, its steps counted (R88). -/
def countedCtx (s : State) (slot : Slot) (r : TargetRecord) : Ctx :=
  countSteps s slot r (nameEntry .loading .probed .absent s.ctxs[slot])

/-- The part at the entry into LOADING, its steps counted, before the first one (R88). -/
def loadingState (slot : Slot) (r : TargetRecord) (s : State) : State :=
  modCtx slot (countSteps (beginEntry slot .loading .probed .absent s) slot r) (beginEntry slot .loading .probed .absent s)

theorem enterLoading_done (hr : recordInUse s slot = some r) (h : fromImage (loadingState slot r s) slot 0 = .finish) :
    enterLoading slot s = goToStep slot r .finish (postTarget slot s.ctxs[slot].state (loadingState slot r s)) := by
  rw [loadingState] at h ⊢
  simp only [enterLoading, hr, h]
  exact if_pos trivial

theorem enterLoading_placed (hr : recordInUse s slot = some r) (h : fromImage (loadingState slot r s) slot 0 ≠ .finish) :
    enterLoading slot s = postTarget slot s.ctxs[slot].state
      (goToStep slot r (fromImage (loadingState slot r s) slot 0) (loadingState slot r s)) := by
  rw [loadingState] at h ⊢
  simp only [enterLoading, hr]
  exact if_neg h

theorem loadingState_ctx (slot : Slot) (r : TargetRecord) (s : State) :
    (loadingState slot r s).ctxs[slot] = countedCtx s slot r := by
  rw [loadingState, modCtx_get_self, beginEntry_ctx, countSteps_congr (s := s) (by simp)]
  rfl

theorem slotWork_loadingState (slot : Slot) (r : TargetRecord) (s : State) : SlotWork slot 0 s (loadingState slot r s) :=
  (slotWork_beginEntry slot .loading .probed .absent s).trans (slotWork_modCtx slot _ _)

theorem fromMarker_ne_finish {c : Ctx} (h : c.markerStep = true) : fromMarker c ≠ .finish := by
  rw [fromMarker, if_pos h]
  nofun

theorem fromImage_ne_finish {i : Nat} (h : s.ctxs[slot].markerStep = true) : fromImage s slot i ≠ .finish := by
  have hlatch : fromLatch s.ctxs[slot] ≠ .finish := by
    unfold fromLatch
    split
    · nofun
    · exact fromMarker_ne_finish h
  unfold fromImage fromProfile
  split
  · nofun
  · split
    · nofun
    · exact hlatch

/-- The entry into LOADING leaves the load in progress or, without a step, complete. -/
theorem enterLoading_ctx (hr : recordInUse s slot = some r) :
    (∃ step awaited mark, step ≠ .finish ∧ (enterLoading slot s).ctxs[slot]
        = { countedCtx s slot r with cursor := step, awaited := awaited, roomMark := mark })
      ∨ (r.marker = none ∧ (enterLoading slot s).ctxs[slot] = completedCtx s slot (countedCtx s slot r)) := by
  have hctx := loadingState_ctx slot r s
  have hwork := slotWork_loadingState slot r s
  by_cases hstep : fromImage (loadingState slot r s) slot 0 = .finish
  · refine .inr ⟨?_, ?_⟩
    · by_contra hmarker
      refine fromImage_ne_finish ?_ hstep
      rw [hctx]
      exact Option.isSome_iff_ne_none.2 hmarker
    · rw [enterLoading_done hr hstep, goToStep_finish_ctx, postTarget_ctx, hctx]
      refine congrArg (fun timer => { completedCtx s slot (countedCtx s slot r) with checkTimer := timer }) ?_
      exact (hwork.trans (slotWork_postTarget slot _ _)).checkExpiry slot
  · obtain ⟨awaited, mark, h⟩ := goToStep_ctx slot r hstep (loadingState slot r s)
    exact .inl ⟨_, awaited, mark, hstep, by rw [enterLoading_placed hr hstep, postTarget_ctx, h, hctx]⟩

/-! ### The probe -/

/-- The part at the entry into PROBING, before the identity read. -/
def probingState (slot : Slot) (reason : Reason) (d : Detail) (s : State) : State := beginEntry slot .probing reason d s

/-- The context at the entry into PROBING (R66, R86). -/
def probingCtx (s : State) (slot : Slot) (reason : Reason) (d : Detail) : Ctx :=
  cleanCtx (namedHold slot s) (nameEntry .probing reason d s.ctxs[slot])

theorem probingState_ctx (slot : Slot) (reason : Reason) (d : Detail) (s : State) :
    (probingState slot reason d s).ctxs[slot] = probingCtx s slot reason d := beginEntry_ctx ..

theorem slotWork_probingState (slot : Slot) (reason : Reason) (d : Detail) (s : State) :
    SlotWork slot 0 s (probingState slot reason d s) := slotWork_beginEntry ..

theorem enterProbing_identity {c : IdentityCheck} {reason : Reason} {d : Detail} (hr : recordInUse s slot = some r)
    (hc : r.identity = some c) : enterProbing slot reason d s
      = postTarget slot s.ctxs[slot].state (placeIdentity slot (probingState slot reason d s)) := by
  have hr' := ((slotWork_probingState slot reason d s).recordInUse slot).trans hr
  rw [probingState] at hr' ⊢
  simp only [enterProbing, hr', hc]
  rfl

theorem enterProbing_load {reason : Reason} {d : Detail} (hr : recordInUse s slot = some r) (hc : r.identity = none) :
    enterProbing slot reason d s
      = enterLoading slot (postTarget slot s.ctxs[slot].state (probingState slot reason d s)) := by
  have hr' := ((slotWork_probingState slot reason d s).recordInUse slot).trans hr
  rw [probingState] at hr' ⊢
  simp only [enterProbing, hr', hc]
  rfl

/-- The probe of a record with an identity check. -/
theorem enterProbing_probe {c : IdentityCheck} {reason : Reason} {d : Detail} (hr : recordInUse s slot = some r)
    (hc : r.identity = some c) : ProbeStands (enterProbing slot reason d s) slot r c
      ∧ ∃ awaited mark, (enterProbing slot reason d s).ctxs[slot]
        = { probingCtx s slot reason d with probe := some c, awaited := awaited, roomMark := mark } := by
  have hctx := probingState_ctx slot reason d s
  obtain ⟨hstands, awaited, mark, h⟩ := placeIdentity_probe
    (((slotWork_probingState slot reason d s).recordInUse slot).trans hr) hc (by rw [hctx]; rfl)
  rw [enterProbing_identity hr hc]
  refine ⟨?_, awaited, mark, by rw [postTarget_ctx, h, hctx]⟩
  rcases hstands with hplaced | hwaits
  · exact .inl (hplaced.still nofun (stillShown_postTarget ..))
  · exact .inr (by rw [postTarget_ctxs]; exact hwaits)

/-- The probe of a record without an identity check goes on to the load. -/
theorem enterProbing_loading {reason : Reason} {d : Detail} (hr : recordInUse s slot = some r) (hc : r.identity = none) :
    ∃ u, u.ctxs[slot] = probingCtx s slot reason d ∧ recordInUse u slot = some r ∧ SlotWork slot 0 s u
      ∧ enterProbing slot reason d s = enterLoading slot u := by
  have hwork := (slotWork_probingState slot reason d s).trans
    (slotWork_postTarget slot s.ctxs[slot].state (probingState slot reason d s))
  exact ⟨_, by rw [postTarget_ctx, probingState_ctx], (hwork.recordInUse slot).trans hr, hwork, enterProbing_load hr hc⟩

theorem probed_enterProbing (slot : Slot) (reason : Reason) (d : Detail) (hr : recordInUse s slot = some r) :
    Probed slot r reason (enterProbing slot reason d s) := by
  refine ⟨fun c hc => ?_, fun hnone => ?_⟩
  · obtain ⟨hstands, awaited, mark, h⟩ := enterProbing_probe (reason := reason) (d := d) hr hc
    exact ⟨congrArg Ctx.state h, congrArg Ctx.reason h, congrArg Ctx.cursor h, congrArg Ctx.checkTimer h,
      congrArg Ctx.faultTimer h, congrArg Ctx.probe h, hstands⟩
  · obtain ⟨u, -, hu, -, h⟩ := enterProbing_loading (reason := reason) (d := d) hr hnone
    rw [h]
    rcases enterLoading_ctx hu with ⟨step, awaited, mark, -, h⟩ | ⟨-, h⟩
    · exact .inl ⟨congrArg Ctx.state h, congrArg Ctx.reason h⟩
    · exact .inr ⟨congrArg Ctx.state h, congrArg Ctx.reason h⟩

theorem Probed.still {reason : Reason} (h : Probed slot r reason s) (hshown : StillShown slot s t) :
    Probed slot r reason t := by
  obtain ⟨hprobe, hload⟩ := h
  unfold Probed
  rw [hshown.ctx]
  refine ⟨fun c hc => ?_, hload⟩
  obtain ⟨hstate, hreason, hcursor, hcheck, hfault, hkept, hstands⟩ := hprobe c hc
  exact ⟨hstate, hreason, hcursor, hcheck, hfault, hkept, hstands.imp_left fun hplaced => hplaced.still nofun hshown⟩

/-- The counters of a slot behind a probe: what an entry into PROBING counts nothing of. -/
theorem enterProbing_counters (slot : Slot) (reason : Reason) (d : Detail) (hr : recordInUse s slot = some r) :
    (enterProbing slot reason d s).ctxs[slot].losses = s.ctxs[slot].losses
      ∧ (enterProbing slot reason d s).ctxs[slot].faults = s.ctxs[slot].faults
      ∧ ((r.identity.isSome = true ∨ r.marker.isSome = true) →
        (enterProbing slot reason d s).ctxs[slot].recovery = s.ctxs[slot].recovery)
      ∧ (s.ctxs[slot].recovery = 0 → (enterProbing slot reason d s).ctxs[slot].recovery = 0) := by
  cases hc : r.identity with
  | some c =>
    obtain ⟨-, awaited, mark, h⟩ := enterProbing_probe (reason := reason) (d := d) hr hc
    rw [h]
    exact ⟨rfl, rfl, fun _ => rfl, fun hzero => hzero⟩
  | none =>
    obtain ⟨u, hctx, hu, -, h⟩ := enterProbing_loading (reason := reason) (d := d) hr hc
    rw [h]
    rcases enterLoading_ctx hu with ⟨step, awaited, mark, -, h⟩ | ⟨hmarker, h⟩
    · rw [h, countedCtx, hctx]
      exact ⟨rfl, rfl, fun _ => rfl, fun hzero => hzero⟩
    · rw [h, countedCtx, hctx]
      exact ⟨rfl, rfl, fun hsome => by simp [hmarker] at hsome, fun _ => rfl⟩

end

end Sys2Proof.Machine
end

section
/-! Slot set-up, activations and removals, and the end of a fault hold (O7, O23, O25). -/

namespace Sys2Proof.Machine

section
variable {s t u : State} {slot : Slot} {r : TargetRecord}

/-! ### Entries without a sequence start -/

theorem enterPlain_ctx (slot : Slot) {st : TargetState} (hst : cleanEntry st = true) (r : Reason) (d : Detail) (s : State) :
    (enterPlain slot st r d s).ctxs[slot] = cleanCtx (namedHold slot s) (nameEntry st r d s.ctxs[slot]) := by
  rw [enterPlain, postTarget_ctx, beginEntry_ctx, if_pos hst]

theorem enterFaultHold_ctx (slot : Slot) (r : Reason) (d : Detail) (s : State) : (enterFaultHold slot r d s).ctxs[slot]
    = { cleanCtx (namedHold slot s) (nameEntry .faultHold r d s.ctxs[slot]) with
        faults := satInc s.ctxs[slot].faults
        faultTimer := some (s.now + (activeSettings s).holdTime * 1000) } := by
  rw [enterFaultHold, postTarget_ctx, modCtx_get_self, beginEntry_ctx]
  rfl

theorem manualsGone_of_bm (hbm : t.bm = s.bm) (h : ManualsGone slot s) : ManualsGone slot t := by
  unfold ManualsGone
  rw [hbm]
  exact h

theorem manualsGone_enterPlain (slot : Slot) {st : TargetState} (hst : st = .disabled ∨ st = .unconfigured) (r : Reason)
    (d : Detail) (s : State) : ManualsGone slot (enterPlain slot st r d s) :=
  manualsGone_of_bm (postTarget_beside ..).1 (manualsGone_beginEntry slot hst r d s)

theorem SlotWork.manualsGone {i : Slot} {n : Nat} (h : SlotWork i n s t) (hgone : ManualsGone slot s) : ManualsGone slot t :=
  fun x hx hcls hslot => hgone x (h.manual x hx (by simp [Transfer.automatic, hcls])) hcls hslot

/-- An entry with the actions of R66 tells the CE and leaves the CE's own state. -/
theorem enterPlain_ce (slot : Slot) {st : TargetState} (hst : cleanEntry st = true) (r : Reason) (d : Detail) (s : State) :
    (enterPlain slot st r d s).ce = s.ce ∧ (enterPlain slot st r d s).msgs.ceInvalidate = s.msgs.ceInvalidate.set slot true := by
  obtain ⟨hce, -, hflags⟩ := beginEntry_rest slot st r d s
  rw [if_pos hst] at hflags
  unfold enterPlain
  rw [(postTarget_beside ..).2.2.2.2.2]
  exact ⟨(postTarget_beside ..).2.1.trans hce, hflags⟩

theorem enterFaultHold_ce (slot : Slot) (r : Reason) (d : Detail) (s : State) :
    (enterFaultHold slot r d s).ce = s.ce ∧ (enterFaultHold slot r d s).msgs.ceInvalidate = s.msgs.ceInvalidate.set slot true := by
  obtain ⟨hce, -, hflags⟩ := beginEntry_rest slot .faultHold r d s
  unfold enterFaultHold
  dsimp only
  rw [(postTarget_beside ..).2.2.2.2.2]
  exact ⟨(postTarget_beside ..).2.1.trans hce, hflags⟩

/-! ### Slot set-up (R79) -/

theorem setUpSlots_eq_foldl (part : PartState) (slots : List Slot) (s : State) :
    setUpSlots part slots s = slots.foldl (fun s i => setUpSlot part i s) s := by
  induction slots generalizing s with
  | nil => rfl
  | cons i is ih => exact ih _

theorem setUpSlot_none {part : PartState} (h : activeRecord s slot = none) : setUpSlot part slot s = s := by
  simp only [setUpSlot, h]

theorem setUpSlot_disabled {part : PartState} (h : activeRecord s slot = some r)
    (hstays : r.autoStart = false ∨ part = .start ∨ part = .safe) :
    setUpSlot part slot s = enterPlain slot .disabled .started .absent s := by
  simp only [setUpSlot, h]
  refine if_neg fun ⟨hauto, hpart⟩ => ?_
  obtain hnot | rfl | rfl := hstays
  · exact absurd (hnot.symm.trans hauto) nofun
  · obtain hpart | hpart := hpart <;> cases hpart
  · obtain hpart | hpart := hpart <;> cases hpart

theorem setUpSlot_starts {part : PartState} (h : activeRecord s slot = some r) (hauto : r.autoStart = true)
    (hpart : part = .run ∨ part = .hold) : setUpSlot part slot s
      = enterProbing slot .autoStart .absent (enterPlain slot .disabled .started .absent s) := by
  simp only [setUpSlot, h]
  exact if_pos ⟨hauto, hpart⟩

theorem exec_slotSetUp {derate : Bool} {part : PartState} (h : s.msgs.endTm = some part) : exec (.slotSetUp derate) s
    = .next (decideIfEnqueued s
        (setUpSlots part (List.finRange 8) (sampleDerate derate { s with msgs := { s.msgs with endTm := none } }))) := by
  change execSlotSetUp derate s = _
  unfold execSlotSetUp
  rw [h]

end

/-- Settles O7: the set-up of one slot, and that of the others, which leaves it. -/
theorem slotSetUpEntersDisabledOrProbes : Obligations.SlotSetUpEntersDisabledOrProbes := by
  unfold Obligations.SlotSetUpEntersDisabledOrProbes
  intro derate s part hpart
  have hframed := (evolves_setUpSlots part (List.finRange 8)
    (sampleDerate derate { s with msgs := { s.msgs with endTm := none } })).framed
  have hgranted := granted_decideIfEnqueued s
    (setUpSlots part (List.finRange 8) (sampleDerate derate { s with msgs := { s.msgs with endTm := none } }))
  refine ⟨_, exec_slotSetUp hpart, by rw [hgranted.msgs, hframed.msgs]; rfl, hgranted.cs.trans hframed.cs,
    hgranted.mu.trans hframed.mu, hgranted.oc.trans hframed.oc, fun slot => ?_⟩
  obtain ⟨m, hm, hset⟩ := foldl_at (slotWork_setUpSlot part) (List.nodup_finRange 8) (List.mem_finRange slot)
    (sampleDerate derate { s with msgs := { s.msgs with endTm := none } })
  rw [← setUpSlots_eq_foldl] at hset
  have hshown := hset.trans (hgranted.stillShown slot)
  have hrecord : activeRecord m slot = activeRecord s slot := activeRecord_congr hm.cs slot
  refine ⟨fun hnone => ?_, fun r hr => ⟨fun hstays => ?_, fun hauto hruns => ?_⟩⟩
  · rw [hshown.ctx, setUpSlot_none (hrecord.trans hnone), hm.ctx]
    rfl
  · rw [hshown.ctx, setUpSlot_disabled (hrecord.trans hr) hstays, enterPlain_ctx slot rfl]
    exact ⟨rfl, rfl, rfl⟩
  · rw [setUpSlot_starts (hrecord.trans hr) hauto hruns] at hshown
    exact (probed_enterProbing slot .autoStart .absent (((slotWork_enterPlain ..).recordInUse slot).trans
      (recordInUse_of_active (hrecord.trans hr)))).still hshown

/-! ### Activations and removals -/

section
variable {s t u : State} {slot : Slot} {r : TargetRecord}

theorem exec_recordActivation {derate : Bool} {before : Option TargetRecord} {rest : List TmActivation}
    (h : s.msgs.tmStore = .record slot before (some r) :: rest) : exec (.recordActivation derate) s
      = .next (decideIfEnqueued s (takeRecord slot before r (sampleDerate derate { s with msgs := { s.msgs with tmStore := rest } }))) := by
  change execRecordActivation derate s = _
  unfold execRecordActivation takeTmStore
  rw [h]
  rfl

theorem exec_imageActivation {derate : Bool} {present : Bool} {rest : List TmActivation}
    (h : s.msgs.tmStore = .image slot present :: rest) : exec (.imageActivation derate) s
      = .next (if present = true ∧ automaticUse s.ctxs[slot].state = true then
          decideIfEnqueued s (activationProbe slot (sampleDerate derate { s with msgs := { s.msgs with tmStore := rest } }))
        else sampleDerate derate { s with msgs := { s.msgs with tmStore := rest } }) := by
  change execImageActivation derate s = _
  unfold execImageActivation takeTmStore
  rw [h]
  rfl

theorem exec_recordRemoval {before : Option TargetRecord} {rest : List TmActivation}
    (h : s.msgs.tmStore = .record slot before none :: rest) (hstate : s.ctxs[slot].state ≠ .unconfigured) :
    exec .recordRemoval s = .next (enterPlain slot .unconfigured .recordRemoved .absent
      (modCtx slot clearCounters { s with msgs := { s.msgs with tmStore := rest } })) := by
  change execRecordRemoval s = _
  unfold execRecordRemoval takeTmStore
  rw [h]
  exact congrArg Host.Outcome.next (if_neg hstate)

theorem addressChange_ctxs (slot : Slot) (before : Option TargetRecord) (after : TargetRecord) (s : State) :
    (addressChange slot before after s).ctxs = s.ctxs := by
  unfold addressChange purgeSlotManual
  split
  · split <;> simp
  · rfl

theorem evolves_addressChange (slot : Slot) (before : Option TargetRecord) (after : TargetRecord) (s : State) :
    Evolves {slot} s (addressChange slot before after s) := by
  unfold addressChange
  split
  · split
    · rfl
    · exact evolves_purgeSlotManual slot _ s
  · rfl

theorem manualsGone_addressChange {b after : TargetRecord} (h : b.addr ≠ after.addr) (s : State) :
    ManualsGone slot (addressChange slot (some b) after s) := by
  have hpurged : addressChange slot (some b) after s = purgeSlotManual slot .addressChanged s := if_neg h
  rw [hpurged]
  exact manualsGone_purgeSlotManual slot _ s

theorem takeRecord_added {before : Option TargetRecord} (h : s.ctxs[slot].state = .unconfigured) :
    takeRecord slot before r s = recordAdded slot r s := if_pos h

theorem takeRecord_kept {before : Option TargetRecord} (h : s.ctxs[slot].state = .disabled ∨ s.ctxs[slot].state = .suspended) :
    takeRecord slot before r s = addressChange slot before r s := by
  have hstate : s.ctxs[slot].state ≠ .unconfigured := by
    intro heq
    rw [heq] at h
    exact absurd h nofun
  have hnot : ¬ automaticUse s.ctxs[slot].state = true := by obtain h | h := h <;> rw [h] <;> exact Bool.false_ne_true
  exact (if_neg hstate).trans (if_neg hnot)

theorem takeRecord_probes {before : Option TargetRecord} (h : automaticUse s.ctxs[slot].state = true) :
    takeRecord slot before r s = activationProbe slot (addressChange slot before r s) := by
  have hstate : s.ctxs[slot].state ≠ .unconfigured := by
    intro heq
    rw [heq] at h
    exact absurd h nofun
  exact (if_neg hstate).trans (if_pos h)

theorem slotWork_activationProbe (slot : Slot) (s : State) : SlotWork slot 1 s (activationProbe slot s) :=
  (slotWork_modCtx slot _ s).trans (slotWork_enterProbing slot _ _ _)

theorem activationProbe_spec (hr : recordInUse s slot = some r) : Probed slot r .activation (activationProbe slot s)
    ∧ (activationProbe slot s).ctxs[slot].recovery = 0 := by
  have hr' : recordInUse (modCtx slot (fun c => { c with recovery := 0 }) s) slot = some r := hr
  exact ⟨probed_enterProbing slot .activation .absent hr',
    (enterProbing_counters slot .activation .absent hr').2.2.2 (by rw [modCtx_get_self])⟩

theorem recordAdded_disabled (h : ¬ (r.autoStart = true ∧ (s.oc.part = .run ∨ s.oc.part = .hold))) :
    recordAdded slot r s = enterPlain slot .disabled .recordAdded .absent s := if_neg h

theorem recordAdded_starts (h : r.autoStart = true ∧ (s.oc.part = .run ∨ s.oc.part = .hold)) : recordAdded slot r s
    = enterProbing slot .autoStart .absent (enterPlain slot .disabled .recordAdded .absent s) := if_pos h

/-- Where the address changed, no waiting slot-addressed manual transfer is left (R68). -/
theorem manualsGone_takeRecord {b : TargetRecord} (h : b.addr ≠ r.addr) (hstate : s.ctxs[slot].state ≠ .unconfigured) :
    ManualsGone slot (takeRecord slot (some b) r s) := by
  have htaken : takeRecord slot (some b) r s = if automaticUse s.ctxs[slot].state
      then activationProbe slot (addressChange slot (some b) r s) else addressChange slot (some b) r s := if_neg hstate
  rw [htaken]
  split
  · exact (slotWork_activationProbe slot _).manualsGone (manualsGone_addressChange h s)
  · exact manualsGone_addressChange h s

end

/-- Settles O23: each activation by the state it meets, through the entry it makes. -/
theorem recordAndImageActivationActByState : Obligations.RecordAndImageActivationActByState := by
  unfold Obligations.RecordAndImageActivationActByState
  refine ⟨?_, fun derate s slot present rest hmsg => ⟨fun r hpresent huse hr => ?_, fun hnot => ?_⟩,
    fun s slot before rest hmsg hstate => ?_⟩
  · intro derate s slot before r rest hmsg hr auto
    have hframed := (evolves_takeRecord slot before r
      (sampleDerate derate { s with msgs := { s.msgs with tmStore := rest } })).framed
    have hgranted := granted_decideIfEnqueued s
      (takeRecord slot before r (sampleDerate derate { s with msgs := { s.msgs with tmStore := rest } }))
    have huse : recordInUse (sampleDerate derate { s with msgs := { s.msgs with tmStore := rest } }) slot = some r :=
      recordInUse_of_active hr
    refine ⟨_, exec_recordActivation hmsg, by rw [hgranted.msgs, hframed.msgs]; rfl, fun i hi => ?_,
      hgranted.cs.trans hframed.cs, hgranted.oc.trans hframed.oc, hgranted.mu.trans hframed.mu, fun hstate hnot => ?_,
      fun hstate hauto => ?_, fun hstate => ?_, fun hstate => ?_, fun b hb haddr hstate => ?_⟩
    · rw [hgranted.ctxs]
      exact hframed.ctxs i hi
    · rw [hgranted.ctxs, takeRecord_added (by exact hstate), recordAdded_disabled (by exact hnot), enterPlain_ctx slot rfl]
      exact ⟨rfl, rfl⟩
    · have hshown := hgranted.stillShown slot
      rw [takeRecord_added (by exact hstate), recordAdded_starts (by exact hauto)] at hshown
      rw [takeRecord_added (by exact hstate), recordAdded_starts (by exact hauto)]
      exact (probed_enterProbing slot .autoStart .absent (((slotWork_enterPlain ..).recordInUse slot).trans huse)).still hshown
    · rw [hgranted.ctxs, takeRecord_kept (by exact hstate), addressChange_ctxs]
      rfl
    · have hshown := hgranted.stillShown slot
      obtain ⟨hprobed, hrecovery⟩ := activationProbe_spec (r := r) (slot := slot)
        (s := addressChange slot before r (sampleDerate derate { s with msgs := { s.msgs with tmStore := rest } }))
        ((recordInUse_congr (evolves_addressChange ..).framed.cs
          (by rw [(evolves_addressChange ..).framed.msgs]) slot).trans huse)
      rw [← takeRecord_probes (by exact hstate)] at hprobed hrecovery
      exact ⟨hprobed.still hshown, by rw [hshown.ctx]; exact hrecovery⟩
    · subst hb
      exact hgranted.manualsGone (manualsGone_takeRecord haddr (by exact hstate))
  · have hwork := slotWork_activationProbe slot (sampleDerate derate { s with msgs := { s.msgs with tmStore := rest } })
    have hgranted := granted_decideIfEnqueued s
      (activationProbe slot (sampleDerate derate { s with msgs := { s.msgs with tmStore := rest } }))
    have hframed := hwork.evolves.framed
    obtain ⟨hprobed, hrecovery⟩ := activationProbe_spec (r := r) (slot := slot)
      (s := sampleDerate derate { s with msgs := { s.msgs with tmStore := rest } }) (recordInUse_of_active hr)
    refine ⟨_, (exec_imageActivation hmsg).trans (congrArg _ (if_pos ⟨hpresent, huse⟩)),
      hprobed.still (hgranted.stillShown slot), by rw [hgranted.ctxs]; exact hrecovery, fun i hi => ?_,
      by rw [hgranted.msgs, hframed.msgs]; rfl, hgranted.cs.trans hframed.cs, hgranted.oc.trans hframed.oc,
      hgranted.mu.trans hframed.mu⟩
    rw [hgranted.ctxs]
    exact hframed.ctxs i hi
  · refine (exec_imageActivation hmsg).trans (congrArg _ (if_neg fun ⟨hpresent, huse⟩ => ?_))
    obtain h | h := hnot
    · exact absurd (h.symm.trans hpresent) nofun
    · exact absurd (h.symm.trans huse) nofun
  · have hctx := enterPlain_ctx slot (st := .unconfigured) rfl .recordRemoved .absent
      (modCtx slot clearCounters { s with msgs := { s.msgs with tmStore := rest } })
    rw [modCtx_get_self] at hctx
    obtain ⟨hce, hflags⟩ := enterPlain_ce slot (st := .unconfigured) rfl .recordRemoved .absent
      (modCtx slot clearCounters { s with msgs := { s.msgs with tmStore := rest } })
    have hframed := ((evolves_modCtx slot clearCounters { s with msgs := { s.msgs with tmStore := rest } }).trans
      (evolves_enterPlain slot .unconfigured .recordRemoved .absent _)).framed
    refine ⟨_, exec_recordRemoval hmsg hstate, congrArg Ctx.state hctx, congrArg Ctx.reason hctx, congrArg Ctx.detail hctx,
      congrArg Ctx.recovery hctx, congrArg Ctx.loads hctx, congrArg Ctx.losses hctx, congrArg Ctx.faults hctx,
      congrArg Ctx.checkTimer hctx, congrArg Ctx.faultTimer hctx, congrArg Ctx.awaited hctx, slotQuiet_enterPlain slot rfl _ _ _,
      manualsGone_enterPlain slot (.inr rfl) _ _ _, by rw [hflags]; simp, by rw [hframed.msgs], hframed.ctxs, hframed.cs, hce,
      hframed.oc, hframed.mu⟩

/-! ### Fault hold -/

section
variable {s : State} {slot : Slot}

theorem exec_compensationFailureReport {r : FailureReport} {rest : List FailureReport} (h : s.msgs.tmReports = r :: rest) :
    exec .compensationFailureReport s = .next (if s.ctxs[r.slot].state = .inService then
      enterFaultHold r.slot .unreachable (.failed r.origin r.outcome) { s with msgs := { s.msgs with tmReports := rest } }
      else { s with msgs := { s.msgs with tmReports := rest } }) := by
  change execCompensationFailureReport s = _
  unfold execCompensationFailureReport
  rw [h]

theorem exec_faultHoldTimerExpiry {derate : Bool} {at' : Nat} (h : s.ctxs[slot].faultTimer = some at') :
    exec (.faultHoldTimerExpiry slot derate) s
      = .next (decideIfEnqueued s (holdExpired slot (sampleDerate derate (advanceTo at' s)))) := by
  change execFaultHoldTimerExpiry slot derate s = _
  unfold execFaultHoldTimerExpiry
  rw [h]

theorem holdExpired_exhausted (hlimit : (activeSettings s).recoveryLimit ≠ 0)
    (hreached : (activeSettings s).recoveryLimit ≤ s.ctxs[slot].recovery) :
    holdExpired slot s = enterPlain slot .outOfService .recoveryExhausted .absent s := if_pos ⟨hlimit, hreached⟩

theorem holdExpired_probes (h : (activeSettings s).recoveryLimit = 0 ∨ s.ctxs[slot].recovery < (activeSettings s).recoveryLimit) :
    holdExpired slot s = enterProbing slot .holdExpired .absent
      (modCtx slot (fun c => { c with recovery := min 15 (c.recovery + 1) }) s) :=
  if_neg fun ⟨hlimit, hreached⟩ => h.elim hlimit (Nat.not_lt.2 hreached)

end

/-- Settles O25: the entry into FAULT_HOLD, and its expiry by the limit of the active settings. -/
theorem faultHoldIsEnteredAndEnds : Obligations.FaultHoldIsEnteredAndEnds := by
  unfold Obligations.FaultHoldIsEnteredAndEnds
  refine ⟨fun s r rest hmsg => ⟨fun hstate => ?_, fun hstate => ?_⟩, ?_⟩
  · have hctx := enterFaultHold_ctx r.slot .unreachable (.failed r.origin r.outcome) { s with msgs := { s.msgs with tmReports := rest } }
    obtain ⟨hce, hflags⟩ := enterFaultHold_ce r.slot .unreachable (.failed r.origin r.outcome)
      { s with msgs := { s.msgs with tmReports := rest } }
    have hframed := (evolves_enterFaultHold r.slot .unreachable (.failed r.origin r.outcome)
      { s with msgs := { s.msgs with tmReports := rest } }).framed
    exact ⟨_, (exec_compensationFailureReport hmsg).trans (congrArg _ (if_pos hstate)), congrArg Ctx.state hctx,
      congrArg Ctx.reason hctx, congrArg Ctx.detail hctx, by rw [hctx]; rfl, by rw [hctx]; rfl,
      congrArg Ctx.checkTimer hctx, congrArg Ctx.checkStep hctx, by rw [hctx]; rfl,
      slotQuiet_enterFaultHold r.slot _ _ _, by rw [hflags]; simp, by rw [hframed.msgs], hframed.ctxs, hframed.cs, hce,
      hframed.oc, hframed.mu⟩
  · exact (exec_compensationFailureReport hmsg).trans (congrArg _ (if_neg hstate))
  · intro derate s slot at' r htimer hr limit
    have hframed := (evolves_holdExpired slot (sampleDerate derate (advanceTo at' s))).framed
    have hgranted := granted_decideIfEnqueued s (holdExpired slot (sampleDerate derate (advanceTo at' s)))
    refine ⟨_, exec_faultHoldTimerExpiry htimer, fun hlimit hreached => ?_, fun hbelow => ?_, hgranted.now.trans hframed.now,
      fun i hi => ?_, hgranted.cs.trans hframed.cs, hgranted.mu.trans hframed.mu, hgranted.oc.trans hframed.oc⟩
    · have hended := holdExpired_exhausted (slot := slot) (s := sampleDerate derate (advanceTo at' s)) hlimit (by exact hreached)
      rw [hended] at hgranted ⊢
      have hctx := enterPlain_ctx slot (st := .outOfService) rfl .recoveryExhausted .absent (sampleDerate derate (advanceTo at' s))
      rw [hgranted.ctxs]
      exact ⟨congrArg Ctx.state hctx, congrArg Ctx.reason hctx, by rw [hctx]; rfl,
        hgranted.slotQuiet (slotQuiet_enterPlain slot rfl _ _ _)⟩
    · have hprobes := holdExpired_probes (slot := slot) (s := sampleDerate derate (advanceTo at' s)) hbelow
      have hr' : recordInUse (modCtx slot (fun c => { c with recovery := min 15 (c.recovery + 1) })
          (sampleDerate derate (advanceTo at' s))) slot = some r := recordInUse_of_active hr
      rw [hprobes] at hgranted ⊢
      refine ⟨(probed_enterProbing slot .holdExpired .absent hr').still (hgranted.stillShown slot), fun hidentity => ?_⟩
      rw [hgranted.ctxs, (enterProbing_counters slot .holdExpired .absent hr').2.2.1 (.inl hidentity), modCtx_get_self]
      rfl
    · rw [hgranted.ctxs]
      exact hframed.ctxs i hi

end Sys2Proof.Machine
end

section
/-! TARGET_ADMIN taken with change (O22): the reply stands ahead of the entry, with the state and reason the entry leads to. -/

namespace Sys2Proof.Machine

section
variable {s t : State} {slot : Slot} {r : TargetRecord}

/-! ### A reply that was given stays given -/

theorem fillReplies_replies (n : Nat) (s : State) :
    (∀ r ∈ s.hl.replies, r ∈ (fillReplies n s).hl.replies) ∧ (fillReplies n s).hl.tx = s.hl.tx := by
  induction n generalizing s with
  | zero => exact ⟨fun _ h => h, rfl⟩
  | succ n ih =>
    unfold fillReplies
    split
    · split
      · exact ⟨fun _ h => h, rfl⟩
      · next e _ =>
        obtain ⟨hkept, htx⟩ := ih (admitEnded e s)
        exact ⟨fun r hr => hkept r (by simp [admitEnded, cacheReply, pushReply, hr]), htx⟩
    · exact ⟨fun _ h => h, rfl⟩

theorem ReplyGiven.txChoose {tag : Byte} {payload : List Byte} {restart : Bool} (h : ReplyGiven tag payload restart s) :
    ReplyGiven tag payload restart (txChoose s) := by
  rcases txChoose_cases s with heq | ⟨htx, r, rest, hr, -, heq⟩ | ⟨htx, -, -, heq⟩ <;> rw [heq]
  · exact h
  · obtain ⟨hkept, hsent⟩ := fillReplies_replies Config.pendingPlaces { s with hl := { s.hl with
      replies := rest
      tx := some ⟨frameBytes kindReply r.tag r.payload, r.restart⟩
      fairness := min 4 (s.hl.fairness + 1) } }
    have hqueued := h.resolve_right (by rw [htx]; nofun)
    rw [hr] at hqueued
    obtain rfl | hrest := List.mem_cons.1 hqueued
    · exact .inr hsent
    · exact .inl (hkept _ hrest)
  · have hqueued := h.resolve_right (by rw [htx]; nofun)
    unfold sendNotice
    split
    · exact h
    · exact .inl hqueued

theorem ReplyGiven.endPending {tag : Byte} {payload : List Byte} {restart : Bool} (h : ReplyGiven tag payload restart s)
    (op : PendingOp) (p : List Byte) : ReplyGiven tag payload restart (endPending op p s) := by
  rcases endPending_cases op p s with heq | ⟨e, -, -, -, ⟨-, heq⟩ | ⟨-, heq⟩⟩ <;> rw [heq]
  · exact h
  · exact ReplyGiven.txChoose (h.imp_left fun hr => by simp [cacheReply, pushReply, hr])
  · exact h

theorem ReplyGiven.evolves {S : Set Slot} {tag : Byte} {payload : List Byte} {restart : Bool}
    (h : ReplyGiven tag payload restart s) (hst : Evolves S s t) : ReplyGiven tag payload restart t := by
  refine hst.keeps (I := ReplyGiven tag payload restart) (fun u v htouch hu => ?_) h
  cases htouch with
  | aside haside => exact hu.of_hl haside.hl
  | enqueue q u hq => exact hu.of_hl (by simp)
  | change f u hf => exact hu
  | leave p u => exact hu.of_hl (by simp)
  | answer op p u => exact hu.endPending op p

/-! ### The entry a part with the same store makes -/

theorem firstServing_congr (hcs : t.cs = s.cs) (i : Nat) (ids : List ProfileId) :
    firstServing t slot i ids = firstServing s slot i ids := by
  induction ids generalizing i with
  | nil => rfl
  | cons id ids ih => simp only [firstServing, profileServes_congr hcs, ih]

/-- Where a load goes on depends on the store and on the count of its steps alone. -/
theorem fromImage_congr (hcs : t.cs = s.cs) {c : Ctx} {i : Nat}
    (hs : s.ctxs[slot].imageCount = c.imageCount ∧ s.ctxs[slot].profileList = c.profileList
      ∧ s.ctxs[slot].latchStep = c.latchStep ∧ s.ctxs[slot].markerStep = c.markerStep)
    (ht : t.ctxs[slot].imageCount = c.imageCount ∧ t.ctxs[slot].profileList = c.profileList
      ∧ t.ctxs[slot].latchStep = c.latchStep ∧ t.ctxs[slot].markerStep = c.markerStep) :
    fromImage t slot i = fromImage s slot i := by
  obtain ⟨himages, hprofiles, hlatch, hmarker⟩ := hs
  obtain ⟨himages', hprofiles', hlatch', hmarker'⟩ := ht
  simp only [fromImage, fromProfile, fromLatch, fromMarker, firstServing_congr hcs, himages, hprofiles, hlatch, hmarker,
    himages', hprofiles', hlatch', hmarker']

theorem fromImage_loadingState_congr (hcs : t.cs = s.cs) :
    fromImage (loadingState slot r t) slot 0 = fromImage (loadingState slot r s) slot 0 := by
  have hsame : (loadingState slot r t).cs = (loadingState slot r s).cs :=
    (slotWork_loadingState slot r t).cs.trans (hcs.trans (slotWork_loadingState slot r s).cs.symm)
  refine fromImage_congr hsame (c := countedCtx s slot r) (by rw [loadingState_ctx]; exact ⟨rfl, rfl, rfl, rfl⟩) ?_
  rw [loadingState_ctx, countedCtx, countSteps_congr hcs]
  exact ⟨rfl, rfl, rfl, rfl⟩

/-- The state and reason of a slot's context. -/
def Ctx.named (c : Ctx) : TargetState × Reason := (c.state, c.reason)

theorem enterLoading_named (hr : recordInUse s slot = some r) : (enterLoading slot s).ctxs[slot].named
    = if fromImage (loadingState slot r s) slot 0 = .finish then (.inService, .loaded) else (.loading, .probed) := by
  by_cases hstep : fromImage (loadingState slot r s) slot 0 = .finish
  · rw [if_pos hstep, enterLoading_done hr hstep, goToStep_finish_ctx]
    rfl
  · obtain ⟨awaited, mark, h⟩ := goToStep_ctx slot r hstep (loadingState slot r s)
    rw [if_neg hstep, enterLoading_placed hr hstep, postTarget_ctx, h, loadingState_ctx]
    rfl

theorem enterProbing_named {reason : Reason} {d : Detail} (hr : recordInUse s slot = some r) :
    (enterProbing slot reason d s).ctxs[slot].named = if r.identity.isSome then (.probing, reason)
      else if fromImage (loadingState slot r s) slot 0 = .finish then (.inService, .loaded) else (.loading, .probed) := by
  cases hc : r.identity with
  | some c =>
    obtain ⟨-, awaited, mark, h⟩ := enterProbing_probe (reason := reason) (d := d) hr hc
    rw [h]
    rfl
  | none =>
    obtain ⟨u, -, hu, hwork, h⟩ := enterProbing_loading (reason := reason) (d := d) hr hc
    rw [h, enterLoading_named hu, fromImage_loadingState_congr hwork.cs]
    rfl

theorem enterProbing_named_congr {reason : Reason} {d : Detail} (hcs : t.cs = s.cs) (hr : recordInUse s slot = some r)
    (hr' : recordInUse t slot = some r) :
    (enterProbing slot reason d t).ctxs[slot].named = (enterProbing slot reason d s).ctxs[slot].named := by
  rw [enterProbing_named hr, enterProbing_named hr', fromImage_loadingState_congr hcs]

/-- What an action makes of the slot. -/
theorem actOn_named {a : Action} (hr : activeRecord s slot = some r) : (actOn a slot s).ctxs[slot].named = match a with
    | .enable => (enterProbing slot .hostEnable .absent s).ctxs[slot].named
    | .disable => (.disabled, .hostDisable)
    | .suspend => (.suspended, .hostSuspend)
    | .resume => (enterProbing slot .hostResume .absent s).ctxs[slot].named
    | .reload => (enterProbing slot .hostReload .absent s).ctxs[slot].named := by
  cases a with
  | enable => rfl
  | disable =>
    rw [actOn, enterPlain_ctx slot rfl]
    rfl
  | suspend =>
    rw [actOn, enterPlain_ctx slot rfl]
    rfl
  | resume =>
    have hcs : (purgeSlotManual slot .slotState s).cs = s.cs := by simp [purgeSlotManual]
    exact enterProbing_named_congr hcs (recordInUse_of_active hr)
      (recordInUse_of_active ((activeRecord_congr hcs slot).trans hr))
  | reload => exact enterProbing_named_congr rfl (recordInUse_of_active hr) (recordInUse_of_active hr)

theorem actOn_named_congr {a : Action} (hcs : t.cs = s.cs) (hr : activeRecord s slot = some r) :
    (actOn a slot t).ctxs[slot].named = (actOn a slot s).ctxs[slot].named := by
  have hr' := (activeRecord_congr hcs slot).trans hr
  have hprobe (reason : Reason) := enterProbing_named_congr (reason := reason) (d := .absent) hcs (recordInUse_of_active hr)
    (recordInUse_of_active hr')
  rw [actOn_named hr, actOn_named hr']
  cases a with
  | disable => rfl
  | suspend => rfl
  | enable => exact hprobe _
  | resume => exact hprobe _
  | reload => exact hprobe _

/-! ### The request -/

/-- The reply items of a taken action, the state and reason those the action leads to. -/
def adminPayload (slot : Slot) (a : Action) (before : TargetState) (after : Ctx) : List Byte :=
  [0x14, 0x00, byteOf slot.val, a.code, before.code, after.state.code, after.reason.code]

theorem adminPayload_congr {a : Action} {st : TargetState} {c d : Ctx} (h : c.named = d.named) :
    adminPayload slot a st c = adminPayload slot a st d := by
  obtain ⟨hstate, hreason⟩ := Prod.mk.inj h
  rw [adminPayload, adminPayload, hstate, hreason]

/-- The part with a taken action answered, before its entry. -/
def adminReplied (slot : Slot) (a : Action) (f : Frame) (s : State) : State :=
  reply f .ok (adminItems (byteOf slot.val) a.code s.ctxs[slot].state.code (actOn a slot s).ctxs[slot].state.code
    (actOn a slot s).ctxs[slot].reason.code) s

theorem adminReplied_spec {f : Frame} {a : Action} (hcode : f.code = some 0x14) (hsettled : ∀ e ∈ s.hl.pend, e.ended = none)
    (hr : activeRecord s slot = some r) : SameButLink s (adminReplied slot a f s)
      ∧ Answered f (adminPayload slot a s.ctxs[slot].state (actOn a slot (adminReplied slot a f s)).ctxs[slot]) s.hl.intake
        (adminReplied slot a f s) := by
  obtain ⟨hanswered, hsame⟩ := reply_spec (f := f) (r := .ok) (content := adminItems (byteOf slot.val) a.code
    s.ctxs[slot].state.code (actOn a slot s).ctxs[slot].state.code (actOn a slot s).ctxs[slot].reason.code) hsettled
  rw [replyPayload, hcode] at hanswered
  refine ⟨hsame, ?_⟩
  rw [adminPayload_congr (actOn_named_congr (t := adminReplied slot a f s) hsame.cs hr)]
  exact hanswered

/-- A taken action: the part with the request answered, then the entry. -/
theorem admin_enters {derate : Bool} {f : Frame} {rest : List Frame} {a : Action} (h : Asked s f rest) (hcode : f.code = some 0x14)
    (hargs : adminArgs f.args = some (slot, a)) (hr : activeRecord s slot = some r) (hadmitted : adminRefused a s.oc.part = false)
    (hadmit : admitAction a s.ctxs[slot].state = some true) : ∃ u before,
      exec (.targetAdmin derate) s = .next (decideIfEnqueued before (actOn a slot u)) ∧ before.bm = s.bm
        ∧ SameButLink (sampleDerate derate s) u
        ∧ Answered f (adminPayload slot a s.ctxs[slot].state (actOn a slot u).ctxs[slot]) rest u := by
  have hbody := (admin_admitted (f := f) (slot := slot) (a := a) (u := taken f rest (sampleDerate derate s)) hadmitted).trans
    (by rw [show admitAction a (taken f rest (sampleDerate derate s)).ctxs[slot].state = some true from hadmit])
  obtain ⟨hsame, hanswered⟩ := adminReplied_spec (a := a) (s := taken f rest (sampleDerate derate s)) hcode (by exact h.settled)
    (show activeRecord (taken f rest (sampleDerate derate s)) slot = some r from hr)
  exact ⟨adminReplied slot a f (taken f rest (sampleDerate derate s)), taken f rest (sampleDerate derate s),
    (targetAdmin_asked derate h hcode hargs).trans (congrArg _ hbody), rfl,
    (sameButLink_taken f rest (sampleDerate derate s)).trans rfl hsame, hanswered⟩

/-- What a taken action leaves of the part beside its slot. -/
theorem admin_frame {derate : Bool} {f : Frame} {rest : List Frame} {a : Action} {u before : State}
    (hsame : SameButLink (sampleDerate derate s) u)
    (hanswered : Answered f (adminPayload slot a s.ctxs[slot].state (actOn a slot u).ctxs[slot]) rest u) :
    OtherSlotsKept slot s (decideIfEnqueued before (actOn a slot u)) ∧ (decideIfEnqueued before (actOn a slot u)).cs = s.cs
      ∧ (decideIfEnqueued before (actOn a slot u)).mu = s.mu ∧ (decideIfEnqueued before (actOn a slot u)).oc = s.oc
      ∧ (decideIfEnqueued before (actOn a slot u)).ce.trims = s.ce.trims
      ∧ (decideIfEnqueued before (actOn a slot u)).ce.hostDerate = s.ce.hostDerate
      ∧ (decideIfEnqueued before (actOn a slot u)).ce.passCount = s.ce.passCount
      ∧ (decideIfEnqueued before (actOn a slot u)).hl.intake = rest
      ∧ ReplyGiven f.tag (adminPayload slot a s.ctxs[slot].state (decideIfEnqueued before (actOn a slot u)).ctxs[slot]) false
        (decideIfEnqueued before (actOn a slot u)) := by
  have hgranted := granted_decideIfEnqueued before (actOn a slot u)
  have hevolves := evolves_actOn a slot u
  have hframed := hevolves.framed
  obtain ⟨hintake, hreply, -⟩ := hanswered
  have hce : (decideIfEnqueued before (actOn a slot u)).ce = { s.ce with
      shadows := (decideIfEnqueued before (actOn a slot u)).ce.shadows
      latches := (decideIfEnqueued before (actOn a slot u)).ce.latches } := by
    rw [hgranted.ce, hframed.ce, hsame.ce]
    rfl
  refine ⟨fun i hi => ?_, hgranted.cs.trans (hframed.cs.trans hsame.cs), hgranted.mu.trans (hframed.mu.trans hsame.mu),
    hgranted.oc.trans (hframed.oc.trans hsame.oc), by rw [hce], by rw [hce], by rw [hce], ?_, ?_⟩
  · rw [hgranted.ctxs]
    exact (hframed.ctxs i hi).trans (by rw [hsame.ctxs]; rfl)
  · rw [hgranted.hl, hframed.intake, hintake]
  · rw [hgranted.ctxs]
    exact (hreply.evolves hevolves).of_hl hgranted.hl

theorem decideIfEnqueued_same {before : State} (h : s.bm.nextId = before.bm.nextId) : decideIfEnqueued before s = s :=
  if_neg (by rw [h]; exact Nat.lt_irrefl _)

theorem enterPlain_suspended_hl (slot : Slot) (reason : Reason) (d : Detail) (s : State) :
    (enterPlain slot .suspended reason d s).hl = s.hl := (postTarget_beside ..).2.2.1

theorem enterPlain_suspended_notices {reason : Reason} {d : Detail} (hr : activeRecord s slot = some r) :
    (enterPlain slot .suspended reason d s).msgs.notices = s.msgs.notices ++ [⟨.info, .target slot s.ctxs[slot].state
      .suspended reason d r.addr 0 s.ctxs[slot].loads s.ctxs[slot].losses s.ctxs[slot].faults⟩] := by
  have hctx := beginEntry_ctx slot .suspended reason d s
  rw [enterPlain, postTarget_notices slot s.ctxs[slot].state (r := r) ((activeRecord_congr (by simp) slot).trans hr), hctx,
    (beginEntry_rest slot .suspended reason d s).2.1]
  rfl

theorem mem_quietQueue_of_manual {q : List Transfer} {x : Transfer} (hx : x ∈ q) (hman : x.automatic = false) :
    x ∈ quietQueue slot q := by
  have hwaits : waitingAutomaticOf slot x = false := by simp [waitingAutomaticOf, hman]
  have hbus : onBusAutomaticOf slot x = false := by simp [onBusAutomaticOf, hman]
  exact List.mem_map.2 ⟨x, List.mem_filter.2 ⟨hx, by rw [hwaits]; rfl⟩, if_neg (by rw [hbus]; exact Bool.false_ne_true)⟩

theorem Answered.of_hl {f : Frame} {payload : List Byte} {rest : List Frame} (h : Answered f payload rest s) (hhl : t.hl = s.hl) :
    Answered f payload rest t := by
  obtain ⟨hintake, hreply, hcache⟩ := h
  exact ⟨by rw [hhl]; exact hintake, hreply.of_hl hhl, by rw [hhl]; exact hcache⟩

theorem admitAction_probes {a : Action} {st : TargetState} (h : (a = .enable ∧ st = .disabled) ∨ (a = .resume ∧ st = .suspended)
    ∨ (a = .reload ∧ automaticUse st = true)) : admitAction a st = some true := by
  obtain ⟨rfl, rfl⟩ | ⟨rfl, rfl⟩ | ⟨rfl, h⟩ := h
  · rfl
  · rfl
  · exact if_pos h

theorem admitAction_disables {st : TargetState} (hst : st ≠ .unconfigured) (hne : st ≠ .disabled) :
    admitAction .disable st = some true := by
  rw [admitAction, if_neg hst, bne_iff_ne.2 hne]

theorem admitAction_suspends {st : TargetState} (hst : st ≠ .unconfigured) (hne : st ≠ .suspended) :
    admitAction .suspend st = some true := by
  rw [admitAction, if_neg hst, bne_iff_ne.2 hne]

end

/-- Settles O22: each action by the entry it makes behind its reply. -/
theorem adminActionMovesSlotAndAnswers : Obligations.AdminActionMovesSlotAndAnswers := by
  unfold Obligations.AdminActionMovesSlotAndAnswers
  intro derate s f rest slot a r h hcode hargs hr st frame
  refine ⟨fun hpart => ?_, fun hpart => ?_⟩
  · have hadmitted : adminRefused a s.oc.part = false := by obtain hp | hp := hpart <;> rw [hp] <;> rfl
    refine ⟨fun ha hst => ?_, fun ha hst => ?_, fun ha hst => ?_⟩
    · subst ha
      obtain ⟨u, before, hexec, -, hsame, hanswered⟩ := admin_enters (derate := derate) h hcode hargs hr hadmitted
        (admitAction_probes (.inl ⟨rfl, hst⟩))
      have hr' : activeRecord u slot = some r := (activeRecord_congr hsame.cs slot).trans hr
      exact ⟨_, hexec, (probed_enterProbing slot .hostEnable .absent (recordInUse_of_active hr')).still
        ((granted_decideIfEnqueued before _).stillShown slot), admin_frame hsame hanswered⟩
    · subst ha
      obtain ⟨u, before, hexec, -, hsame, hanswered⟩ := admin_enters (derate := derate) h hcode hargs hr hadmitted
        (admitAction_probes (.inr (.inl ⟨rfl, hst⟩)))
      have hr' : activeRecord (purgeSlotManual slot .slotState u) slot = some r :=
        (activeRecord_congr (by simp [purgeSlotManual, hsame.cs]) slot).trans hr
      have hgranted := granted_decideIfEnqueued before (actOn .resume slot u)
      exact ⟨_, hexec, (probed_enterProbing slot .hostResume .absent (recordInUse_of_active hr')).still
        (hgranted.stillShown slot), admin_frame hsame hanswered,
        hgranted.manualsGone ((slotWork_enterProbing slot .hostResume .absent _).manualsGone (manualsGone_purgeSlotManual slot _ u))⟩
    · subst ha
      obtain ⟨u, before, hexec, -, hsame, hanswered⟩ := admin_enters (derate := derate) h hcode hargs hr hadmitted
        (admitAction_probes (.inr (.inr ⟨rfl, hst⟩)))
      have hr' : recordInUse (modCtx slot (fun c => { c with recovery := 0 }) u) slot = some r :=
        recordInUse_of_active ((activeRecord_congr hsame.cs slot).trans hr)
      have hgranted := granted_decideIfEnqueued before (actOn .reload slot u)
      refine ⟨_, hexec, (probed_enterProbing slot .hostReload .absent hr').still (hgranted.stillShown slot), ?_,
        admin_frame hsame hanswered⟩
      rw [hgranted.ctxs]
      exact (enterProbing_counters slot .hostReload .absent hr').2.2.2 (by rw [modCtx_get_self])
  · refine ⟨fun ha hst hne => ?_, fun ha hst hne => ?_⟩
    · subst ha
      have hadmitted : adminRefused .disable s.oc.part = false := by
        cases hp : s.oc.part with
        | start => exact absurd hp hpart
        | _ => rfl
      obtain ⟨u, before, hexec, -, hsame, hanswered⟩ := admin_enters (derate := derate) h hcode hargs hr hadmitted
        (admitAction_disables hst hne)
      have hgranted := granted_decideIfEnqueued before (actOn .disable slot u)
      have hctx := enterPlain_ctx slot (st := .disabled) rfl .hostDisable .absent u
      refine ⟨_, hexec, ?_, ?_, ?_, hgranted.slotQuiet (slotQuiet_enterPlain slot rfl _ _ _),
        hgranted.manualsGone (manualsGone_enterPlain slot (.inl rfl) _ _ _), admin_frame hsame hanswered⟩
      · rw [hgranted.ctxs]
        exact congrArg Ctx.state hctx
      · rw [hgranted.ctxs]
        exact congrArg Ctx.reason hctx
      · rw [hgranted.ctxs]
        exact congrArg Ctx.recovery hctx
    · subst ha
      have hadmitted : adminRefused .suspend s.oc.part = false := by
        cases hp : s.oc.part with
        | start => exact absurd hp hpart
        | _ => rfl
      obtain ⟨u, before, hexec, hbefore, hsame, hanswered⟩ := admin_enters (derate := derate) h hcode hargs hr hadmitted
        (admitAction_suspends hst hne)
      have hframe := admin_frame (before := before) hsame hanswered
      have hbm : (actOn .suspend slot u).bm = { u.bm with queue := quietQueue slot u.bm.queue } := (postTarget_beside ..).1
      have hctx := enterPlain_ctx slot (st := .suspended) rfl .hostSuspend .absent u
      have hself : u.ctxs[slot] = s.ctxs[slot] := by rw [hsame.ctxs]; rfl
      obtain ⟨hce, hflags⟩ := enterPlain_ce slot (st := .suspended) rfl .hostSuspend .absent u
      have hsameId : (actOn .suspend slot u).bm.nextId = before.bm.nextId := by rw [hbm, hbefore, hsame.bm]; rfl
      rw [hself] at hctx
      rw [decideIfEnqueued_same hsameId] at hexec hframe
      refine ⟨_, hexec, ?_, hframe, congrArg Ctx.state hctx, congrArg Ctx.reason hctx, congrArg Ctx.detail hctx,
        congrArg Ctx.checkTimer hctx, congrArg Ctx.faultTimer hctx, congrArg Ctx.checkStep hctx, congrArg Ctx.cursor hctx,
        congrArg Ctx.roomMark hctx, congrArg Ctx.awaited hctx, congrArg Ctx.recovery hctx, (congrArg Ctx.loads hctx).trans rfl,
        (congrArg Ctx.losses hctx).trans rfl, (congrArg Ctx.faults hctx).trans rfl, slotQuiet_enterPlain slot rfl _ _ _, fun x hx hother => ?_,
        ?_, ?_, hce.trans hsame.ce⟩
      · have hpayload : adminPayload slot .suspend s.ctxs[slot].state (actOn .suspend slot u).ctxs[slot]
            = [0x14, 0x00, byteOf slot.val, 0x03, st.code, TargetState.suspended.code, Reason.hostSuspend.code] := by
          rw [actOn, hctx]
          rfl
        rw [hpayload] at hanswered
        exact hanswered.of_hl (enterPlain_suspended_hl slot _ _ u)
      · rw [hbm, hsame.bm]
        refine hother.elim (fun hman => ?_) fun hslot => ?_
        · exact mem_quietQueue_of_manual hx hman
        · exact mem_quietQueue_of_other hx hslot
      · rw [actOn, hflags]
        simp
      · rw [actOn, enterPlain_suspended_notices ((activeRecord_congr hsame.cs slot).trans hr), hself, hsame.msgs]
        rfl

end Sys2Proof.Machine
end

section
/-! Checks (O24): a check begins with its read at the check timer's expiry and at supply recovery. -/

namespace Sys2Proof.Machine

section
variable {s t : State} {slot : Slot} {r : TargetRecord}

/-! ### The read of a check step -/

/-- The read a check step asks for: of the marker or of the status register (R95, R96). -/
def CheckReads (r : TargetRecord) (step : CheckStep) (o : Origin) (reg : Byte) : Prop :=
  (step = .marker ∧ o = .checkMarker ∧ ∃ m, r.marker = some m ∧ reg = m.reg)
    ∨ (step = .status ∧ o = .checkStatus ∧ ∃ c, r.status = some c ∧ reg = c.reg)

theorem CheckReads.cls {step : CheckStep} {o : Origin} {reg : Byte} (h : CheckReads r step o reg) : o.cls = .check := by
  obtain ⟨-, rfl, -⟩ | ⟨-, rfl, -⟩ := h <;> rfl

theorem placeCheck_eq {o : Origin} {reg : Byte} (hr : recordInUse s slot = some r)
    (h : CheckReads r s.ctxs[slot].checkStep o reg) :
    placeCheck slot s = placeStep slot false (readRequest o slot r.addr reg) s := by
  obtain ⟨hstep, rfl, m, hm, rfl⟩ | ⟨hstep, rfl, c, hc, rfl⟩ := h
  · simp only [placeCheck, hr, hstep, hm]
  · simp only [placeCheck, hr, hstep, hc]

@[simp] theorem placeStep_link (slot : Slot) (marks : Bool) (r : Request) (s : State) :
    (placeStep slot marks r s).hl = s.hl ∧ (placeStep slot marks r s).nu = s.nu := by
  rcases placeStep_cases slot marks r s with ⟨-, h⟩ | ⟨-, h⟩ | ⟨-, -, h⟩ <;> rw [h] <;> exact ⟨rfl, rfl⟩

theorem placeCheck_cases (slot : Slot) (s : State) :
    placeCheck slot s = s ∨ ∃ q : Request, q.origin.cls = .check ∧ placeCheck slot s = placeStep slot false q s := by
  unfold placeCheck
  split
  · exact .inl rfl
  · split
    · exact .inl rfl
    · split
      · exact .inl rfl
      · exact .inr ⟨_, rfl, rfl⟩
    · split
      · exact .inl rfl
      · exact .inr ⟨_, rfl, rfl⟩

theorem placeCheck_ctx (slot : Slot) (s : State) :
    ∃ awaited mark, (placeCheck slot s).ctxs[slot] = { s.ctxs[slot] with awaited := awaited, roomMark := mark } := by
  rcases placeCheck_cases slot s with h | ⟨q, -, h⟩ <;> rw [h]
  · exact ⟨_, _, rfl⟩
  · exact placeStep_ctx slot false q s

@[simp] theorem placeCheck_link (slot : Slot) (s : State) :
    (placeCheck slot s).hl = s.hl ∧ (placeCheck slot s).nu = s.nu := by
  rcases placeCheck_cases slot s with h | ⟨q, -, h⟩ <;> rw [h] <;> simp

/-! ### The start of a check -/

/-- The first step of a check (R94, R95). -/
def firstCheck (r : TargetRecord) : CheckStep := if r.marker.isSome then .marker else if r.status.isSome then .status else .idle

theorem startCheck_eq (hr : recordInUse s slot = some r) : startCheck slot s
    = placeCheck slot (modCtx slot (fun c => { c with checkTimer := none, checkStep := firstCheck r }) s) := by
  simp only [startCheck, hr, firstCheck]

theorem startCheck_ctx (hr : recordInUse s slot = some r) : ∃ awaited mark, (startCheck slot s).ctxs[slot]
    = { s.ctxs[slot] with checkTimer := none, checkStep := firstCheck r, awaited := awaited, roomMark := mark } := by
  obtain ⟨awaited, mark, h⟩ := placeCheck_ctx slot
    (modCtx slot (fun c => { c with checkTimer := none, checkStep := firstCheck r }) s)
  exact ⟨awaited, mark, by rw [startCheck_eq hr, h, modCtx_get_self]⟩

@[simp] theorem startCheck_link (slot : Slot) (s : State) :
    (startCheck slot s).hl = s.hl ∧ (startCheck slot s).nu = s.nu := by
  unfold startCheck
  split <;> simp

theorem slotWork_startCheck (slot : Slot) (s : State) : SlotWork slot 1 s (startCheck slot s) := by
  unfold startCheck
  split
  · exact (SlotWork.refl slot s).mono (Nat.zero_le 1)
  · exact (slotWork_modCtx slot _ s).trans (slotWork_placeCheck slot _)

theorem firstCheck_ne_idle (h : r.marker.isSome = true ∨ r.status.isSome = true) : firstCheck r ≠ .idle := by
  unfold firstCheck
  split
  · nofun
  · next hmarker =>
    rw [if_pos (h.resolve_left hmarker)]
    nofun

/-- Where the record asks for a check, its first read is placed or waits. -/
theorem startCheck_places {o : Origin} {reg : Byte} (hr : recordInUse s slot = some r) (h : CheckReads r (firstCheck r) o reg) :
    startCheck slot s = placeStep slot false (readRequest o slot r.addr reg)
      (modCtx slot (fun c => { c with checkTimer := none, checkStep := firstCheck r }) s) := by
  rw [startCheck_eq hr]
  refine placeCheck_eq (s := modCtx slot (fun c => { c with checkTimer := none, checkStep := firstCheck r }) s) hr ?_
  rw [modCtx_get_self]
  exact h

theorem exec_checkTimerExpiry {at' : Nat} (h : s.ctxs[slot].checkTimer = some at') : exec (.checkTimerExpiry slot) s
    = .next (decideIfEnqueued s (startCheck slot (advanceTo at' s))) := by
  change execCheckTimerExpiry slot s = _
  unfold execCheckTimerExpiry
  rw [h]

/-! ### Supply recovery -/

theorem exec_supplyRecoveryChecks_normal {rest : List SupplyCond} (h : s.msgs.tmSupply = .normal :: rest) :
    exec .supplyRecoveryChecks s
      = .next (decideIfEnqueued s (recoveryChecks (List.finRange 8) { s with msgs := { s.msgs with tmSupply := rest } })) := by
  change execSupplyRecoveryChecks s = _
  unfold execSupplyRecoveryChecks
  rw [h]

theorem exec_supplyRecoveryChecks_low {rest : List SupplyCond} (h : s.msgs.tmSupply = .low :: rest) :
    exec .supplyRecoveryChecks s = .next { s with msgs := { s.msgs with tmSupply := rest } } := by
  change execSupplyRecoveryChecks s = _
  unfold execSupplyRecoveryChecks
  rw [h]

/-- The check of one slot at supply recovery. -/
def recoveryCheck (slot : Slot) (s : State) : State := if recoveryCheckDue s slot then startCheck slot s else s

theorem recoveryChecks_eq_foldl (slots : List Slot) (s : State) :
    recoveryChecks slots s = slots.foldl (fun s i => recoveryCheck i s) s := by
  induction slots generalizing s with
  | nil => rfl
  | cons i is ih => exact ih _

theorem slotWork_recoveryCheck (slot : Slot) (s : State) : SlotWork slot 1 s (recoveryCheck slot s) := by
  unfold recoveryCheck
  split
  · exact slotWork_startCheck slot s
  · exact (SlotWork.refl slot s).mono (Nat.zero_le 1)

@[simp] theorem recoveryChecks_link (slots : List Slot) (s : State) :
    (recoveryChecks slots s).hl = s.hl ∧ (recoveryChecks slots s).nu = s.nu := by
  induction slots generalizing s with
  | nil => exact ⟨rfl, rfl⟩
  | cons i is ih =>
    unfold recoveryChecks
    rw [(ih _).1, (ih _).2]
    split <;> simp

theorem recoveryCheckDue_iff : recoveryCheckDue s slot = true ↔ s.ctxs[slot].state = .inService ∧ s.ctxs[slot].checkStep = .idle
    ∧ ∃ r, recordInUse s slot = some r ∧ (r.marker.isSome = true ∨ r.status.isSome = true) := by
  unfold recoveryCheckDue
  cases recordInUse s slot <;> simp [and_assoc]

end

/-- Settles O24: the expiry of a check timer, and the checks of all slots at supply recovery, each apart from the others. -/
theorem checksBeginAtExpiryAndSupplyRecovery : Obligations.ChecksBeginAtExpiryAndSupplyRecovery := by
  unfold Obligations.ChecksBeginAtExpiryAndSupplyRecovery
  refine ⟨fun s slot at' r o reg htimer hr hreads => ?_, fun s c rest hmsg => ⟨fun hc => ?_, fun hc => ?_⟩⟩
  · have hread : CheckReads r (firstCheck r) o reg := by
      obtain ⟨m, hm, rfl, rfl⟩ | ⟨hnone, c, hc, rfl, rfl⟩ := hreads
      · exact .inl ⟨if_pos (Option.isSome_iff_exists.2 ⟨m, hm⟩), rfl, m, hm, rfl⟩
      · refine .inr ⟨?_, rfl, c, hc, rfl⟩
        rw [firstCheck, hnone, hc]
        rfl
    have hstep : firstCheck r = if o = .checkMarker then .marker else .status := by
      obtain ⟨hstep, rfl, -⟩ | ⟨hstep, rfl, -⟩ := hread <;> rw [hstep] <;> rfl
    have hr' : recordInUse (advanceTo at' s) slot = some r := recordInUse_of_active hr
    have hplaces := startCheck_places hr' hread
    have hgranted := granted_decideIfEnqueued s (startCheck slot (advanceTo at' s))
    have hframed := (slotWork_startCheck slot (advanceTo at' s)).evolves.framed
    obtain ⟨awaited, mark, hctx⟩ := startCheck_ctx hr'
    refine ⟨_, exec_checkTimerExpiry htimer, ?_, ?_, ?_, hgranted.now.trans hframed.now, fun hhold hroom => ?_, fun hwaits => ?_,
      fun i hi => ?_, hgranted.cs.trans hframed.cs, by rw [hgranted.hl]; simp, by rw [hgranted.nu]; simp,
      hgranted.mu.trans hframed.mu, hgranted.oc.trans hframed.oc⟩
    · rw [hgranted.ctxs, hctx]
    · rw [hgranted.ctxs, hctx]
      exact hstep
    · rw [hgranted.ctxs, hctx]
      rfl
    · have hhold' : (modCtx slot (fun c => { c with checkTimer := none, checkStep := firstCheck r })
          (advanceTo at' s)).ctxs[slot].staleHold = none := by
        rw [modCtx_get_self]
        exact hhold
      rw [placeStep_of_room hhold' hroom] at hplaces
      have hawaited : (startCheck slot (advanceTo at' s)).ctxs[slot].awaited = some s.bm.nextId := by
        rw [hplaces, enqueueStep_ctx]
        rfl
      have hplaced := placed_enqueueStep (r := readRequest o slot r.addr reg) (slot := slot)
        (s := modCtx slot (fun c => { c with checkTimer := none, checkStep := firstCheck r }) (advanceTo at' s)) rfl
      rw [← hplaces] at hplaced
      have hlen : (startCheck slot (advanceTo at' s)).bm.queue.length = s.bm.queue.length + 1 := by
        rw [hplaces]
        simp [enqueueStep]
      obtain ⟨x, hx, hnamed, horigin, hslot, hdir, haddr, hreg, hdata, hlenx, hdelay, hattempts, hstale⟩ :=
        hplaced.still (by rw [show (readRequest o slot r.addr reg).origin.cls = .check from hread.cls]; nofun) (hgranted.stillShown slot)
      rw [hgranted.ctxs, hawaited] at hnamed
      exact ⟨by rw [hgranted.ctxs]; exact hawaited, hgranted.length.trans hlen, x, hx, (Option.some.inj hnamed).symm, horigin,
        hslot, haddr, hdir, hreg, hlenx, hdata,
        hdelay, hattempts, hstale⟩
    · have hkept : (startCheck slot (advanceTo at' s)).bm = s.bm
          ∧ (startCheck slot (advanceTo at' s)).ctxs[slot].awaited = s.ctxs[slot].awaited := by
        rw [hplaces]
        rcases placeStep_cases slot false (readRequest o slot r.addr reg)
          (modCtx slot (fun c => { c with checkTimer := none, checkStep := firstCheck r }) (advanceTo at' s))
          with ⟨-, h⟩ | ⟨-, h⟩ | ⟨hhold, hroom, -⟩
        · rw [h, modCtx_get_self]
          exact ⟨rfl, rfl⟩
        · rw [h, modCtx_get_self, modCtx_get_self]
          exact ⟨rfl, rfl⟩
        · rw [modCtx_get_self] at hhold
          exact absurd hwaits (not_or.2 ⟨not_not.2 hhold, Nat.not_le.2 hroom⟩)
      rw [decideIfEnqueued_same (by rw [hkept.1])]
      exact hkept
    · rw [hgranted.ctxs]
      exact hframed.ctxs i hi
  · subst hc
    exact exec_supplyRecoveryChecks_low hmsg
  · subst hc
    have hgranted := granted_decideIfEnqueued s (recoveryChecks (List.finRange 8) { s with msgs := { s.msgs with tmSupply := rest } })
    have hframed := (evolves_recoveryChecks (List.finRange 8) { s with msgs := { s.msgs with tmSupply := rest } }).framed
    refine ⟨_, exec_supplyRecoveryChecks_normal hmsg, by rw [hgranted.msgs, hframed.msgs], hgranted.cs.trans hframed.cs,
      hgranted.mu.trans hframed.mu, hgranted.oc.trans hframed.oc, by rw [hgranted.hl]; simp, by rw [hgranted.nu]; simp,
      ?_⟩
    intro slot due
    obtain ⟨m, hm, hset⟩ := foldl_at slotWork_recoveryCheck (List.nodup_finRange 8) (List.mem_finRange slot)
      { s with msgs := { s.msgs with tmSupply := rest } }
    rw [← recoveryChecks_eq_foldl] at hset
    have hshown := hset.trans (hgranted.stillShown slot)
    have hrecord : recordInUse m slot = recordInUse s slot := hm.recordInUse slot
    have hdue : recoveryCheckDue m slot = true ↔ due := by
      rw [recoveryCheckDue_iff, hrecord, hm.ctx]
    refine ⟨fun hd => ?_, fun hd => ?_⟩
    · obtain ⟨hstate, hidle, r, hr, hasks⟩ := hd
      obtain ⟨awaited, mark, hctx⟩ := startCheck_ctx (hrecord.trans hr)
      rw [hshown.ctx, recoveryCheck, if_pos (hdue.2 ⟨hstate, hidle, r, hr, hasks⟩), hctx, hm.ctx]
      exact ⟨rfl, firstCheck_ne_idle hasks, hstate⟩
    · rw [hshown.ctx, recoveryCheck, if_neg (fun h => hd (hdue.1 h)), hm.ctx]

end Sys2Proof.Machine
end

section
/-! The outcome of a slot's step at the end of its transaction, and the check reads (O33). -/

namespace Sys2Proof.Machine

section
variable {s t u : State} {x : Transfer} {slot : Slot} {r : TargetRecord} {resp : BusResponse} {derate : Bool}

/-! ### What the end of a slot's transfer leaves alone -/

/-- A change for one slot: the other slots' contexts and the store are kept, and no handle comes back. -/
structure SlotBeside (slot : Slot) (s t : State) : Prop where
  others : OtherSlotsKept slot s t
  cs : t.cs = s.cs
  gone : ∀ id < s.bm.nextId, (∀ y ∈ s.bm.queue, y.id ≠ id) → ∀ y ∈ t.bm.queue, y.id ≠ id

theorem Evolves.slotBeside (h : Evolves {slot} s t) : SlotBeside slot s t :=
  ⟨fun i hi => h.framed.ctxs i hi, h.framed.cs, fun _ hid hgone => h.gone hid hgone⟩

theorem SlotBeside.granted (h : SlotBeside slot s t) (hgranted : Granted t u) : SlotBeside slot s u :=
  ⟨fun i hi => by rw [hgranted.ctxs]; exact h.others i hi, hgranted.cs.trans h.cs, fun id hid hgone => hgranted.gone (h.gone id hid hgone)⟩

/-- The delivery of an outcome evolves the part for the slot of the transfer; a failed write or latch is reported (R118). -/
theorem deliver_evolves (hslot : x.slot = some slot) (out : BusOutcome) (bytes : List Byte) (s : State) :
    ∃ v, Evolves {slot} s v ∧ (deliver x out bytes s = v ∨ ∃ i, deliver x out bytes s = reportFailure i x.origin out v) := by
  unfold deliver
  rw [hslot]
  cases x.cls
  case compensate => exact compensateOutcome_cases x out s
  case manual =>
    refine ⟨_, ?_, .inl rfl⟩
    dsimp only
    unfold manualOutcome
    split <;> exact evolves_endManual x _ _ s
  all_goals exact ⟨_, evolves_stepOutcome x slot out bytes s, .inl rfl⟩

theorem slotBeside_deliver (hslot : x.slot = some slot) (out : BusOutcome) (bytes : List Byte) (s : State) :
    SlotBeside slot s (deliver x out bytes s) := by
  obtain ⟨v, hv, h | ⟨i, h⟩⟩ := deliver_evolves hslot out bytes s
  · exact h ▸ hv.slotBeside
  · obtain ⟨hothers, hcs, hgone⟩ := hv.slotBeside
    rw [h]
    exact ⟨by simpa [OtherSlotsKept] using hothers, by simpa using hcs, by simpa using hgone⟩

/-- A delivery touches nothing of the MU, the Operating Control and the STOP the bus owes. -/
theorem deliver_rest (hslot : x.slot = some slot) (out : BusOutcome) (bytes : List Byte) (s : State) :
    (deliver x out bytes s).mu = s.mu ∧ (deliver x out bytes s).oc = s.oc
      ∧ (deliver x out bytes s).bm.owedStop = s.bm.owedStop := by
  obtain ⟨v, hv, h⟩ := deliver_evolves hslot out bytes s
  have howed : v.bm.owedStop = s.bm.owedStop := by rw [hv.framed.bm]
  rcases h with h | ⟨i, h⟩ <;> rw [h]
  · exact ⟨hv.framed.mu, hv.framed.oc, howed⟩
  · simpa using ⟨hv.framed.mu, hv.framed.oc, howed⟩

/-- The end of a transfer of a slot: the other contexts and the store are kept and the transfer has left. -/
theorem ended_beside (hone : OneOnBus s) (hbus : onBusTransfer s = some x) (hslot : x.slot = some slot) (out : BusOutcome)
    (bytes : List Byte) : OtherSlotsKept slot s (grantDecision (deliver (counted x) out bytes (concluded x resp (sampleDerate derate s))))
      ∧ (∀ y ∈ (grantDecision (deliver (counted x) out bytes (concluded x resp (sampleDerate derate s)))).bm.queue, y.id ≠ x.id)
      ∧ (grantDecision (deliver (counted x) out bytes (concluded x resp (sampleDerate derate s)))).cs = s.cs := by
  obtain ⟨hothers, hcs, hgone⟩ := (slotBeside_deliver (x := counted x) hslot out bytes
    (concluded x resp (sampleDerate derate s))).granted (granted_grantDecision _)
  refine ⟨fun i hi => (hothers i hi).trans (by simp), hgone x.id ?_ fun y hy => ?_, hcs.trans (by simp)⟩
  · rw [concluded_eq]
    exact hone.2.1 x (mem_onBusTransfer hbus).1
  · rw [concluded_queue] at hy
    simpa using (List.mem_filter.1 hy).2

/-- Behind the departure of a transfer the queue has room. -/
theorem concluded_room (hbounded : QueueBounded s) (hx : x ∈ s.bm.queue) :
    (concluded x resp (sampleDerate derate s)).bm.queue.length < 32 := by
  rw [concluded_queue]
  have hfewer : (s.bm.queue.filter fun y => !(y.id == x.id)).length < s.bm.queue.length :=
    List.length_filter_lt_length_iff_exists.2 ⟨x, hx, by simp⟩
  have hle : s.bm.queue.length ≤ 32 := hbounded.1
  exact hfewer.trans_le hle

theorem transactionOutcome_readDone {acks : List Bool} {data : List Byte} (hdir : x.dir = .read)
    (hacks : ∀ n, n < 3 → acks[n]? = some true) : transactionOutcome x (.complete acks data) = .done := by
  simp only [transactionOutcome, hdir, readOutcome_done hacks]

theorem deliveredBytes_one {acks : List Bool} {b : Byte} (hdir : x.dir = .read) (hlen : x.readLen = 1) :
    deliveredBytes x (.complete acks [b]) = [b] := by
  simp [deliveredBytes, hdir, hlen, receivedBytes]

/-- The transaction of a transfer that is DONE, of a sequence step or any other. -/
theorem exec_transactionEnd_done (hbus : onBusTransfer s = some x) (hidle : s.bm.recovering = false)
    (hdone : transactionOutcome x resp = .done) : exec (.transactionEnd resp derate) s
      = .next (grantDecision (deliver (counted x) .done (deliveredBytes x resp) (concluded x resp (sampleDerate derate s)))) := by
  rw [exec_transactionEnd hbus hidle, endTransaction_final (by rw [hdone]; nofun) (.inl hdone), hdone]

/-! ### The DONE of an awaited step -/

/-- The part when an awaited step's outcome is judged: the step is awaited no more. -/
def stepTaken (slot : Slot) (s : State) : State := modCtx slot (fun c => { c with awaited := none }) s

theorem stepTaken_ctx (slot : Slot) (s : State) : (stepTaken slot s).ctxs[slot] = { s.ctxs[slot] with awaited := none } :=
  modCtx_get_self slot _ s

theorem deliver_step (hslot : x.slot = some slot) (hcls : x.cls = .restore ∨ x.cls = .check) (out : BusOutcome) (bytes : List Byte) :
    deliver x out bytes s = stepOutcome x slot out bytes s := by
  unfold deliver
  rcases hcls with h | h <;> rw [h, hslot]

theorem stepOutcome_done (hhold : s.ctxs[slot].staleHold ≠ some x.id) (hstale : x.stale = false)
    (hawaited : s.ctxs[slot].awaited = some x.id) (bytes : List Byte) :
    stepOutcome x slot .done bytes s = stepDone slot x.origin bytes (passToCe x .done (stepTaken slot s)) := by
  unfold stepOutcome
  dsimp only
  rw [if_neg hhold, hstale, hawaited, if_neg (by simp)]
  rfl

theorem passToCe_of_ne (h : ∀ id, x.origin ≠ .loadProfile id) (out : BusOutcome) (s : State) : passToCe x out s = s := by
  unfold passToCe
  split
  · next id horigin => exact absurd horigin (h id)
  · rfl

/-! ### The notices of a probe -/

theorem placeStep_msgs (slot : Slot) (marks : Bool) (q : Request) (s : State) : (placeStep slot marks q s).msgs = s.msgs := by
  rcases placeStep_cases slot marks q s with ⟨-, h⟩ | ⟨-, h⟩ | ⟨-, -, h⟩ <;> rw [h] <;> rfl

/-- The notice of an entry into PROBING, which the notices of further entries follow (R70; log 24). -/
theorem enterProbing_notices {reason : Reason} {d : Detail} (hr : activeRecord s slot = some r) : ∃ later,
    (enterProbing slot reason d s).msgs.notices = s.msgs.notices ++ (⟨targetSeverity .probing reason, .target slot
      s.ctxs[slot].state .probing reason d r.addr s.ctxs[slot].recovery s.ctxs[slot].loads s.ctxs[slot].losses
      s.ctxs[slot].faults⟩ :: later) := by
  have hnotices : (probingState slot reason d s).msgs.notices = s.msgs.notices := (beginEntry_rest ..).2.1
  have hctx := probingState_ctx slot reason d s
  have hactive : activeRecord (probingState slot reason d s) slot = some r :=
    (activeRecord_congr (slotWork_probingState slot reason d s).cs slot).trans hr
  cases hc : r.identity with
  | some c =>
    have hworked := slotWork_placeIdentity slot (probingState slot reason d s)
    obtain ⟨-, awaited, mark, hplaced⟩ := placeIdentity_probe (recordInUse_of_active hactive) hc (by rw [hctx]; rfl)
    have hkept : (placeIdentity slot (probingState slot reason d s)).msgs.notices = s.msgs.notices := by
      rw [placeIdentity_eq (recordInUse_of_active hactive) hc, placeStep_msgs]
      exact hnotices
    refine ⟨[], ?_⟩
    rw [enterProbing_identity (recordInUse_of_active hr) hc,
      postTarget_notices slot _ ((activeRecord_congr hworked.cs slot).trans hactive), hkept, hplaced, hctx]
    rfl
  | none =>
    have hposted := postTarget_notices slot s.ctxs[slot].state hactive
    obtain ⟨later, hlater⟩ := (evolves_enterLoading slot (postTarget slot s.ctxs[slot].state
      (probingState slot reason d s))).framed.notices
    refine ⟨later, ?_⟩
    rw [enterProbing_load (recordInUse_of_active hr) hc, ← hlater, hposted, hnotices, hctx, List.append_assoc]
    rfl

theorem enterProbing_flag {reason : Reason} {d : Detail} {c : IdentityCheck} (hr : recordInUse s slot = some r)
    (hc : r.identity = some c) : (enterProbing slot reason d s).msgs.ceInvalidate[slot] = true := by
  have hflag : (probingState slot reason d s).msgs.ceInvalidate[slot] = true := by
    rw [probingState, (beginEntry_rest ..).2.2]
    exact Vector.getElem_set_self _
  rw [enterProbing_identity hr hc, (postTarget_beside ..).2.2.2.2.2]
  rw [placeIdentity_eq (((slotWork_probingState slot reason d s).recordInUse slot).trans hr) hc, placeStep_msgs]
  exact hflag

/-! ### Check reads -/

theorem checkExpiry_eq (hr : recordInUse s slot = some r) (hchecks : r.marker.isSome = true ∨ r.status.isSome = true) :
    checkExpiry s slot = if r.checkPeriod = 0 then none else some (s.now + r.checkPeriod * 100) := by
  simp only [checkExpiry, hr]
  by_cases hperiod : r.checkPeriod = 0
  · rw [if_pos hperiod, if_neg fun h => h.1 hperiod]
  · rw [if_neg hperiod, if_pos ⟨hperiod, hchecks⟩]

theorem cleanCheck_ctx (hr : recordInUse s slot = some r) (hchecks : r.marker.isSome = true ∨ r.status.isSome = true) :
    (cleanCheck slot s).ctxs[slot] = { s.ctxs[slot] with
      checkStep := .idle
      checkTimer := if r.checkPeriod = 0 then none else some (s.now + r.checkPeriod * 100) } := by
  rw [cleanCheck, modCtx_get_self, checkExpiry_eq hr hchecks]

/-- The marker byte that equals the record's goes on to the status read (R95, R96). -/
theorem markerRead_status {m : RegValue} {k : StatusCheck} (hr : recordInUse s slot = some r) (hm : r.marker = some m)
    (hk : r.status = some k) (hhold : s.ctxs[slot].staleHold = none) (hroom : s.bm.queue.length < 32) :
    (markerRead slot m.value s).ctxs[slot] = { s.ctxs[slot] with checkStep := .status, awaited := some s.bm.nextId, roomMark := false }
      ∧ Placed (markerRead slot m.value s) slot .checkStatus .read r.addr k.reg [] 1 0 := by
  have hself := modCtx_get_self slot (fun c => { c with checkStep := .status }) s
  have heq : markerRead slot m.value s = enqueueStep slot (readRequest .checkStatus slot r.addr k.reg)
      (modCtx slot (fun c => { c with checkStep := .status }) s) := by
    simp only [markerRead, hr, hm, hk, Option.isSome_some, if_true]
    rw [placeCheck_eq (s := modCtx slot (fun c => { c with checkStep := .status }) s) hr (.inr ⟨by rw [hself], rfl, k, hk, rfl⟩)]
    exact placeStep_of_room (by rw [hself]; exact hhold) hroom
  refine ⟨by rw [heq, enqueueStep_ctx, hself]; rfl, ?_⟩
  rw [heq]
  exact placed_enqueueStep (r := readRequest .checkStatus slot r.addr k.reg) rfl

theorem markerRead_clean {m : RegValue} (hr : recordInUse s slot = some r) (hm : r.marker = some m) (hk : r.status = none) :
    markerRead slot m.value s = cleanCheck slot s := by
  simp [markerRead, hr, hm, hk]

theorem markerRead_lost {m : RegValue} {b : Byte} (hr : recordInUse s slot = some r) (hm : r.marker = some m) (hb : b ≠ m.value) :
    markerRead slot b s
      = enterProbing slot .stateLost (.byteRead b) (modCtx slot (fun c => { c with losses := satInc c.losses }) s) := by
  simp only [markerRead, hr, hm]
  exact if_neg hb

theorem statusRead_clean {k : StatusCheck} {b : Byte} (hr : recordInUse s slot = some r) (hk : r.status = some k)
    (hb : b &&& k.mask = 0) : statusRead slot b s = cleanCheck slot s := by
  simp [statusRead, hr, hk, hb]

theorem statusRead_fault {k : StatusCheck} {b : Byte} (hr : recordInUse s slot = some r) (hk : r.status = some k)
    (hb : b &&& k.mask ≠ 0) : statusRead slot b s = enterFaultHold slot .targetFault (.byteRead b) s := by
  simp only [statusRead, hr, hk, Option.bind_some]
  exact if_pos hb

/-- A clean check: no check in progress, the check timer with the record's check period (R96). -/
theorem cleanCheck_granted (hr : recordInUse s slot = some r) (hchecks : r.marker.isSome = true ∨ r.status.isSome = true)
    (h : Granted (cleanCheck slot s) u) : u.ctxs[slot] = { s.ctxs[slot] with
      checkStep := .idle
      checkTimer := if r.checkPeriod = 0 then none else some (s.now + r.checkPeriod * 100) } := by
  rw [h.ctxs, cleanCheck_ctx hr hchecks]

/-- A state loss: the slot is probed, the loss counted, and its notice handed over (R95). -/
theorem markerRead_probes {m : RegValue} {b : Byte} (hr : activeRecord s slot = some r) (hm : r.marker = some m) (hb : b ≠ m.value)
    (h : Granted (markerRead slot b s) u) : Probed slot r .stateLost u
      ∧ u.ctxs[slot].losses = satInc s.ctxs[slot].losses ∧ u.ctxs[slot].recovery = s.ctxs[slot].recovery
      ∧ u.ctxs[slot].faults = s.ctxs[slot].faults
      ∧ (r.identity.isSome = true → u.ctxs[slot].detail = .byteRead b ∧ u.msgs.ceInvalidate[slot] = true)
      ∧ ∃ later, u.msgs.notices = s.msgs.notices ++ (⟨.warn, .target slot s.ctxs[slot].state .probing .stateLost (.byteRead b) r.addr
        s.ctxs[slot].recovery s.ctxs[slot].loads (satInc s.ctxs[slot].losses) s.ctxs[slot].faults⟩ :: later) := by
  rw [markerRead_lost (recordInUse_of_active hr) hm hb] at h
  have hself := modCtx_get_self slot (fun c => { c with losses := satInc c.losses }) s
  have hr' : activeRecord (modCtx slot (fun c => { c with losses := satInc c.losses }) s) slot = some r := hr
  have hnotices : (modCtx slot (fun c => { c with losses := satInc c.losses }) s).msgs.notices = s.msgs.notices := rfl
  generalize modCtx slot (fun c => { c with losses := satInc c.losses }) s = w at h hself hr' hnotices
  obtain ⟨hlosses, hfaults, hrecovery, -⟩ := enterProbing_counters slot .stateLost (.byteRead b) (recordInUse_of_active hr')
  obtain ⟨later, hlater⟩ := enterProbing_notices (reason := .stateLost) (d := .byteRead b) hr'
  rw [hself] at hlosses hfaults hrecovery hlater
  refine ⟨(probed_enterProbing slot .stateLost (.byteRead b) (recordInUse_of_active hr')).still (h.stillShown slot),
    by rw [h.ctxs]; exact hlosses, by rw [h.ctxs]; exact hrecovery (.inr (by rw [hm]; rfl)), by rw [h.ctxs]; exact hfaults,
    fun hi => ?_, later, by rw [h.msgs, hlater, hnotices]; rfl⟩
  obtain ⟨i, hi⟩ := Option.isSome_iff_exists.1 hi
  obtain ⟨-, awaited, mark, hprobe⟩ := enterProbing_probe (reason := .stateLost) (d := .byteRead b) (recordInUse_of_active hr') hi
  rw [h.ctxs, h.msgs, hprobe]
  exact ⟨rfl, enterProbing_flag (recordInUse_of_active hr') hi⟩

/-- A target fault: the slot holds with the byte unmasked (R96, R99). -/
theorem statusRead_holds {k : StatusCheck} {b : Byte} (hr : recordInUse s slot = some r) (hk : r.status = some k)
    (hb : b &&& k.mask ≠ 0) (h : Granted (statusRead slot b s) u) : u.ctxs[slot].state = .faultHold
      ∧ u.ctxs[slot].reason = .targetFault ∧ u.ctxs[slot].detail = .byteRead b ∧ u.ctxs[slot].faults = satInc s.ctxs[slot].faults
      ∧ u.ctxs[slot].faultTimer = some (s.now + (activeSettings s).holdTime * 1000) ∧ SlotQuiet slot u := by
  rw [statusRead_fault hr hk hb] at h
  have hquiet := h.slotQuiet (slotQuiet_enterFaultHold slot .targetFault (.byteRead b) s)
  rw [h.ctxs, enterFaultHold_ctx]
  exact ⟨rfl, rfl, rfl, rfl, rfl, hquiet⟩

/-- A step of a slot that is awaited and DONE, behind the departure of its transfer. -/
theorem deliver_done {v : State} (hslot : x.slot = some slot) (hcls : x.cls = .restore ∨ x.cls = .check) (hstale : x.stale = false)
    (hhold : v.ctxs[slot].staleHold = none) (hawaited : v.ctxs[slot].awaited = some x.id) (bytes : List Byte) :
    deliver (counted x) .done bytes v = stepDone slot x.origin bytes (passToCe (counted x) .done (stepTaken slot v)) := by
  rw [deliver_step (x := counted x) hslot hcls, stepOutcome_done (x := counted x) (by rw [hhold]; nofun) hstale hawaited]
  rfl

theorem activeSettings_congr (hcs : t.cs = s.cs) : activeSettings t = activeSettings s := by
  unfold activeSettings
  rw [hcs]

end

/-- Settles O33: the marker read and the status read, each judged by the record. -/
theorem checkReadsDecideOnMarkerAndStatus : Obligations.CheckReadsDecideOnMarkerAndStatus := by
  unfold Obligations.CheckReadsDecideOnMarkerAndStatus
  intro derate acks b s t slot r hone hbounded hbus hidle hslot hdir hlen hstale hr hstate hawaited hhold hacks c clean
  refine ⟨_, exec_transactionEnd_done hbus hidle (transactionOutcome_readDone hdir hacks), ?_⟩
  rw [deliveredBytes_one hdir hlen]
  have hbeside := ended_beside (resp := .complete acks [b]) (derate := derate) hone hbus hslot .done [b]
  have hroom := concluded_room (resp := .complete acks [b]) (derate := derate) hbounded (mem_onBusTransfer hbus).1
  obtain ⟨hnow, -, hctxs, hcs, -⟩ := concluded_keeps t (.complete acks [b]) (sampleDerate derate s)
  have hnotices : (concluded t (.complete acks [b]) (sampleDerate derate s)).msgs.notices = s.msgs.notices := by rw [concluded_eq]; rfl
  generalize concluded t (.complete acks [b]) (sampleDerate derate s) = v at hbeside hroom hnow hctxs hcs hnotices ⊢
  have hctx : v.ctxs[slot] = s.ctxs[slot] := by rw [hctxs]; rfl
  have hdelivered (o : Origin) (horigin : t.origin = o) (hcls : o.cls = .check) (hne : ∀ id, o ≠ .loadProfile id) :
      deliver (counted t) .done [b] v = stepDone slot o [b] (stepTaken slot v) := by
    subst horigin
    rw [deliver_done hslot (.inr hcls) hstale (by rw [hctx]; exact hhold) (by rw [hctx]; exact hawaited),
      passToCe_of_ne (x := counted t) hne]
  have hgranted := granted_grantDecision (deliver (counted t) .done [b] v)
  generalize grantDecision (deliver (counted t) .done [b] v) = u at hbeside hgranted ⊢
  generalize deliver (counted t) .done [b] v = d at hgranted hdelivered
  have hstart : (stepTaken slot v).ctxs[slot] = { c with awaited := none } := by rw [stepTaken_ctx, hctx]
  have hactive : activeRecord (stepTaken slot v) slot = some r := (activeRecord_congr (s := s) hcs slot).trans hr
  have huse := recordInUse_of_active hactive
  have hclock : (stepTaken slot v).now = s.now := hnow
  have hsettings : activeSettings (stepTaken slot v) = activeSettings s := activeSettings_congr hcs
  have hqueue : (stepTaken slot v).bm.queue.length < 32 := hroom
  replace hnotices : (stepTaken slot v).msgs.notices = s.msgs.notices := hnotices
  generalize stepTaken slot v = w at hdelivered hstart hactive huse hclock hsettings hqueue hnotices
  refine ⟨fun m horigin hm => ?_, fun k horigin hk => ?_, hbeside⟩
  · have hread : d = markerRead slot b w := hdelivered _ horigin rfl nofun
    rw [hread] at hgranted
    refine ⟨fun k hb hk => ?_, fun hb hk => ?_, fun hb => ?_⟩
    · subst hb
      obtain ⟨hctx', hplaced⟩ := markerRead_status huse hm hk (by rw [hstart]; exact hhold) hqueue
      refine ⟨?_, ?_, hplaced.still nofun (hgranted.stillShown slot), ?_⟩ <;> rw [hgranted.ctxs, hctx']
      · rw [hstart]
        exact hstate
      · rw [hstart]
    · subst hb
      rw [markerRead_clean huse hm hk] at hgranted
      refine (cleanCheck_granted huse (.inl (by rw [hm]; rfl)) hgranted).trans ?_
      rw [hstart, hclock]
    · have hprobes := markerRead_probes hactive hm hb hgranted
      rw [hstart, hnotices] at hprobes
      rw [← hstate]
      exact hprobes
  · have hread : d = statusRead slot b w := hdelivered _ horigin rfl nofun
    rw [hread] at hgranted
    refine ⟨fun hb => ?_, fun hb => ?_⟩
    · rw [statusRead_clean huse hk hb] at hgranted
      refine (cleanCheck_granted huse (.inr (by rw [hk]; rfl)) hgranted).trans ?_
      rw [hstart, hclock]
    · have hholds := statusRead_holds huse hk hb hgranted
      rw [hstart, hclock, hsettings] at hholds
      exact hholds

end Sys2Proof.Machine
end

section
/-! The load of a slot (R88 to R92): the step a load goes on to is taken as the record, the image and the profiles give
it, and by that the load goes on from IMAGE, PROFILE, LATCH or MARKER. -/

namespace Sys2Proof.Machine

section
variable {s t m u : State} {slot : Slot} {r : TargetRecord} {k : Nat} {ids : List ProfileId}

/-! ### The part a load goes on in -/

/-- Two contexts count the same loads, losses and faults. -/
abbrev SameCounters (c d : Ctx) : Prop := d.loads = c.loads ∧ d.losses = c.losses ∧ d.faults = c.faults

/-- The part `m` in which a load goes on shows what the part `s` before the command showed, the trims and
references of the profiles `ids` among it. -/
structure LoadView (slot : Slot) (ids : List ProfileId) (s m : State) : Prop where
  now : m.now = s.now
  cs : m.cs = s.cs
  mu : m.mu = s.mu
  trims : ∀ id ∈ ids, m.ce.trims[id] = s.ce.trims[id]
  hostDerate : m.ce.hostDerate = s.ce.hostDerate
  derate : m.pins.derate = s.pins.derate
  flag : m.msgs.ceInvalidate[slot] = s.msgs.ceInvalidate[slot]
  counters : SameCounters s.ctxs[slot] m.ctxs[slot]
  notices : s.msgs.notices <+: m.msgs.notices
  references : ∀ id ∈ ids, ∀ p, activeProfile s id = some p → p.header.slot = slot.val →
    m.ce.shadows[id].reference = s.ce.shadows[id].reference

/-- The slot is loading, awaits nothing, and a step finds the place it needs. -/
structure LoadReady (slot : Slot) (m : State) : Prop where
  loading : m.ctxs[slot].state = .loading
  idle : m.ctxs[slot].awaited = none
  free : m.ctxs[slot].staleHold = none
  room : m.bm.queue.length < 32

theorem LoadView.passOutput (h : LoadView slot ids s m) {id : ProfileId} {p : Profile} (hid : id ∈ ids)
    (hp : activeProfile s id = some p) (hslot : p.header.slot = slot.val) (ti : Int) : passOutput m ti id p = passOutput s ti id p := by
  rw [Machine.passOutput, Machine.passOutput, h.trims id hid, h.references id hid p hp hslot, passLevel, passLevel, h.hostDerate, h.derate,
    activeSettings_congr h.cs]

theorem LoadView.step {S : Set Slot} (h : LoadView slot ids s m) (hframed : Framed S m t)
    (hflag : t.msgs.ceInvalidate[slot] = m.msgs.ceInvalidate[slot])
    (hcounters : SameCounters m.ctxs[slot] t.ctxs[slot])
    (hreferences : ∀ id ∈ ids, ∀ p, activeProfile s id = some p → p.header.slot = slot.val →
      t.ce.shadows[id].reference = m.ce.shadows[id].reference) : LoadView slot ids s t where
  now := hframed.now.trans h.now
  cs := hframed.cs.trans h.cs
  mu := hframed.mu.trans h.mu
  trims id hid := by rw [hframed.ce]; exact h.trims id hid
  hostDerate := by rw [hframed.ce]; exact h.hostDerate
  derate := hframed.derate.trans h.derate
  flag := hflag.trans h.flag
  counters := ⟨hcounters.1.trans h.counters.1, hcounters.2.1.trans h.counters.2.1, hcounters.2.2.trans h.counters.2.2⟩
  notices := h.notices.trans hframed.notices
  references id hid p hp hslot := (hreferences id hid p hp hslot).trans (h.references id hid p hp hslot)

/-- A change of the slot's context that counts nothing. -/
theorem LoadView.modCtx (h : LoadView slot ids s m) {f : Ctx → Ctx} (hf : SameCounters m.ctxs[slot] (f m.ctxs[slot])) :
    LoadView slot ids s (modCtx slot f m) :=
  h.step (evolves_modCtx slot f m).framed rfl (by rw [modCtx_get_self]; exact hf) fun _ _ _ _ _ => rfl

theorem loadView_concluded (slot : Slot) (ids : List ProfileId) (x : Transfer) (resp : BusResponse) (s : State) :
    LoadView slot ids s (concluded x resp s) := by
  rw [concluded_eq]
  exact ⟨rfl, rfl, rfl, fun _ _ => rfl, rfl, rfl, rfl, ⟨rfl, rfl, rfl⟩, List.prefix_rfl, fun _ _ _ _ _ => rfl⟩

/-- The part a step's outcome is judged in shows what it did before the transaction's end. -/
theorem loadView_ended (slot : Slot) (ids : List ProfileId) (x : Transfer) (resp : BusResponse) (s : State) :
    LoadView slot ids s (stepTaken slot (concluded x resp s)) :=
  (loadView_concluded slot ids x resp s).modCtx ⟨rfl, rfl, rfl⟩

/-! ### Each step -/

/-- The step of a load at its index, as it stands now, is taken: placed, or at the end the load completed. -/
def StepTaken (s u : State) (slot : Slot) (r : TargetRecord) (c : Ctx) : LoadStep → Prop
  | .identity => True
  | .image k => ∀ e, (activeImage s slot).bind (fun es => es[k]?) = some e → LoadAt s u slot (.image k)
      ∧ Placed u slot (.image k) .write r.addr e.reg (match e.width with
          | .byte => [byteOf e.value]
          | .word => be16 e.value) 0 e.delay
  | .profile k => ∀ id p ti, c.profileList[k]? = some id → activeProfile s id = some p → p.header.slot = slot.val →
      s.mu.ti = some ti → s.msgs.ceInvalidate[slot] = false → LoadAt s u slot (.profile k)
      ∧ Placed u slot (.loadProfile id) .write r.addr p.header.param
          (parameterBytes p.header.width p.header.order (passOutput s ti id p).output) 0 0
      ∧ u.ce.shadows[id].reference = some (passOutput s ti id p).output
      ∧ u.ce.shadows[id].computed = some (passOutput s ti id p).computed
      ∧ u.ce.shadows[id].clamped = (passOutput s ti id p).stages.flag
  | .latch => ∀ l, r.latch = some l → LoadAt s u slot .latch ∧ Placed u slot .loadLatch .write r.addr l.reg [l.value] 0 0
  | .marker => ∀ w, r.marker = some w → LoadAt s u slot .marker ∧ Placed u slot .loadMarker .write r.addr w.reg [w.value] 0 0
  | .finish => LoadCompleted s u slot r

theorem LoadAt.still {step : LoadStep} (h : LoadAt s u slot step) (hshown : StillShown slot u t) : LoadAt s t slot step := by
  unfold LoadAt
  rw [hshown.ctx]
  exact h

theorem LoadCompleted.still (h : LoadCompleted s u slot r) (hshown : StillShown slot u t)
    (hnotices : t.msgs.notices = u.msgs.notices) : LoadCompleted s t slot r := by
  unfold LoadCompleted
  rw [hshown.ctx, hnotices]
  exact h

theorem StepTaken.still {c : Ctx} {step : LoadStep} (h : StepTaken s u slot r c step) (hcs : u.cs = s.cs)
    (hshown : StillShown slot u t) (hnotices : step = .finish → t.msgs.notices = u.msgs.notices) : StepTaken s t slot r c step := by
  cases step with
  | identity => trivial
  | image k => exact fun e he => ⟨(h e he).1.still hshown, (h e he).2.still nofun hshown⟩
  | profile k =>
    intro id p ti hid hp hslot hti hflag
    obtain ⟨hat, hplaced, hreference, hcomputed, hclamped⟩ := h id p ti hid hp hslot hti hflag
    obtain ⟨hreference', hcomputed', hclamped'⟩ := hshown.shadows id p ((activeProfile_congr hcs id).trans hp) hslot
    exact ⟨hat.still hshown, hplaced.still nofun hshown, hreference'.trans hreference, hcomputed'.trans hcomputed,
      hclamped'.trans hclamped⟩
  | latch => exact fun l hl => ⟨(h l hl).1.still hshown, (h l hl).2.still nofun hshown⟩
  | marker => exact fun w hw => ⟨(h w hw).1.still hshown, (h w hw).2.still nofun hshown⟩
  | finish => exact LoadCompleted.still h hshown (hnotices rfl)

theorem StepTaken.granted {c : Ctx} {step : LoadStep} (h : StepTaken s u slot r c step) (hcs : u.cs = s.cs) (hgranted : Granted u t) :
    StepTaken s t slot r c step :=
  h.still hcs (hgranted.stillShown slot) fun _ => by rw [hgranted.msgs]

/-- A load step's write enqueued at the cursor stands as asked. -/
theorem enqueueStep_taken {step : LoadStep} {q : Request} (hslot : q.slot = some slot) (hstate : m.ctxs[slot].state = .loading)
    (hcursor : m.ctxs[slot].cursor = step) (hloads : m.ctxs[slot].loads = s.ctxs[slot].loads) :
    LoadAt s (enqueueStep slot q m) slot step
      ∧ Placed (enqueueStep slot q m) slot q.origin q.dir q.addr q.reg q.data q.readLen q.delay := by
  refine ⟨?_, placed_enqueueStep hslot⟩
  unfold LoadAt
  rw [enqueueStep_ctx]
  exact ⟨hstate, hcursor, rfl, hloads⟩

/-- A profile step enqueued carries the output of the evaluation at the present inputs (R52, R90). -/
theorem placeProfile_of_room {id : ProfileId} {p : Profile} {ti : Int} (hhold : m.ctxs[slot].staleHold = none)
    (hroom : m.bm.queue.length < 32) (hflag : m.msgs.ceInvalidate[slot] = false) (hti : m.mu.ti = some ti) :
    ∃ v, v.ctxs = m.ctxs ∧ placeProfile slot r id p m = enqueueStep slot (writeRequest (.loadProfile id) slot r.addr p.header.param
        (profileData p (passOutput m ti id p).output) 0) v
      ∧ v.ce.shadows[id].reference = some (passOutput m ti id p).output
      ∧ v.ce.shadows[id].computed = some (passOutput m ti id p).computed
      ∧ v.ce.shadows[id].clamped = (passOutput m ti id p).stages.flag := by
  rcases placeProfile_cases slot r id p m with ⟨h, -⟩ | ⟨h, -⟩ | ⟨-, -, e, he, h⟩
  · rw [hhold] at h
    exact absurd h nofun
  · exact absurd hroom (Nat.not_lt.2 h)
  · rw [settleInvalidation_of_clear hflag] at h he
    rw [evaluateNow_eq hti] at he
    subst he
    refine ⟨_, ?_, h, ?_⟩
    · simp
    · rw [recordEvaluation_eq, modShadow_modShadow, postNotices, setShadow_get, if_pos rfl]
      exact ⟨reference_of_waiting (w := ⟨m.bm.nextId, (passOutput m ti id p).output⟩) rfl, rfl, rfl⟩

theorem imageEntries_get {e : ImageEntry} (h : (activeImage s slot).bind (fun es => es[k]?) = some e) :
    (imageEntries s slot)[k]? = some e := by
  obtain ⟨es, hes, he⟩ := Option.bind_eq_some_iff.1 h
  rw [imageEntries, hes]
  exact he

theorem imageData_eq (e : ImageEntry) : imageData e = match e.width with
    | .byte => [byteOf e.value]
    | .word => be16 e.value := by
  unfold imageData
  cases e.width <;> rfl

theorem LoadView.activeImage (h : LoadView slot ids s m) : activeImage m slot = activeImage s slot := by
  unfold Machine.activeImage
  rw [h.cs]

/-- The end of a load completes it (R92). -/
theorem enterInService_completed (hr : activeRecord m slot = some r) (hidle : m.ctxs[slot].awaited = none)
    (hnow : m.now = s.now) (hnotices : s.msgs.notices <+: m.msgs.notices)
    (hcounters : SameCounters s.ctxs[slot] m.ctxs[slot]) :
    LoadCompleted s (enterInService slot m) slot r := by
  obtain ⟨hloads, hlosses, hfaults⟩ := hcounters
  have htimer : checkExpiry m slot = if r.checkPeriod ≠ 0 ∧ (r.marker.isSome = true ∨ r.status.isSome = true)
      then some (s.now + r.checkPeriod * 100) else none := by
    rw [checkExpiry, recordInUse_of_active hr, hnow]
  unfold LoadCompleted
  rw [enterInService_ctx]
  refine ⟨rfl, rfl, rfl, rfl, rfl, hidle, rfl, by rw [← hloads]; rfl, htimer, ?_⟩
  obtain ⟨front, hfront⟩ := hnotices
  have hactive : activeRecord (modCtx slot (fun c =>
      { forgetCounts c with loads := satInc c.loads, cursor := .identity, roomMark := false, checkTimer := checkExpiry m slot })
      (beginEntry slot .inService .loaded .absent m)) slot = some r := (activeRecord_congr (s := m) (by simp) slot).trans hr
  refine ⟨front, m.ctxs[slot].state, ?_⟩
  rw [enterInService, postTarget_notices slot _ hactive, modCtx_get_self, beginEntry_ctx]
  rw [← hloads, ← hlosses, ← hfaults, ← List.append_assoc, hfront]
  exact congrArg (· ++ _) (beginEntry_rest ..).2.1

/-- A load whose cursor has moved to a step, before the step is placed. -/
def atStep (slot : Slot) (step : LoadStep) (m : State) : State := modCtx slot (fun c => { c with cursor := step, roomMark := false }) m

theorem atStep_ctx (slot : Slot) (step : LoadStep) (m : State) :
    (atStep slot step m).ctxs[slot] = { m.ctxs[slot] with cursor := step, roomMark := false } := modCtx_get_self ..

theorem goToStep_atStep {step : LoadStep} (h : step ≠ .finish) :
    goToStep slot r step m = placeLoadStep slot r step (atStep slot step m) := goToStep_of_ne h

/-- The cursor moves to a step, which is taken. -/
theorem goToStep_taken (hview : LoadView slot (m.ctxs[slot].profileList.drop k) s m) (hready : LoadReady slot m)
    (hr : activeRecord m slot = some r) {step : LoadStep} (hfrom : ∀ j, step = .profile j → k ≤ j) :
    StepTaken s (goToStep slot r step m) slot r m.ctxs[slot] step := by
  have hself := atStep_ctx slot step m
  have hcursor : (atStep slot step m).ctxs[slot].cursor = step := by rw [hself]
  have hstate : (atStep slot step m).ctxs[slot].state = .loading := by
    rw [hself]
    exact hready.loading
  have hhold : (atStep slot step m).ctxs[slot].staleHold = none := by
    rw [hself]
    exact hready.free
  have hloads : (atStep slot step m).ctxs[slot].loads = s.ctxs[slot].loads := by
    rw [hself]
    exact hview.counters.1
  have hroom : (atStep slot step m).bm.queue.length < 32 := hready.room
  cases step with
  | identity => trivial
  | image j =>
    intro e he
    have hentry : (imageEntries (atStep slot (.image j) m) slot)[j]? = some e :=
      imageEntries_get (hview.activeImage ▸ he)
    rw [goToStep_atStep (show LoadStep.image j ≠ .finish from nofun), ← imageData_eq]
    simp only [placeLoadStep, hentry]
    rw [placeStep_of_room hhold hroom]
    exact enqueueStep_taken (q := writeRequest (.image j) slot r.addr e.reg (imageData e) e.delay) rfl hstate hcursor hloads
  | profile j =>
    intro id p ti hid hp hslot hti hflag
    have hid' : (atStep slot (.profile j) m).ctxs[slot].profileList[j]? = some id := by
      rw [hself]
      exact hid
    have hp' : activeProfile (atStep slot (.profile j) m) id = some p :=
      (activeProfile_congr hview.cs id).trans hp
    have houtput : passOutput (atStep slot (.profile j) m) ti id p
        = passOutput s ti id p := by
      refine hview.passOutput (List.mem_iff_getElem?.2 ⟨j - k, ?_⟩) hp hslot ti
      rw [List.getElem?_drop, Nat.add_sub_cancel' (hfrom j rfl)]
      exact hid
    obtain ⟨v, hctxs, hplaced, hshadow⟩ := placeProfile_of_room (r := r) (id := id) (p := p) hhold hroom
      (hview.flag.trans hflag) ((congrArg Mu.ti hview.mu).trans hti)
    rw [houtput] at hplaced hshadow
    have htaken := enqueueStep_taken (s := s) (m := v) (step := .profile j) (q := writeRequest (.loadProfile id) slot r.addr p.header.param
      (profileData p (passOutput s ti id p).output) 0) rfl (by rw [hctxs]; exact hstate) (by rw [hctxs]; exact hcursor)
      (by rw [hctxs]; exact hloads)
    have hstep : goToStep slot r (.profile j) m = enqueueStep slot (writeRequest (.loadProfile id) slot r.addr p.header.param
        (profileData p (passOutput s ti id p).output) 0) v := by
      rw [goToStep_atStep (show LoadStep.profile j ≠ .finish from nofun), ← hplaced]
      simp only [placeLoadStep, hid', hp']
    rw [hstep]
    refine ⟨htaken.1, htaken.2, ?_⟩
    have hkept : (enqueueStep slot (writeRequest (.loadProfile id) slot r.addr p.header.param
      (profileData p (passOutput s ti id p).output) 0) v).ce = v.ce := rfl
    rw [hkept]
    exact hshadow
  | latch =>
    intro l hl
    rw [goToStep_atStep (show LoadStep.latch ≠ .finish from nofun)]
    simp only [placeLoadStep, hl]
    rw [placeStep_of_room hhold hroom]
    exact enqueueStep_taken (q := writeRequest .loadLatch slot r.addr l.reg [l.value] 0) rfl hstate hcursor hloads
  | marker =>
    intro w hw
    rw [goToStep_atStep (show LoadStep.marker ≠ .finish from nofun)]
    simp only [placeLoadStep, hw]
    rw [placeStep_of_room hhold hroom]
    exact enqueueStep_taken (q := writeRequest .loadMarker slot r.addr w.reg [w.value] 0) rfl hstate hcursor hloads
  | finish =>
    rw [goToStep_finish]
    refine enterInService_completed (m := atStep slot .finish m) hr
      (by rw [hself]; exact hready.idle) hview.now hview.notices ?_
    rw [hself]
    exact hview.counters

/-! ### How a load goes on -/

theorem loadFromMarker_of_taken {c : Ctx} (h : StepTaken s u slot r c (fromMarker c)) : LoadFromMarker s u slot r c := by
  refine ⟨fun w hcounted hw => ?_, fun hnot => ?_⟩
  · rw [fromMarker, if_pos hcounted] at h
    exact h w hw
  · rw [fromMarker, if_neg (by rw [hnot]; nofun)] at h
    exact h

theorem loadFromLatch_of_taken {c : Ctx} (h : StepTaken s u slot r c (fromLatch c)) : LoadFromLatch s u slot r c := by
  refine ⟨fun l hcounted hl => ?_, fun hnot => loadFromMarker_of_taken ?_⟩
  · rw [fromLatch, if_pos hcounted] at h
    exact h l hl
  · rw [fromLatch, if_neg (by rw [hnot]; nofun)] at h
    exact h

theorem firstServing_append {before after : List ProfileId} {id : ProfileId} (hskip : ∀ b ∈ before, profileServes s slot b = false)
    (hserves : profileServes s slot id = true) (k : Nat) : firstServing s slot k (before ++ id :: after) = some (k + before.length) := by
  induction before generalizing k with
  | nil => exact if_pos hserves
  | cons b bs ih =>
    obtain ⟨hb, hbs⟩ := List.forall_mem_cons.1 hskip
    rw [List.cons_append, firstServing, if_neg (by rw [hb]; nofun), ih hbs, List.length_cons, Nat.add_assoc, Nat.add_comm 1]

theorem firstServing_none {ids : List ProfileId} (hskip : ∀ b ∈ ids, profileServes s slot b = false) (k : Nat) :
    firstServing s slot k ids = none := by
  induction ids generalizing k with
  | nil => rfl
  | cons b bs ih =>
    obtain ⟨hb, hbs⟩ := List.forall_mem_cons.1 hskip
    rw [firstServing, if_neg (by rw [hb]; nofun), ih hbs]

theorem loadFromProfile_of_taken (hcs : m.cs = s.cs) (hflag : s.msgs.ceInvalidate[slot] = false)
    (h : StepTaken s u slot r m.ctxs[slot] (fromProfile m slot k)) : LoadFromProfile s u slot r m.ctxs[slot] k := by
  have hserves (id : ProfileId) : profileServes m slot id = true ↔ ∃ p, activeProfile s id = some p ∧ p.header.enabled = true
      ∧ p.header.slot = slot.val := by
    rw [profileServes_congr hcs slot]
    exact profileServes_iff
  have hskips {b : ProfileId} (hb : ¬ ∃ p, activeProfile s b = some p ∧ p.header.enabled = true ∧ p.header.slot = slot.val) :
      profileServes m slot b = false := Bool.eq_false_iff.2 fun hb' => hb ((hserves b).1 hb')
  refine ⟨fun before id after p ti hdrop hskip hid hp hti => ?_, fun hskip => loadFromLatch_of_taken ?_⟩
  · have hstep : fromProfile m slot k = .profile (k + before.length) := by
      rw [fromProfile, hdrop, firstServing_append (fun b hb => hskips (hskip b hb)) ((hserves id).2 hid)]
    rw [hstep] at h
    obtain ⟨q, hq, -, hslot⟩ := hid
    obtain rfl : q = p := Option.some.inj (hq.symm.trans hp)
    refine h id q ti ?_ hp hslot hti hflag
    rw [← List.getElem?_drop, hdrop]
    simp
  · rw [fromProfile, firstServing_none fun b hb => hskips (hskip b hb)] at h
    exact h

theorem loadFromImage_of_taken (hcs : m.cs = s.cs) (hflag : s.msgs.ceInvalidate[slot] = false)
    (h : StepTaken s u slot r m.ctxs[slot] (fromImage m slot k)) : LoadFromImage s u slot r m.ctxs[slot] k := by
  refine ⟨fun e hcounted he => ?_, fun hover => loadFromProfile_of_taken hcs hflag ?_⟩
  · rw [fromImage, if_pos hcounted] at h
    exact h e he
  · rw [fromImage, if_neg (Nat.not_lt.2 hover)] at h
    exact h

theorem fromProfile_ge {j : Nat} (h : fromProfile m slot k = .profile j) : k ≤ j := by
  unfold fromProfile at h
  split at h
  · next i hi =>
    obtain ⟨n, -, rfl, -⟩ := firstServing_spec hi
    cases h
    exact Nat.le_add_right ..
  · unfold fromLatch fromMarker at h
    split at h
    · cases h
    · split at h <;> cases h

end

end Sys2Proof.Machine
end

section
/-! The identity read (O31): a match counts the steps of the load and takes the first one, another byte is a mismatch. -/

namespace Sys2Proof.Machine

/-! ### The order of the profile list (R88) -/

section
variable {α : Type} {key : α → Nat}

theorem insertByKey_pairwise (x : α) {ys : List α} (h : ys.Pairwise fun a b => key a ≤ key b) :
    (insertByKey key x ys).Pairwise fun a b => key a ≤ key b := by
  induction ys with
  | nil => exact List.pairwise_singleton ..
  | cons y ys ih =>
    obtain ⟨hy, hys⟩ := List.pairwise_cons.1 h
    unfold insertByKey
    split
    · next hxy => exact List.pairwise_cons.2 ⟨fun z hz => (List.mem_cons.1 hz).elim (fun he => he ▸ hxy) fun hz => hxy.trans (hy z hz), h⟩
    · next hxy =>
      refine List.pairwise_cons.2 ⟨fun z hz => ?_, ih hys⟩
      rcases (mem_insertByKey key x z ys).1 hz with rfl | hz
      · exact Nat.le_of_not_le hxy
      · exact hy z hz

theorem sortByKey_pairwise (key : α → Nat) (ys : List α) : (sortByKey key ys).Pairwise fun a b => key a ≤ key b := by
  induction ys with
  | nil => exact .nil
  | cons y ys ih => exact insertByKey_pairwise y ih

end

section
variable {s t m u w : State} {slot : Slot} {r : TargetRecord} {ids : List ProfileId}

/-- The profile list stands in the order of rank and id. -/
theorem slotProfiles_ordered (s : State) (slot : Slot) : (slotProfiles s slot).Pairwise fun i j => ∀ p q,
    activeProfile s i = some p → activeProfile s j = some q →
    p.header.rank < q.header.rank ∨ (p.header.rank = q.header.rank ∧ i < j) := by
  refine ((sortByKey_pairwise (profileKey s) _).and (slotProfiles_nodup s slot)).imp_of_mem fun {i j} hi hj hij p q hp hq => ?_
  obtain ⟨hkey, hne⟩ := hij
  obtain ⟨p', hp', -, hpslot⟩ := profileServes_iff.1 (mem_slotProfiles.1 hi)
  obtain ⟨q', hq', -, hqslot⟩ := profileServes_iff.1 (mem_slotProfiles.1 hj)
  cases hp.symm.trans hp'
  cases hq.symm.trans hq'
  have hdiffers : i.val ≠ j.val := fun h => hne (Fin.ext h)
  simp only [profileKey, hp, hq, hpslot, hqslot] at hkey
  rw [Fin.lt_def]
  omega

/-- The count at the entry into LOADING is that of the active image, profiles and record. -/
theorem loadCounted_countedCtx (hcs : w.cs = s.cs) (r : TargetRecord) : LoadCounted s slot r (countedCtx w slot r) where
  images := congrArg List.length (imageEntries_congr hcs slot)
  listed id := by
    change id ∈ slotProfiles w slot ↔ _
    rw [slotProfiles_congr hcs, mem_slotProfiles, profileServes_iff]
  ordered := by
    change (slotProfiles w slot).Pairwise _
    rw [slotProfiles_congr hcs]
    exact slotProfiles_ordered s slot
  latch := rfl
  marker := rfl

/-! ### The entry into LOADING -/

/-- Behind the entry into LOADING the first counted step is taken. -/
theorem enterLoading_taken (hview : LoadView slot (slotProfiles w slot) s w) (hr : activeRecord w slot = some r)
    (hidle : w.ctxs[slot].awaited = none) (hfree : w.ctxs[slot].staleHold = none) (hroom : w.bm.queue.length < 32) :
    StepTaken s (enterLoading slot w) slot r (countedCtx w slot r) (fromImage (loadingState slot r w) slot 0) := by
  have huse := recordInUse_of_active hr
  have hctx := loadingState_ctx slot r w
  have hwork := slotWork_loadingState slot r w
  have hview' : LoadView slot ((loadingState slot r w).ctxs[slot].profileList.drop 0) s (loadingState slot r w) := by
    have hrest := beginEntry_rest slot .loading .probed .absent w
    rw [List.drop_zero, hctx, show (countedCtx w slot r).profileList = slotProfiles w slot from rfl]
    refine hview.step hwork.evolves.framed (congrArg (·[slot]) hrest.2.2) (by rw [hctx]; exact ⟨rfl, rfl, rfl⟩) fun id _ _ _ _ => ?_
    exact congrArg (fun ce : Ce => ce.shadows[id].reference) hrest.1
  have hready : LoadReady slot (loadingState slot r w) := by
    refine ⟨by rw [hctx]; rfl, by rw [hctx]; exact hidle, by rw [hctx]; exact hfree, hwork.length.trans_lt hroom⟩
  have hactive : activeRecord (loadingState slot r w) slot = some r := (activeRecord_congr hwork.cs slot).trans hr
  rw [← hctx]
  by_cases hstep : fromImage (loadingState slot r w) slot 0 = .finish
  · have hposted := slotWork_postTarget slot w.ctxs[slot].state (loadingState slot r w)
    have hcounts : (postTarget slot w.ctxs[slot].state (loadingState slot r w)).ctxs[slot] = (loadingState slot r w).ctxs[slot] :=
      postTarget_ctx ..
    have htaken := goToStep_taken (m := postTarget slot w.ctxs[slot].state (loadingState slot r w)) (k := 0) (step := .finish) (r := r)
      (s := s) (slot := slot) (by
        rw [hcounts]
        refine hview'.step hposted.evolves.framed (by rw [(postTarget_beside ..).2.2.2.2.2]) (by rw [hcounts]; exact ⟨rfl, rfl, rfl⟩)
          fun id _ _ _ _ => by rw [(postTarget_beside ..).2.1])
      ⟨by rw [hcounts]; exact hready.loading, by rw [hcounts]; exact hready.idle, by rw [hcounts]; exact hready.free,
        by rw [(postTarget_beside ..).1]; exact hready.room⟩ ((activeRecord_congr hposted.cs slot).trans hactive) nofun
    rw [enterLoading_done huse hstep, hstep]
    exact htaken
  · rw [enterLoading_placed huse hstep]
    exact (goToStep_taken hview' hready hactive fun j _ => Nat.zero_le j).still
      ((slotWork_goToStep r _ (cursorServes_fromImage 0)).cs.trans hview'.cs) (stillShown_postTarget ..) fun h => absurd h hstep

/-- The slot's context shows the count while the load is in progress. -/
theorem enterLoading_counts (hr : recordInUse s slot = some r) (hstate : (enterLoading slot s).ctxs[slot].state = .loading) :
    (enterLoading slot s).ctxs[slot].imageCount = (countedCtx s slot r).imageCount
      ∧ (enterLoading slot s).ctxs[slot].profileList = (countedCtx s slot r).profileList
      ∧ (enterLoading slot s).ctxs[slot].latchStep = (countedCtx s slot r).latchStep
      ∧ (enterLoading slot s).ctxs[slot].markerStep = (countedCtx s slot r).markerStep := by
  rcases enterLoading_ctx hr with ⟨step, awaited, mark, -, h⟩ | ⟨-, h⟩
  · rw [h]
    exact ⟨rfl, rfl, rfl, rfl⟩
  · rw [h] at hstate
    exact absurd hstate nofun

theorem identityRead_match {c : IdentityCheck} {b : Byte} (hc : s.ctxs[slot].probe = some c)
    (hb : b &&& c.mask = c.expected &&& c.mask) : identityRead slot b s = enterLoading slot s := by
  simp only [identityRead, hc]
  exact if_pos hb

theorem identityRead_mismatch {c : IdentityCheck} {b : Byte} (hc : s.ctxs[slot].probe = some c)
    (hb : b &&& c.mask ≠ c.expected &&& c.mask) :
    identityRead slot b s = enterPlain slot .mismatch .identityMismatch (.byteRead b) s := by
  simp only [identityRead, hc]
  exact if_neg hb

end

/-- Settles O31. -/
theorem identityReadDecidesProbe : Obligations.IdentityReadDecidesProbe := by
  unfold Obligations.IdentityReadDecidesProbe
  intro derate acks b s t slot r c hone hbounded hbus hidle hslot horigin hdir hlen hstale hr hc hstate hawaited hhold hflag hacks
  refine ⟨_, exec_transactionEnd_done hbus hidle (transactionOutcome_readDone hdir hacks), ?_⟩
  rw [deliveredBytes_one hdir hlen]
  have hbeside := ended_beside (resp := .complete acks [b]) (derate := derate) hone hbus hslot .done [b]
  have hroom := concluded_room (resp := .complete acks [b]) (derate := derate) hbounded (mem_onBusTransfer hbus).1
  have hview (ids : List ProfileId) := loadView_ended slot ids t (.complete acks [b]) (sampleDerate derate s)
  obtain ⟨-, -, hctxs, -⟩ := concluded_keeps t (.complete acks [b]) (sampleDerate derate s)
  generalize concluded t (.complete acks [b]) (sampleDerate derate s) = v at hbeside hroom hview hctxs ⊢
  have hctx : v.ctxs[slot] = s.ctxs[slot] := by rw [hctxs]; rfl
  have hread : deliver (counted t) .done [b] v = identityRead slot b (stepTaken slot v) := by
    rw [deliver_done hslot (.inl (congrArg Origin.cls horigin)) hstale (by rw [hctx]; exact hhold) (by rw [hctx]; exact hawaited),
      passToCe_of_ne (x := counted t) (by simp [counted, horigin]), horigin]
    rfl
  rw [hread] at hbeside ⊢
  have hstart : (stepTaken slot v).ctxs[slot] = { s.ctxs[slot] with awaited := none } := by rw [stepTaken_ctx, hctx]
  have hqueue : (stepTaken slot v).bm.queue.length < 32 := hroom
  generalize stepTaken slot v = w at hbeside hview hstart hqueue ⊢
  have hcs : w.cs = s.cs := (hview []).cs
  have hactive : activeRecord w slot = some r := (activeRecord_congr hcs slot).trans hr
  have hgranted := granted_grantDecision (identityRead slot b w)
  have hprobe : w.ctxs[slot].probe = some c := by
    rw [hstart]
    exact hc
  refine ⟨fun hb => ?_, fun hb => ?_, hbeside⟩
  · rw [identityRead_match hprobe hb] at hgranted ⊢
    have htaken := (enterLoading_taken (hview _) hactive (by rw [hstart]) (by rw [hstart]; exact hhold) hqueue).granted
      ((slotWork_enterLoading slot w).cs.trans hcs) hgranted
    refine ⟨?_, countedCtx w slot r, loadCounted_countedCtx hcs r, ?_, fun hloading => ?_⟩
    · rw [hgranted.ctxs]
      rcases enterLoading_ctx (recordInUse_of_active hactive) with ⟨step, awaited, mark, -, h⟩ | ⟨-, h⟩
      · exact .inl ⟨by rw [h]; rfl, by rw [h]; rfl⟩
      · exact .inr ⟨by rw [h]; rfl, by rw [h]; rfl⟩
    · rw [← loadingState_ctx] at htaken ⊢
      exact loadFromImage_of_taken ((slotWork_loadingState slot r w).cs.trans hcs) hflag htaken
    · rw [hgranted.ctxs] at hloading ⊢
      exact enterLoading_counts (recordInUse_of_active hactive) hloading
  · rw [identityRead_mismatch hprobe hb] at hgranted ⊢
    have hquiet := hgranted.slotQuiet (slotQuiet_enterPlain slot (st := .mismatch) rfl .identityMismatch (.byteRead b) w)
    rw [hgranted.ctxs, enterPlain_ctx slot (st := .mismatch) rfl, hstart]
    exact ⟨rfl, rfl, rfl, rfl, rfl, hquiet⟩

end Sys2Proof.Machine
end

section
/-! The steps of a load in progress (O32, first part): the DONE of one step takes the next. -/

namespace Sys2Proof.Machine

section
variable {s t m u : State} {x : Transfer} {slot : Slot} {r : TargetRecord} {k : Nat} {ids : List ProfileId}

/-! ### What a load leaves of the shadows -/

theorem doneShadow_reference (tid : Nat) (sh : Shadow) : (doneShadow tid sh).reference = sh.reference := by
  unfold doneShadow
  split
  · next b hb =>
    split
    · cases hw : sh.waiting <;> simp [Shadow.reference, hw, hb]
    · rfl
  · rfl

/-- The CE takes the DONE of a profile step: references stand for the same values. -/
theorem passToCe_done_reference (x : Transfer) (s : State) (id : ProfileId) :
    (passToCe x .done s).ce.shadows[id].reference = s.ce.shadows[id].reference := by
  unfold passToCe profileOutcome
  split
  · next j _ =>
    split
    · rfl
    · rw [if_pos rfl, modShadow, setShadow_get]
      split
      · next h => rw [doneShadow_reference, h]
      · rfl
  · rfl

theorem passToCe_done_written {id : ProfileId} {b : Ref} (horigin : x.origin = .loadProfile id) (hstale : x.stale = false)
    (hb : s.ce.shadows[id].onBus = some b) (hid : b.id = x.id) :
    (passToCe x .done s).ce.shadows[id].written = some b.value := by
  have hnamed : namedBy x.id s.ce.shadows[id].onBus = true := by
    rw [hb, ← hid]
    exact beq_self_eq_true b.id
  unfold passToCe profileOutcome
  rw [horigin]
  dsimp only
  rw [hstale, hnamed, if_neg nofun, if_pos rfl, modShadow, setShadow_get, if_pos rfl, ← hid,
    doneShadow_named (v := b.value) (by rw [hb])]

/-- The CE takes the DONE of a step: nothing but its shadow changes. -/
theorem passToCe_done_eq (x : Transfer) (s : State) :
    passToCe x .done s = { s with ce := { s.ce with shadows := (passToCe x .done s).ce.shadows } } := by
  unfold passToCe profileOutcome
  split
  · split
    · rfl
    · rw [if_pos rfl]
      rfl
  · rfl

theorem placeStep_ce (slot : Slot) (marks : Bool) (q : Request) (s : State) : (placeStep slot marks q s).ce = s.ce := by
  rcases placeStep_cases slot marks q s with ⟨-, h⟩ | ⟨-, h⟩ | ⟨-, -, h⟩ <;> rw [h] <;> rfl

/-- A load step writes nothing of the shadows' written values. -/
theorem goToStep_written (r : TargetRecord) (step : LoadStep) (hflag : m.msgs.ceInvalidate[slot] = false) (id : ProfileId) :
    (goToStep slot r step m).ce.shadows[id].written = m.ce.shadows[id].written := by
  by_cases hstep : step = .finish
  · subst hstep
    have hce : (goToStep slot r .finish m).ce = m.ce := by
      rw [goToStep_finish, enterInService, (postTarget_beside ..).2.1]
      exact (beginEntry_rest ..).1
    rw [hce]
  · rw [goToStep_atStep hstep]
    have hce : (atStep slot step m).ce = m.ce := rfl
    replace hflag : (atStep slot step m).msgs.ceInvalidate[slot] = false := hflag
    rw [← hce]
    generalize atStep slot step m = w at hflag
    unfold placeLoadStep
    split
    case h_1 => rfl
    case h_6 => rfl
    case h_3 =>
      split
      · rfl
      · next j _ =>
        split
        · rfl
        · next p _ =>
          rcases placeProfile_cases slot r j p w with ⟨-, h⟩ | ⟨-, h⟩ | ⟨-, -, e, -, h⟩ <;> rw [h]
          · rfl
          · have hkept (q : Request) (v : State) : (enqueueStep slot q v).ce = v.ce := rfl
            rw [hkept, settleInvalidation_of_clear hflag, recordEvaluation_eq, modShadow_modShadow, postNotices, setShadow_get]
            split
            · next h => rw [h]
            · rfl
    all_goals
      split
      · rfl
      · rw [placeStep_ce]

/-! ### The quiet time -/

theorem grantDecision_quiet (s : State) : (grantDecision s).bm.quiet = s.bm.quiet := by
  rcases grantDecision_choice s with hsame | ⟨g, -, -, -, hgrant⟩
  · rw [hsame]
  · rw [hgrant, grant_bm]

theorem quietAfter_done (hslot : x.slot = some slot) (hstale : x.stale = false) :
    (quietAfter x .done s)[slot] = if x.delay = 0 then s.bm.quiet[slot] else some (s.now + x.delay) := by
  rw [quietAfter, if_pos rfl, startQuiet, show (counted x).slot = some slot from hslot]
  dsimp only
  by_cases hdelay : x.delay = 0
  · rw [if_pos hdelay, if_neg fun h => h.1 hdelay]
  · rw [if_neg hdelay, if_pos ⟨hdelay, hstale⟩]
    exact Vector.getElem_set_self _

/-! ### The next step -/

theorem advanceLoad_eq (hr : recordInUse s slot = some r) :
    advanceLoad slot s = goToStep slot r (afterStep s slot s.ctxs[slot].cursor) s := by
  simp only [advanceLoad, hr]

/-- How a load goes on behind the step at its cursor (R88 to R92). -/
def LoadGoesOn (s u : State) (slot : Slot) (r : TargetRecord) (c : Ctx) : LoadStep → Prop
  | .identity => True
  | .image i => LoadFromImage s u slot r c (i + 1)
  | .profile i => LoadFromProfile s u slot r c (i + 1)
  | .latch => LoadFromMarker s u slot r c
  | .marker => LoadCompleted s u slot r
  | .finish => True

/-- The position of the profile list a load goes on from. -/
def listFrom : LoadStep → Nat
  | .profile i => i + 1
  | _ => 0

/-- The load goes on behind its cursor, and a grant is decided. -/
theorem advanceLoad_taken (hview : LoadView slot (m.ctxs[slot].profileList.drop (listFrom m.ctxs[slot].cursor)) s m)
    (hready : LoadReady slot m) (hr : activeRecord m slot = some r) (hflag : s.msgs.ceInvalidate[slot] = false)
    (hgranted : Granted (advanceLoad slot m) u) : LoadGoesOn s u slot r m.ctxs[slot] m.ctxs[slot].cursor := by
  rw [advanceLoad_eq (recordInUse_of_active hr)] at hgranted
  have hfrom : ∀ j, afterStep m slot m.ctxs[slot].cursor = .profile j → listFrom m.ctxs[slot].cursor ≤ j := by
    intro j hj
    cases hcursor : m.ctxs[slot].cursor with
    | profile i =>
      rw [hcursor] at hj
      exact fromProfile_ge hj
    | _ => exact Nat.zero_le j
  have htaken := (goToStep_taken hview hready hr hfrom).granted
    ((slotWork_goToStep r m (cursorServes_afterStep m.ctxs[slot].cursor)).cs.trans hview.cs) hgranted
  generalize m.ctxs[slot].cursor = cursor at htaken
  cases cursor with
  | identity => trivial
  | image i => exact loadFromImage_of_taken hview.cs hflag htaken
  | profile i => exact loadFromProfile_of_taken hview.cs hflag htaken
  | latch => exact loadFromMarker_of_taken htaken
  | marker => exact htaken
  | finish => trivial

theorem stepDone_load {o : Origin} (hcls : o.cls = .restore) (hne : o ≠ .identity) (bytes : List Byte) (s : State) :
    stepDone slot o bytes s = advanceLoad slot s := by
  cases o with
  | identity => exact absurd rfl hne
  | checkMarker => exact absurd hcls nofun
  | checkStatus => exact absurd hcls nofun
  | _ => rfl

end

end Sys2Proof.Machine
end

section
/-! A profile step withdrawn at a profile activation (R85), and the steps of a load as a whole (O32). -/

namespace Sys2Proof.Machine

section
variable {s t m u : State} {x : Transfer} {slot : Slot} {r : TargetRecord} {k : Nat} {ids : List ProfileId} {ch : ProfileChange}
  {w : Ref} {derate : Bool} {rest : List ProfileChange}

/-! ### The activation -/

/-- The part a profile announcement is taken in, the DERATE input sampled. -/
def announced (derate : Bool) (rest : List ProfileChange) (s : State) : State :=
  sampleDerate derate { s with msgs := { s.msgs with ceProfile := rest } }

/-- The trim behind an announcement: a removal clears it (R25). -/
def trimmed (ch : ProfileChange) (s : State) : State := if ch.after.isNone then setTrimOf ch.id 0 s else s

/-- The part in which the writes of an invalidated profile are withdrawn: its shadow is as after reset (R54). -/
def shadowLost (ch : ProfileChange) (s : State) : State := setShadow ch.id Shadow.reset (trimmed ch s)

theorem exec_profileActivation (h : s.msgs.ceProfile = ch :: rest) :
    exec (.profileActivation derate) s = .next (decideIfEnqueued s (takeProfileChange ch (announced derate rest s))) := by
  change execProfileActivation derate s = _
  unfold execProfileActivation
  rw [h]
  rfl

theorem invalidates_of_differs (h : ∀ b a, ch.before = some b → ch.after = some a → b.header.slot ≠ a.header.slot
    ∨ b.header.param ≠ a.header.param ∨ b.header.width ≠ a.header.width ∨ b.header.order ≠ a.header.order) :
    invalidates ch.before ch.after = true := by
  cases hb : ch.before with
  | none => rfl
  | some b =>
    cases ha : ch.after with
    | none => rfl
    | some a => simpa [invalidates, or_assoc] using h b a hb ha

theorem trimmed_eq (ch : ProfileChange) (s : State) :
    trimmed ch s = { s with ce := { s.ce with trims := (trimmed ch s).ce.trims } } := by
  unfold trimmed
  split <;> rfl

theorem trimmed_trims (ch : ProfileChange) (s : State) :
    (trimmed ch s).ce.trims = if ch.after.isSome then s.ce.trims else s.ce.trims.set ch.id 0 := by
  unfold trimmed
  cases ch.after <;> rfl

theorem shadowLost_keeps (ch : ProfileChange) (s : State) : (shadowLost ch s).bm = s.bm ∧ (shadowLost ch s).ctxs = s.ctxs
    ∧ (shadowLost ch s).cs = s.cs ∧ (shadowLost ch s).msgs = s.msgs ∧ (shadowLost ch s).hl = s.hl ∧ (shadowLost ch s).nu = s.nu
    ∧ (shadowLost ch s).ce.latches = s.ce.latches ∧ (shadowLost ch s).ce.trims = (trimmed ch s).ce.trims := by
  unfold shadowLost
  rw [trimmed_eq]
  exact ⟨rfl, rfl, rfl, rfl, rfl, rfl, rfl, rfl⟩

theorem shadowLost_shadow (ch : ProfileChange) (s : State) (j : ProfileId) :
    (shadowLost ch s).ce.shadows[j] = if j = ch.id then Shadow.reset else s.ce.shadows[j] := by
  unfold shadowLost
  rw [setShadow_get, trimmed_eq]

theorem takeProfileChange_invalidates (h : invalidates ch.before ch.after = true) : takeProfileChange ch s
    = withdraw s.ce.shadows[ch.id].onBus (withdraw s.ce.shadows[ch.id].waiting (shadowLost ch s)) := by
  unfold takeProfileChange
  dsimp only
  rw [if_pos h]
  have hshadow : (trimmed ch s).ce.shadows[ch.id] = s.ce.shadows[ch.id] := by rw [trimmed_eq]
  change invalidateProfile ch.id (trimmed ch s) = _
  unfold invalidateProfile
  dsimp only
  rw [hshadow]
  rfl

theorem transferById_of_mem (hone : OneOnBus s) (hx : x ∈ s.bm.queue) : transferById s x.id = some x := by
  cases hfound : s.bm.queue.find? (fun y => y.id == x.id) with
  | none => exact absurd (List.find?_eq_none.1 hfound x hx) (by simp)
  | some y =>
    have hid : y.id = x.id := by simpa using List.find?_some hfound
    rw [transferById, hfound, hone.eq_of_id (List.mem_of_find?_eq_some hfound) hx hid]

theorem withdraw_of_mem (hone : OneOnBus s) (hx : x ∈ s.bm.queue) (hid : x.id = w.id) :
    withdraw (some w) s = stepWithdrawn x (withdrawn x s) := by
  simp only [withdraw, ← hid, transferById_of_mem hone hx]
  rfl

/-! ### The withdrawal of an awaited step -/

/-- The part a load goes on in behind the withdrawal of its awaited profile step (R85). -/
def stepLost (slot : Slot) (x : Transfer) (ch : ProfileChange) (s : State) : State :=
  modCtx slot (withdrawnCtx x) (withdrawn x (shadowLost ch s))

theorem stepLost_ctx (slot : Slot) (x : Transfer) (ch : ProfileChange) (s : State) :
    (stepLost slot x ch s).ctxs[slot] = withdrawnCtx x s.ctxs[slot] := by
  rw [stepLost, modCtx_get_self, (withdrawn_frame ..).1, (shadowLost_keeps ch s).2.1]

theorem stepWithdrawn_awaited {id : ProfileId} (horigin : x.origin = .loadProfile id) (hslot : x.slot = some slot)
    (hawaited : s.ctxs[slot].awaited = some x.id) :
    stepWithdrawn x s = advanceLoad slot (modCtx slot (withdrawnCtx x) s) := by
  rcases stepWithdrawn_cases x s with ⟨-, hne⟩ | ⟨-, i, -, hi, -, h⟩
  · exact absurd hawaited (hne id slot horigin hslot)
  · obtain rfl := Option.some.inj (hslot.symm.trans hi)
    exact h

theorem withdraw_step {id : ProfileId} (hone : OneOnBus s) (hx : x ∈ s.bm.queue) (hid : x.id = w.id)
    (horigin : x.origin = .loadProfile id) (hslot : x.slot = some slot) (hawaited : s.ctxs[slot].awaited = some x.id) :
    withdraw (some w) (shadowLost ch s) = advanceLoad slot (stepLost slot x ch s) := by
  obtain ⟨hbm, hctxs, -⟩ := shadowLost_keeps ch s
  rw [withdraw_of_mem (s := shadowLost ch s) (x := x) (by unfold OneOnBus; rw [hbm]; exact hone) (by rw [hbm]; exact hx) hid,
    stepWithdrawn_awaited horigin hslot (by rw [(withdrawn_frame ..).1, hctxs]; exact hawaited)]
  rfl

theorem evolves_stepLost (slot : Slot) (x : Transfer) (ch : ProfileChange) (s : State) :
    Evolves {slot} (shadowLost ch s) (stepLost slot x ch s) :=
  (evolves_withdrawn {slot} x _).trans (evolves_modCtx slot _ _)

theorem loadView_announced (hids : ch.id ∉ ids) : LoadView slot ids { s with pins := { s.pins with derate := derate } }
    (shadowLost ch (announced derate rest s)) := by
  have hne {j : ProfileId} (hj : j ∈ ids) : j ≠ ch.id := fun h => hids (h ▸ hj)
  obtain ⟨-, hctxs, hcs, hmsgs, -, -, -, htrims⟩ := shadowLost_keeps ch (announced derate rest s)
  have hrest : (shadowLost ch (announced derate rest s)).now = s.now ∧ (shadowLost ch (announced derate rest s)).mu = s.mu
      ∧ (shadowLost ch (announced derate rest s)).ce.hostDerate = s.ce.hostDerate
      ∧ (shadowLost ch (announced derate rest s)).pins.derate = derate := by
    unfold shadowLost
    rw [trimmed_eq]
    exact ⟨rfl, rfl, rfl, rfl⟩
  obtain ⟨hnow, hmu, hhost, hderate⟩ := hrest
  refine ⟨hnow, hcs, hmu, fun j hj => ?_, hhost, hderate, by rw [hmsgs]; rfl, by rw [hctxs]; exact ⟨rfl, rfl, rfl⟩,
    by rw [hmsgs]; exact List.prefix_rfl, fun j hj _ _ _ => ?_⟩
  · rw [htrims, trimmed_trims]
    split
    · rfl
    · exact Vector.getElem_set_ne _ _ fun h => hne hj (Fin.ext h.symm)
  · rw [shadowLost_shadow, if_neg (hne hj)]
    rfl

theorem loadView_stepLost (hids : ch.id ∉ ids) : LoadView slot ids { s with pins := { s.pins with derate := derate } }
    (stepLost slot x ch (announced derate rest s)) := by
  obtain ⟨hframe, -, hce, hflags⟩ := withdrawn_frame x (shadowLost ch (announced derate rest s))
  have hctxs := (shadowLost_keeps ch (announced derate rest s)).2.1
  refine (loadView_announced hids).step (evolves_stepLost slot x ch (announced derate rest s)).framed (congrArg (·[slot]) hflags) ?_ fun j _ _ _ _ =>
    congrArg (fun ce : Ce => ce.shadows[j].reference) hce
  rw [stepLost_ctx, hctxs]
  exact ⟨rfl, rfl, rfl⟩

/-! ### A waiting step -/

theorem not_mem_withdrawn (hbus : x.onBus = false) : ∀ y ∈ (withdrawn x s).bm.queue, y.id ≠ x.id := by
  unfold withdrawn
  rw [hbus, if_neg nofun]
  exact fun y => not_mem_depart

theorem withdrawn_nextId (x : Transfer) (s : State) : (withdrawn x s).bm.nextId = s.bm.nextId := by
  unfold withdrawn
  split <;> rfl

theorem withdrawn_room (hbus : x.onBus = false) (hx : x ∈ s.bm.queue) : (withdrawn x s).bm.queue.length < s.bm.queue.length := by
  unfold withdrawn
  rw [hbus, if_neg nofun]
  exact List.length_filter_lt_length_iff_exists.2 ⟨x, hx, by simp⟩

/-! ### A step on the bus -/

/-- While a stale hold stands a load moves its cursor and places nothing (R69). -/
theorem goToStep_of_hold {step : LoadStep} (hhold : m.ctxs[slot].staleHold.isSome = true) (hflag : step ≠ .finish) :
    goToStep slot r step m = atStep slot step m := by
  rw [goToStep_atStep hflag]
  have hhold' : (atStep slot step m).ctxs[slot].staleHold.isSome = true := by
    rw [atStep_ctx]
    exact hhold
  generalize atStep slot step m = v at hhold'
  unfold placeLoadStep
  split
  case h_1 => rfl
  case h_6 => rfl
  case h_3 =>
    split
    · rfl
    · split
      · rfl
      · exact if_pos hhold'
  all_goals
    split
    · rfl
    · exact placeStep_of_hold hhold'

theorem beginEntry_inService_nextId (slot : Slot) (reason : Reason) (d : Detail) (s : State) :
    (beginEntry slot .inService reason d s).bm.nextId = s.bm.nextId := by
  change (purgeRawWrites slot (modCtx slot (nameEntry .inService reason d) s)).bm.nextId = _
  unfold purgeRawWrites
  split
  · simp [purgeManual, departWhere]
  · rfl

/-- A load that meets a stale hold: it moves on or completes, and no transfer is made. -/
theorem goToStep_held (step : LoadStep) (hr : activeRecord m slot = some r) (hhold : m.ctxs[slot].staleHold.isSome = true) :
    (goToStep slot r step m).ctxs[slot].staleHold = m.ctxs[slot].staleHold
      ∧ (goToStep slot r step m).ctxs[slot].awaited = m.ctxs[slot].awaited
      ∧ (goToStep slot r step m).bm.nextId = m.bm.nextId
      ∧ ∃ p : Transfer → Bool, (goToStep slot r step m).bm.queue = m.bm.queue.filter (fun y => !p y)
        ∧ ∀ y, p y = true → waitingRawWrite r.addr y = true := by
  by_cases hstep : step = .finish
  · subst hstep
    have hbm : (goToStep slot r .finish m).bm = (beginEntry slot .inService .loaded .absent
        (atStep slot .finish m)).bm := by
      rw [goToStep_finish, enterInService, (postTarget_beside ..).1]
      rfl
    have hctx := goToStep_finish_ctx slot r m
    rw [hctx, hbm]
    refine ⟨rfl, rfl, ?_, _, beginEntry_queue .., fun y hy => ?_⟩
    · exact beginEntry_inService_nextId ..
    · have hactive : activeRecord (atStep slot .finish m) slot = some r := hr
      simpa [purgedAtEntry, claimedRawWrite, hactive, automaticUse] using hy
  · rw [goToStep_of_hold hhold hstep, atStep_ctx]
    exact ⟨rfl, rfl, rfl, fun _ => false, by simp [atStep], nofun⟩

theorem markStale_queue (i : Nat) (s : State) : (markStale i s).bm.queue = s.bm.queue.map fun y =>
    if y.id = i then if y.onBus then { y with stale := true } else y else y := rfl

/-- A withdrawn transfer on the bus stays queued and is stale; every other one stays as it was (R54). -/
theorem withdrawn_onBus (hbus : x.onBus = true) (hx : x ∈ s.bm.queue) :
    { x with stale := true } ∈ (withdrawn x s).bm.queue ∧ (withdrawn x s).bm.queue.length = s.bm.queue.length
      ∧ ∀ y ∈ (withdrawn x s).bm.queue, ∃ z ∈ s.bm.queue, y = { z with stale := y.stale } := by
  unfold withdrawn
  rw [if_pos hbus, markStale_queue]
  refine ⟨List.mem_map.2 ⟨x, hx, ?_⟩, List.length_map .., fun y hy => ?_⟩
  · rw [if_pos rfl, if_pos hbus]
  · obtain ⟨z, hz, rfl⟩ := List.mem_map.1 hy
    refine ⟨z, hz, ?_⟩
    split
    · split <;> rfl
    · rfl

end

/-- The transfer on the bus is a step its slot awaits. -/
structure AwaitedOnBus (s : State) (x : Transfer) (slot : Slot) (r : TargetRecord) : Prop where
  bounded : QueueBounded s
  bus : onBusTransfer s = some x
  named : x.slot = some slot
  fresh : x.stale = false
  record : activeRecord s slot = some r
  awaited : s.ctxs[slot].awaited = some x.id
  free : s.ctxs[slot].staleHold = none

/-- The DONE of a load step: the load goes on, the quiet time starts, a profile step's value is written. -/
theorem loadStep_done {derate : Bool} {resp : BusResponse} {s u : State} {t : Transfer} {slot : Slot} {r : TargetRecord}
    (h : AwaitedOnBus s t slot r) (hcls : t.cls = .restore) (hne : t.origin ≠ .identity) (hstate : s.ctxs[slot].state = .loading)
    (hflag : s.msgs.ceInvalidate[slot] = false) (hdone : transactionOutcome t resp = .done)
    (hu : u = grantDecision (deliver (counted t) .done (deliveredBytes t resp) (concluded t resp (sampleDerate derate s)))) :
    LoadGoesOn { s with pins := { s.pins with derate := derate } } u slot r s.ctxs[slot] s.ctxs[slot].cursor
      ∧ u.bm.quiet[slot] = (if t.delay = 0 then s.bm.quiet[slot] else some (s.now + t.delay))
      ∧ (∀ id b, t.origin = .loadProfile id → s.ce.shadows[id].onBus = some b → b.id = t.id → u.ce.shadows[id].written = some b.value) := by
  obtain ⟨hbounded, hbus, hslot, hstale, hr, hawaited, hhold⟩ := h
  have hroom := concluded_room (resp := resp) (derate := derate) hbounded (mem_onBusTransfer hbus).1
  have hview (ids : List ProfileId) := loadView_ended slot ids t resp (sampleDerate derate s)
  obtain ⟨-, hce, hctxs, -⟩ := concluded_keeps t resp (sampleDerate derate s)
  have hquiet : (concluded t resp (sampleDerate derate s)).bm.quiet[slot]
      = if t.delay = 0 then s.bm.quiet[slot] else some (s.now + t.delay) := by
    rw [concluded_eq, hdone]
    exact quietAfter_done hslot hstale
  subst hu
  generalize concluded t resp (sampleDerate derate s) = v at hroom hview hce hctxs hquiet ⊢
  have hctx : v.ctxs[slot] = s.ctxs[slot] := by rw [hctxs]; rfl
  rw [deliver_done hslot (.inl hcls) hstale (by rw [hctx]; exact hhold) (by rw [hctx]; exact hawaited), stepDone_load hcls hne]
  have hstart : (stepTaken slot v).ctxs[slot] = { s.ctxs[slot] with awaited := none } := by rw [stepTaken_ctx, hctx]
  have hqueue : (stepTaken slot v).bm.queue.length < 32 := hroom
  have hshadows : (stepTaken slot v).ce.shadows = s.ce.shadows := congrArg Ce.shadows hce
  replace hquiet : (stepTaken slot v).bm.quiet[slot] = if t.delay = 0 then s.bm.quiet[slot] else some (s.now + t.delay) := hquiet
  generalize stepTaken slot v = w at hview hstart hqueue hshadows hquiet ⊢
  have hpassed := passToCe_done_eq (counted t) w
  have hevolves : Evolves {slot} w (passToCe (counted t) .done w) := evolves_passToCe ..
  have hm : (passToCe (counted t) .done w).ctxs[slot] = { s.ctxs[slot] with awaited := none } := by rw [hpassed, ← hstart]
  have hview' (ids : List ProfileId) : LoadView slot ids { s with pins := { s.pins with derate := derate } } (passToCe (counted t) .done w) := by
    refine (hview ids).step hevolves.framed (by rw [hpassed]) (by rw [hm, hstart]; exact ⟨rfl, rfl, rfl⟩) fun id _ _ _ _ => ?_
    exact passToCe_done_reference ..
  have hready : LoadReady slot (passToCe (counted t) .done w) := by
    refine ⟨by rw [hm]; exact hstate, by rw [hm], by rw [hm]; exact hhold, by rw [hpassed]; exact hqueue⟩
  have hactive : activeRecord (passToCe (counted t) .done w) slot = some r := (activeRecord_congr (s := s) (hview' []).cs slot).trans hr
  have hwritten (id : ProfileId) (b : Ref) (horigin : t.origin = .loadProfile id) (hb : s.ce.shadows[id].onBus = some b)
      (hid : b.id = t.id) : (passToCe (counted t) .done w).ce.shadows[id].written = some b.value :=
    passToCe_done_written (x := counted t) horigin hstale (by rw [hshadows]; exact hb) hid
  replace hquiet : (passToCe (counted t) .done w).bm.quiet[slot] = if t.delay = 0 then s.bm.quiet[slot] else some (s.now + t.delay) := by
    rw [hpassed]
    exact hquiet
  generalize passToCe (counted t) .done w = m at hm hview' hready hactive hwritten hquiet ⊢
  have hgranted := granted_grantDecision (advanceLoad slot m)
  refine ⟨?_, ?_, fun id b horigin hb hid => ?_⟩
  · have hgoes := advanceLoad_taken (hview' _) hready hactive hflag hgranted
    rw [hm] at hgoes
    exact hgoes
  · rw [grantDecision_quiet, advanceLoad_eq (recordInUse_of_active hactive),
      (slotWork_goToStep r m (cursorServes_afterStep m.ctxs[slot].cursor)).evolves.framed.bm]
    exact hquiet
  · rw [(hgranted.shadows id).fields.2.1, advanceLoad_eq (recordInUse_of_active hactive),
      goToStep_written r _ ((hview' []).flag.trans hflag), hwritten id b horigin hb hid]

/-- Settles O32: each step's DONE takes the next counted step; a withdrawn one moves its load on. -/
theorem loadStepsFollowTheCount : Obligations.LoadStepsFollowTheCount := by
  unfold Obligations.LoadStepsFollowTheCount
  refine ⟨?_, ?_⟩
  · intro derate acks data s t slot r hone hbounded hbus hidle hslot hcls hne hdir hstale hr hstate hawaited hhold hflag hacks c s'
    have hdone := transactionOutcome_write (data := data) hdir hacks
    refine ⟨_, exec_transactionEnd_done hbus hidle hdone, ?_⟩
    obtain ⟨hothers, hgone, hcs⟩ := ended_beside (resp := .complete acks data) (derate := derate) hone hbus hslot .done
      (deliveredBytes t (.complete acks data))
    obtain ⟨hgoes, hquiet, hwritten⟩ := loadStep_done (derate := derate) ⟨hbounded, hbus, hslot, hstale, hr, hawaited, hhold⟩
      hcls hne hstate hflag hdone rfl
    refine ⟨fun i hi => ?_, fun i hi _ => ?_, fun hi => ?_, fun hi => ?_, hquiet, hwritten, hgone, hothers, hcs⟩ <;>
    · rw [show s.ctxs[slot].cursor = _ from hi] at hgoes
      exact hgoes
  · intro derate s ch rest slot r i w x hone hbounded hmsg hdiffers hx hid horigin hslot hr hstate hcursor hawaited hhold hflag hids
    have hinv := takeProfileChange_invalidates (s := announced derate rest s) (invalidates_of_differs hdiffers)
    have hlost := withdraw_step (ch := ch) (s := announced derate rest s) (w := w) hone hx hid horigin hslot hawaited
    have hctx : (stepLost slot x ch (announced derate rest s)).ctxs[slot] = withdrawnCtx x s.ctxs[slot] := stepLost_ctx ..
    have hview : LoadView slot (s.ctxs[slot].profileList.drop (i + 1)) { s with pins := { s.pins with derate := derate } }
      (stepLost slot x ch (announced derate rest s)) := loadView_stepLost hids
    have hbm : (shadowLost ch (announced derate rest s)).bm = s.bm := (shadowLost_keeps ..).1
    have hqueue : (stepLost slot x ch (announced derate rest s)).bm.queue = (withdrawn x (shadowLost ch (announced derate rest s))).bm.queue := rfl
    have hevolves := (evolves_stepLost slot x ch (announced derate rest s)).trans
      (evolves_advanceLoad slot (stepLost slot x ch (announced derate rest s)))
    have hkept : OtherSlotsKept slot s (shadowLost ch (announced derate rest s))
        ∧ (shadowLost ch (announced derate rest s)).cs = s.cs := by
      obtain ⟨-, hctxs, hcs, -⟩ := shadowLost_keeps ch (announced derate rest s)
      exact ⟨fun j _ => by rw [hctxs]; rfl, hcs⟩
    have hactive : activeRecord (stepLost slot x ch (announced derate rest s)) slot = some r :=
      (activeRecord_congr (s := s) hview.cs slot).trans hr
    have hin : x ∈ (shadowLost ch (announced derate rest s)).bm.queue := by rw [hbm]; exact hx
    have hnextId : (stepLost slot x ch (announced derate rest s)).bm.nextId = s.bm.nextId := (withdrawn_nextId ..).trans (by rw [hbm])
    refine ⟨fun hbus hw hb => ?_, fun hbus hb hw => ?_⟩
    · refine ⟨_, exec_profileActivation hmsg, ?_⟩
      have htaken : takeProfileChange ch (announced derate rest s) = advanceLoad slot (stepLost slot x ch (announced derate rest s)) := by
        rw [hinv, ← hlost]
        exact congrArg₂ (fun a b => withdraw a (withdraw b (shadowLost ch (announced derate rest s)))) hb hw
      rw [htaken]
      have hgranted := granted_decideIfEnqueued s (advanceLoad slot (stepLost slot x ch (announced derate rest s)))
      obtain ⟨hothers, hcs, hgone⟩ := hevolves.slotBeside.granted hgranted
      have hready : LoadReady slot (stepLost slot x ch (announced derate rest s)) := by
        refine ⟨by rw [hctx]; exact hstate, by rw [hctx]; rfl, by rw [hctx, withdrawnCtx, hbus]; exact hhold, ?_⟩
        rw [hqueue]
        exact (withdrawn_room hbus hin).trans_le (by rw [hbm]; exact hbounded.1)
      have hgoes := advanceLoad_taken (s := { s with pins := { s.pins with derate := derate } })
        (by rw [hctx, show (withdrawnCtx x s.ctxs[slot]).cursor = .profile i from hcursor]; exact hview) hready hactive hflag hgranted
      rw [hctx, show (withdrawnCtx x s.ctxs[slot]).cursor = .profile i from hcursor] at hgoes
      refine ⟨hgoes, hgranted.gone ((evolves_advanceLoad slot _).gone ?_ ?_), fun j hj => (hothers j hj).trans (hkept.1 j hj),
        hcs.trans hkept.2⟩
      · rw [hnextId, ← hid]
        exact hone.2.1 x hx
      · rw [hqueue, ← hid]
        exact not_mem_withdrawn hbus
    · refine ⟨_, exec_profileActivation hmsg, ?_⟩
      have htaken : takeProfileChange ch (announced derate rest s) = advanceLoad slot (stepLost slot x ch (announced derate rest s)) := by
        rw [hinv, ← hlost]
        exact congrArg₂ (fun a b => withdraw a (withdraw b (shadowLost ch (announced derate rest s)))) hb hw
      have hhold' : (stepLost slot x ch (announced derate rest s)).ctxs[slot].staleHold = some x.id := by
        rw [hctx, withdrawnCtx, hbus]
        rfl
      obtain ⟨hstays, hawaits, hnext, p, hpq, hp⟩ := goToStep_held (afterStep (stepLost slot x ch (announced derate rest s)) slot
        (stepLost slot x ch (announced derate rest s)).ctxs[slot].cursor) hactive (by rw [hhold']; rfl)
      rw [← advanceLoad_eq (recordInUse_of_active hactive), ← htaken] at hstays hawaits hnext hpq
      rw [decideIfEnqueued_same (hnext.trans hnextId)]
      rw [← htaken] at hevolves
      obtain ⟨hothers, hcs, -⟩ := hevolves.slotBeside
      obtain ⟨hmarked, hlength, hfrom⟩ := withdrawn_onBus hbus hin
      rw [hqueue] at hpq
      rw [hbm] at hlength hfrom
      have hnotRaw : waitingRawWrite r.addr { x with stale := true } = false := by simp [waitingRawWrite, hbus]
      refine ⟨hstays.trans (hhold'.trans (congrArg some hid)), hawaits.trans (by rw [hctx]; rfl),
        ⟨{ x with stale := true }, ?_, hid, rfl, hbus⟩, hnext.trans hnextId, fun y hy => ?_, fun hnone => ?_,
        fun j hj => (hothers j hj).trans (hkept.1 j hj), hcs.trans hkept.2⟩
      · rw [hpq]
        refine List.mem_filter.2 ⟨hmarked, ?_⟩
        rw [Bool.not_eq_true', Bool.eq_false_iff]
        exact fun hpurged => absurd (hnotRaw.symm.trans (hp _ hpurged)) nofun
      · rw [hpq] at hy
        exact hfrom y (List.mem_filter.1 hy).1
      · rw [hpq, ← hlength]
        refine congrArg List.length (List.filter_eq_self.2 fun y hy => ?_)
        obtain ⟨z, hz, hyz⟩ := hfrom y hy
        rw [Bool.not_eq_true', Bool.eq_false_iff]
        intro hpurged
        have hraw := hp y hpurged
        rw [hyz] at hraw
        exact absurd ((hnone z hz).symm.trans hraw) nofun

end Sys2Proof.Machine
end

section
/-! Profile activations (O20): a shadow kept, or invalidated with the pass's writes its references name. -/

namespace Sys2Proof.Machine

section
variable {s : State} {ref : Option Ref} {id : ProfileId} {b a : Profile}

theorem invalidates_of_same (hslot : b.header.slot = a.header.slot) (hparam : b.header.param = a.header.param)
    (hwidth : b.header.width = a.header.width) (horder : b.header.order = a.header.order) :
    invalidates (some b) (some a) = false := by
  simp [invalidates, hslot, hparam, hwidth, horder]

theorem takeProfileChange_kept (hslot : b.header.slot = a.header.slot) (hparam : b.header.param = a.header.param)
    (hwidth : b.header.width = a.header.width) (horder : b.header.order = a.header.order) (s : State) :
    takeProfileChange ⟨id, some b, some a⟩ s = keepProfile id (some a) s := by
  unfold takeProfileChange
  dsimp only
  rw [invalidates_of_same hslot hparam hwidth horder]
  rfl

/-- The queued transfers a reference names are writes of a pass for the profile, all on the bus or all waiting. -/
def NamesWrites (ref : Option Ref) (id : ProfileId) (onBus : Bool) (s : State) : Prop :=
  ∀ w, ref = some w → ∀ x ∈ s.bm.queue, x.id = w.id → x.origin = .profile id ∧ x.onBus = onBus

theorem namedBy_iff {i : Nat} : namedBy i ref = true ↔ ∃ w, ref = some w ∧ i = w.id := by
  cases ref with
  | none => simp [namedBy]
  | some w => simp [namedBy, eq_comm (a := i)]

/-- A reference that names no queued transfer or a pass's write: the write alone is withdrawn. -/
theorem withdraw_write {onBus : Bool} (h : NamesWrites ref id onBus s) :
    (withdraw ref s = s ∧ ∀ x ∈ s.bm.queue, namedBy x.id ref = false)
      ∨ ∃ w, ref = some w ∧ withdraw ref s = if onBus then markStale w.id s else depart w.id s := by
  cases ref with
  | none => exact .inl ⟨rfl, fun x _ => rfl⟩
  | some w =>
    cases hfound : transferById s w.id with
    | none =>
      refine .inl ⟨by simp only [withdraw, hfound], fun x hx => Bool.eq_false_iff.2 fun hnamed => ?_⟩
      obtain ⟨w', hw, hid⟩ := namedBy_iff.1 hnamed
      cases hw
      exact absurd (beq_iff_eq.2 hid) (List.find?_eq_none.1 hfound x hx)
    | some x =>
      obtain ⟨horigin, hbus⟩ := h w rfl x (List.mem_of_find?_eq_some hfound) (by simpa using List.find?_some hfound)
      refine .inr ⟨w, rfl, ?_⟩
      simp only [withdraw, hfound, stepWithdrawn, horigin, hbus]

/-- The withdrawal of a waiting write: what the reference names has left the queue (R54). -/
theorem withdraw_waiting (h : NamesWrites ref id false s) : ∃ departures, withdraw ref s = { s with
    bm := { s.bm with queue := s.bm.queue.filter fun x => !namedBy x.id ref }
    msgs := { s.msgs with departures := departures } } := by
  rcases withdraw_write h with ⟨hsame, hnone⟩ | ⟨w, rfl, hgone⟩
  · refine ⟨s.msgs.departures, ?_⟩
    rw [hsame, List.filter_eq_self.2 fun x hx => by rw [hnone x hx]; rfl]
  · refine ⟨(depart w.id s).msgs.departures, hgone.trans ?_⟩
    have hkept : (fun x : Transfer => !(x.id == w.id)) = fun x => !namedBy x.id (some w) := by
      funext x
      simp [namedBy, Bool.beq_comm]
    rw [← hkept]
    rfl

/-- The withdrawal of a write on the bus: what the reference names is stale (R54). -/
theorem withdraw_onBus (h : NamesWrites ref id true s) : withdraw ref s = { s with
    bm := { s.bm with queue := s.bm.queue.map fun x => if namedBy x.id ref then { x with stale := true } else x } } := by
  rcases withdraw_write h with ⟨hsame, hnone⟩ | ⟨w, rfl, hstale⟩
  · have hmap : (s.bm.queue.map fun x => if namedBy x.id ref then { x with stale := true } else x) = s.bm.queue :=
      (List.map_congr_left fun x hx => if_neg (by rw [hnone x hx]; nofun)).trans (List.map_id _)
    rw [hsame, hmap]
  · refine hstale.trans ?_
    have hmap : (s.bm.queue.map fun x => if namedBy x.id (some w) then { x with stale := true } else x)
        = s.bm.queue.map fun y => if y.id = w.id then if y.onBus then { y with stale := true } else y else y := by
      refine List.map_congr_left fun x hx => ?_
      by_cases hid : x.id = w.id
      · rw [if_pos hid, if_pos (namedBy_iff.2 ⟨w, rfl, hid⟩), if_pos (h w rfl x hx hid).2]
      · rw [if_neg hid, if_neg fun hnamed => ?_]
        obtain ⟨w', hw, hid'⟩ := namedBy_iff.1 hnamed
        cases hw
        exact hid hid'
    rw [hmap]
    rfl

end

/-- Settles O20: the shadow is kept with its writes, or is as after reset with its writes withdrawn. -/
theorem profileActivationKeepsOrInvalidatesShadow : Obligations.ProfileActivationKeepsOrInvalidatesShadow := by
  unfold Obligations.ProfileActivationKeepsOrInvalidatesShadow
  refine ⟨fun derate s id b a rest hmsg hslot hparam hwidth horder => ?_, fun derate s ch rest hmsg hdiffers hwaiting honBus => ?_⟩
  · have hexec := exec_profileActivation (derate := derate) hmsg
    rw [takeProfileChange_kept hslot hparam hwidth horder] at hexec
    by_cases henabled : a.header.enabled = true
    · rw [show keepProfile id (some a) (announced derate rest s) = announced derate rest s from if_pos henabled] at hexec
      refine ⟨announced derate rest s, hexec.trans (congrArg Host.Outcome.next (decideIfEnqueued_same rfl)), ?_⟩
      rw [if_pos henabled]
      exact ⟨rfl, fun _ _ => rfl, rfl, rfl, rfl, rfl, rfl, rfl, rfl, rfl⟩
    · rw [show keepProfile id (some a) (announced derate rest s) = modShadow id (fun sh => { sh with deferred := false })
        (announced derate rest s) from if_neg henabled] at hexec
      refine ⟨modShadow id (fun sh => { sh with deferred := false }) (announced derate rest s),
        hexec.trans (congrArg Host.Outcome.next (decideIfEnqueued_same rfl)), ?_⟩
      rw [if_neg henabled]
      refine ⟨?_, fun j hj => ?_, rfl, rfl, rfl, rfl, rfl, rfl, rfl, rfl⟩ <;> rw [modShadow, setShadow_get]
      · exact if_pos rfl
      · exact if_neg hj
  · have hexec := exec_profileActivation (derate := derate) hmsg
    rw [takeProfileChange_invalidates (invalidates_of_differs hdiffers)] at hexec
    obtain ⟨hbm, hctxs, hcs, -, hhl, hnu, hlatches, htrims⟩ := shadowLost_keeps ch (announced derate rest s)
    have hshadow := shadowLost_shadow ch (announced derate rest s)
    rw [trimmed_trims] at htrims
    generalize shadowLost ch (announced derate rest s) = v at hexec hbm hctxs hcs hhl hnu hlatches htrims hshadow
    replace hbm : v.bm = s.bm := hbm
    obtain ⟨departures, hgone⟩ := withdraw_waiting (s := v) (ref := s.ce.shadows[ch.id].waiting) (id := ch.id)
      fun w hw x hx hid => hwaiting w hw x (by rw [← hbm]; exact hx) hid
    have hstale := withdraw_onBus (s := withdraw s.ce.shadows[ch.id].waiting v) (ref := s.ce.shadows[ch.id].onBus) (id := ch.id)
      fun w hw x hx hid => honBus w hw x (by rw [hgone, hbm] at hx; exact List.mem_of_mem_filter hx) hid
    rw [show (announced derate rest s).ce.shadows = s.ce.shadows from rfl, hstale, hgone, decideIfEnqueued_same (by
      change v.bm.nextId = _
      rw [hbm])] at hexec
    refine ⟨_, hexec, (hshadow ch.id).trans (if_pos rfl), fun j hj => (hshadow j).trans (if_neg hj), htrims, fun w hw x hx => ?_,
      fun w hw x hx hid => ?_, fun x hx hnotWaiting hnotBus => ?_, hlatches, hctxs, hcs, hhl, hnu⟩
    · obtain ⟨y, hy, rfl⟩ := List.mem_map.1 hx
      have hnot := (List.mem_filter.1 hy).2
      intro hid
      have hidy : y.id = w.id := by rw [← hid]; split <;> rfl
      rw [namedBy_iff.2 ⟨w, hw, hidy⟩] at hnot
      exact absurd hnot nofun
    · obtain ⟨y, hy, rfl⟩ := List.mem_map.1 hx
      have hidy : y.id = w.id := by rw [← hid]; split <;> rfl
      rw [if_pos (namedBy_iff.2 ⟨w, hw, hidy⟩)]
    · refine List.mem_map.2 ⟨x, List.mem_filter.2 ⟨by rw [hbm]; exact hx, ?_⟩, if_neg fun hnamed => ?_⟩
      · rw [Bool.not_eq_true', Bool.eq_false_iff]
        intro hnamed
        obtain ⟨w, hw, hid⟩ := namedBy_iff.1 hnamed
        exact hnotWaiting w hw hid
      · obtain ⟨w, hw, hid⟩ := namedBy_iff.1 hnamed
        exact hnotBus w hw hid

end Sys2Proof.Machine
end

section
/-! A step that waited is placed (R69, R83), and stale transfers end without retry and release the hold (O34). -/

namespace Sys2Proof.Machine

section
variable {s t m u : State} {x : Transfer} {slot : Slot} {r : TargetRecord} {k : Nat} {ids : List ProfileId}

/-! ### The step that waited -/

theorem resumeStep_probing (hidle : m.ctxs[slot].awaited = none) (hstate : m.ctxs[slot].state = .probing) :
    resumeStep slot m = placeIdentity slot m := by
  simp only [resumeStep, hidle, hstate]
  rfl

theorem resumeStep_inService (hidle : m.ctxs[slot].awaited = none) (hstate : m.ctxs[slot].state = .inService) :
    resumeStep slot m = placeCheck slot m := by
  simp only [resumeStep, hidle, hstate]
  rfl

theorem resumeStep_loading (hidle : m.ctxs[slot].awaited = none) (hstate : m.ctxs[slot].state = .loading)
    (hr : recordInUse m slot = some r) :
    resumeStep slot m = goToStep slot r (presentStep m slot m.ctxs[slot].cursor) m := by
  simp only [resumeStep, hidle, hstate, resumeLoad, hr]
  rfl

theorem resumeStep_awaiting (h : m.ctxs[slot].awaited.isSome = true) : resumeStep slot m = m := if_pos h

theorem resumeStep_idle (h : m.ctxs[slot].state ≠ .probing ∧ m.ctxs[slot].state ≠ .loading
    ∧ (m.ctxs[slot].state = .inService → m.ctxs[slot].checkStep = .idle)) : resumeStep slot m = m := by
  obtain ⟨hprobing, hloading, hcheck⟩ := h
  unfold resumeStep
  split
  · rfl
  · split
    · next hstate => exact absurd hstate hprobing
    · next hstate => exact absurd hstate hloading
    · next hstate =>
      simp only [placeCheck, hcheck hstate]
      split <;> rfl
    · rfl

theorem presentStep_profile {id : ProfileId} (hid : m.ctxs[slot].profileList[k]? = some id) (hserves : profileServes m slot id = true) :
    presentStep m slot (.profile k) = .profile k := by
  obtain ⟨hk, hget⟩ := List.getElem?_eq_some_iff.1 hid
  have hdrop : m.ctxs[slot].profileList.drop k = [] ++ id :: m.ctxs[slot].profileList.drop (k + 1) := by
    rw [List.drop_eq_getElem_cons hk, hget, List.nil_append]
  change fromProfile m slot k = _
  rw [fromProfile, hdrop, firstServing_append (fun b hb => absurd hb List.not_mem_nil) hserves]
  rfl

/-- A step enqueued for a slot whose state it keeps. -/
theorem placeIdentity_of_room {c : IdentityCheck} (hr : recordInUse m slot = some r) (hc : r.identity = some c)
    (hfree : m.ctxs[slot].staleHold = none) (hroom : m.bm.queue.length < 32) :
    (placeIdentity slot m).ctxs[slot].state = m.ctxs[slot].state ∧ (placeIdentity slot m).ctxs[slot].roomMark = false
      ∧ Placed (placeIdentity slot m) slot .identity .read r.addr c.reg [] 1 0 := by
  have hself := modCtx_get_self slot (fun x => { x with probe := some c }) m
  have heq : placeIdentity slot m = enqueueStep slot (readRequest .identity slot r.addr c.reg)
      (modCtx slot (fun x => { x with probe := some c }) m) :=
    (placeIdentity_eq hr hc).trans (placeStep_of_room (by rw [hself]; exact hfree) hroom)
  rw [heq, enqueueStep_ctx, hself]
  exact ⟨rfl, rfl, placed_enqueueStep (r := readRequest .identity slot r.addr c.reg) rfl⟩

theorem placeCheck_of_room {o : Origin} {reg : Byte} (hr : recordInUse m slot = some r)
    (hreads : CheckReads r m.ctxs[slot].checkStep o reg) (hfree : m.ctxs[slot].staleHold = none) (hroom : m.bm.queue.length < 32) :
    (placeCheck slot m).ctxs[slot].state = m.ctxs[slot].state ∧ Placed (placeCheck slot m) slot o .read r.addr reg [] 1 0 := by
  rw [placeCheck_eq hr hreads, placeStep_of_room hfree hroom, enqueueStep_ctx]
  exact ⟨rfl, placed_enqueueStep (r := readRequest o slot r.addr reg) rfl⟩

/-- The part in which a slot's step is retried shows the slot as it was, but for the hold. -/
structure Retried (slot : Slot) (r : TargetRecord) (s m : State) : Prop where
  view : ∀ ids, LoadView slot ids s m
  ctx : ∃ hold, m.ctxs[slot] = { s.ctxs[slot] with staleHold := hold }
  record : activeRecord s slot = some r
  idle : m.ctxs[slot].awaited = none
  free : m.ctxs[slot].staleHold = none
  room : m.bm.queue.length < 32

theorem Retried.activeRecord (h : Retried slot r s m) : activeRecord m slot = some r :=
  (activeRecord_congr (h.view []).cs slot).trans h.record

theorem Retried.taken (h : Retried slot r s m) (hstate : s.ctxs[slot].state = .loading) {step : LoadStep}
    (hcursor : s.ctxs[slot].cursor = step) (hpresent : presentStep m slot step = step) (hne : step ≠ .finish)
    (hshown : StillShown slot (resumeStep slot m) u) : StepTaken s u slot r s.ctxs[slot] step := by
  obtain ⟨hold, hctx⟩ := h.ctx
  have hstate' : m.ctxs[slot].state = .loading := by rw [hctx]; exact hstate
  have hcursor' : m.ctxs[slot].cursor = step := by rw [hctx]; exact hcursor
  rw [resumeStep_loading h.idle hstate' (recordInUse_of_active h.activeRecord), hcursor', hpresent] at hshown
  have hserves : CursorServes m slot step := hpresent ▸ cursorServes_presentStep step
  have htaken := (goToStep_taken (k := 0) (h.view _) ⟨hstate', h.idle, h.free, h.room⟩ h.activeRecord fun j _ => Nat.zero_le j).still
    ((slotWork_goToStep r m hserves).cs.trans (h.view []).cs) hshown fun hfinish => absurd hfinish hne
  rw [hctx] at htaken
  cases step <;> exact htaken

/-- The step a slot waited with is placed. -/
theorem stepResumed_of_retried (h : Retried slot r s m) (hshown : StillShown slot (resumeStep slot m) u) :
    StepResumed s u slot r := by
  obtain ⟨hold, hctx⟩ := h.ctx
  have huse := recordInUse_of_active h.activeRecord
  have hprobing (hstate : s.ctxs[slot].state = .probing) : resumeStep slot m = placeIdentity slot m :=
    resumeStep_probing h.idle (by rw [hctx]; exact hstate)
  have hchecking (hstate : s.ctxs[slot].state = .inService) : resumeStep slot m = placeCheck slot m :=
    resumeStep_inService h.idle (by rw [hctx]; exact hstate)
  refine ⟨fun c hstate hc => ?_, fun j e hstate hcursor he => ?_, fun j id p ti hstate hcursor hid hserves hp hti hflag => ?_,
    fun l hstate hcursor hl => ?_, fun w hstate hcursor hw => ?_, fun w hstate hcheck hw => ?_, fun c hstate hcheck hc => ?_⟩
  · obtain ⟨hsame, hmark, hplaced⟩ := placeIdentity_of_room huse hc h.free h.room
    rw [← hprobing hstate] at hsame hmark hplaced
    rw [hshown.ctx]
    exact ⟨hsame.trans (by rw [hctx]; exact hstate), hmark, hplaced.still nofun hshown⟩
  · exact h.taken hstate hcursor rfl nofun hshown e he
  · obtain ⟨q, hq, -, hslot⟩ := profileServes_iff.1 hserves
    cases hq.symm.trans hp
    have hpresent : presentStep m slot (.profile j) = .profile j :=
      presentStep_profile (id := id) (by rw [hctx]; exact hid) (by rw [profileServes_congr (h.view []).cs slot]; exact hserves)
    obtain ⟨hat, hplaced, hreference, -⟩ := h.taken hstate hcursor hpresent nofun hshown id p ti hid hp hslot hti hflag
    exact ⟨hat, hplaced, hreference⟩
  · exact h.taken hstate hcursor rfl nofun hshown l hl
  · exact h.taken hstate hcursor rfl nofun hshown w hw
  · obtain ⟨hsame, hplaced⟩ := placeCheck_of_room huse (.inl ⟨by rw [hctx]; exact hcheck, rfl, w, hw, rfl⟩) h.free h.room
    rw [← hchecking hstate] at hsame hplaced
    rw [hshown.ctx]
    exact ⟨hsame.trans (by rw [hctx]; exact hstate), hplaced.still nofun hshown⟩
  · obtain ⟨hsame, hplaced⟩ := placeCheck_of_room huse (.inr ⟨by rw [hctx]; exact hcheck, rfl, c, hc, rfl⟩) h.free h.room
    rw [← hchecking hstate] at hsame hplaced
    rw [hshown.ctx]
    exact ⟨hsame.trans (by rw [hctx]; exact hstate), hplaced.still nofun hshown⟩

/-! ### The hold and the shadows -/

/-- A step that waited leaves the stale hold as it finds it. -/
theorem resumeStep_staleHold (slot : Slot) (m : State) : (resumeStep slot m).ctxs[slot].staleHold = m.ctxs[slot].staleHold := by
  unfold resumeStep
  split
  · rfl
  · split
    · rcases placeIdentity_cases slot m with h | ⟨r, c, -, -, h⟩ <;> rw [h]
      obtain ⟨awaited, mark, hctx⟩ := placeStep_ctx slot true (readRequest .identity slot r.addr c.reg)
        (modCtx slot (fun x => { x with probe := some c }) m)
      rw [hctx, modCtx_get_self]
    · unfold resumeLoad
      split
      · rfl
      · next r _ =>
        by_cases hstep : presentStep m slot m.ctxs[slot].cursor = .finish
        · rw [hstep, goToStep_finish_ctx]
          rfl
        · obtain ⟨awaited, mark, hctx⟩ := goToStep_ctx slot r hstep m
          rw [hctx]
    · obtain ⟨awaited, mark, hctx⟩ := placeCheck_ctx slot m
      rw [hctx]
    · rfl

/-- Outside a load a step that waited touches no shadow. -/
theorem resumeStep_ce (h : m.ctxs[slot].state ≠ .loading) : (resumeStep slot m).ce = m.ce := by
  unfold resumeStep
  split
  · rfl
  · split
    · rcases placeIdentity_cases slot m with h | ⟨r, c, -, -, h⟩ <;> rw [h]
      rw [placeStep_ce]
      rfl
    · next hstate => exact absurd hstate h
    · rcases placeCheck_cases slot m with h | ⟨q, -, h⟩ <;> rw [h]
      exact placeStep_ce ..
    · rfl

/-! ### Stale transfers -/

theorem profileOutcome_stale (id : ProfileId) (i : Nat) (out : BusOutcome) (s : State) : profileOutcome id i true out s = (s, false) := rfl

theorem latchOutcome_stale (slot : Slot) (i : Nat) (out : BusOutcome) (s : State) : latchOutcome slot i true out s = (s, false) := rfl

theorem compensateOutcome_stale (hstale : x.stale = true) (out : BusOutcome) (s : State) : compensateOutcome x out s = s := by
  unfold compensateOutcome
  split
  · rw [hstale, profileOutcome_stale]
  · rw [hstale, latchOutcome_stale]
  · rfl

theorem stepOutcome_stale (hstale : x.stale = true) (out : BusOutcome) (bytes : List Byte) :
    stepOutcome x slot out bytes s = if s.ctxs[slot].staleHold = some x.id
      then resumeStep slot (modCtx slot (fun c => { c with staleHold := none }) s) else s := by
  unfold stepOutcome
  dsimp only
  split
  · rfl
  · rw [hstale]
    exact if_pos rfl

/-- What a stale outcome means to its owner (R123): a step's release of the hold, else nothing. -/
theorem deliver_stale (hslot : x.slot = some slot) (hauto : x.automatic = true) (hstale : x.stale = true) (out : BusOutcome)
    (bytes : List Byte) : deliver x out bytes s = if s.ctxs[slot].staleHold = some x.id ∧ x.cls ≠ .compensate
      then resumeStep slot (modCtx slot (fun c => { c with staleHold := none }) s) else s := by
  unfold deliver
  rw [hslot]
  cases hcls : x.cls with
  | compensate =>
    rw [if_neg fun h => h.2 rfl]
    exact compensateOutcome_stale hstale out s
  | manual => simp [Transfer.automatic, hcls] at hauto
  | restore =>
    refine (stepOutcome_stale hstale out bytes).trans ?_
    simp
  | check =>
    refine (stepOutcome_stale hstale out bytes).trans ?_
    simp

theorem quietAfter_stale (hstale : x.stale = true) (out : BusOutcome) (s : State) : quietAfter x out s = s.bm.quiet := by
  unfold quietAfter startQuiet
  split
  · split
    · rfl
    · exact congrArg (fun v : State => v.bm.quiet) (if_neg fun h => Bool.noConfusion (hstale.symm.trans (show x.stale = false from h.2)))
  · rfl

theorem retried_stale (hstale : x.stale = true) (s : State) : retried s (counted x) = false := by
  simp [retried, show (counted x).stale = true from hstale]

theorem evolves_deliver_stale (hauto : x.automatic = true) (hstale : x.stale = true) (out : BusOutcome) (bytes : List Byte)
    (s : State) : Evolves Set.univ s (deliver x out bytes s) := by
  cases hslot : x.slot with
  | some slot =>
    rw [deliver_stale hslot hauto hstale]
    split
    · exact ((evolves_modCtx slot _ s).trans (evolves_resumeStep slot _)).mono (Set.subset_univ _)
    · rfl
  | none =>
    unfold deliver
    cases hcls : x.cls with
    | compensate => exact (compensateOutcome_stale hstale out s).symm ▸ Relation.ReflTransGen.refl
    | manual => simp [Transfer.automatic, hcls] at hauto
    | restore => rw [hslot]
    | check => rw [hslot]

/-! ### The end of a recovery sequence -/

/-- The part at the end of a recovery sequence, its pulses on the wire record (R119; log 29). -/
def recoveryEnded (run : RecoveryRun) (derate : Bool) (s : State) : State :=
  { sampleDerate derate s with bm := { s.bm with recovering := false, wire := recoveryWire run } }

theorem exec_recoverySequenceEnd_released {run : RecoveryRun} {derate : Bool} (h : s.bm.recovering = true) (hcond : s.bm.cond = .ready)
    (hreleased : lineReleased run = true) :
    exec (.recoverySequenceEnd run derate) s = .next (grantDecision (settleReleased (recoveryEnded run derate s))) := by
  change execRecoverySequenceEnd run derate s = _
  unfold execRecoverySequenceEnd endRecovery
  rw [if_pos h, show (sampleDerate derate s).bm.cond = .ready from hcond, hreleased]
  rfl

theorem exec_recoverySequenceEnd_stuck {run : RecoveryRun} {derate : Bool} (h : s.bm.recovering = true) (hcond : s.bm.cond = .ready)
    (hreleased : lineReleased run = false) :
    exec (.recoverySequenceEnd run derate) s = .next (enterBusFault (recoveryEnded run derate s)) := by
  change execRecoverySequenceEnd run derate s = _
  unfold execRecoverySequenceEnd endRecovery
  rw [if_pos h, show (sampleDerate derate s).bm.cond = .ready from hcond, hreleased]
  rfl

theorem settleReleased_stale (hbus : onBusTransfer s = some x) (hstale : x.stale = true) :
    settleReleased s = finish x .busStuck [] s := by
  simp only [settleReleased, hbus, hstale, if_true]

theorem enterBusFault_eq (hbus : onBusTransfer s = some x) : enterBusFault s
    = postNotice .fault (.busFault 1 x.cls x.slot x.addr (answeredManuals x (settleStuck x (faultCondition s))))
      (faultManuals (settleStuck x (faultCondition s))) := by
  simp only [enterBusFault, hbus]

theorem evolves_faultManuals (s : State) : Evolves Set.univ s (faultManuals s) :=
  (evolves_departWhere waitingManual s).trans (evolves_faultAll _ _)

end

/-- The second part of O34: a stale transfer at the end of a recovery sequence. -/
theorem staleAtRecovery_leaves {derate : Bool} {run : RecoveryRun} {s : State} {t : Transfer} (hone : OneOnBus s)
    (hbus : onBusTransfer s = some t) (hrecovering : s.bm.recovering = true) (hready : s.bm.cond = .ready)
    (hauto : t.automatic = true) (hstale : t.stale = true) :
    Gives (.recoverySequenceEnd run derate) s (fun u => (∀ x ∈ u.bm.queue, x.id ≠ t.id) ∧ u.cs = s.cs ∧ u.mu = s.mu) := by
  have hfinish (v : State) (hid : v.bm.nextId = s.bm.nextId) (hcs : v.cs = s.cs) (hmu : v.mu = s.mu) :
      (∀ x ∈ (finish t .busStuck [] v).bm.queue, x.id ≠ t.id) ∧ t.id < (finish t .busStuck [] v).bm.nextId
        ∧ (finish t .busStuck [] v).cs = s.cs ∧ (finish t .busStuck [] v).mu = s.mu := by
    have hevolves := evolves_deliver_stale hauto hstale .busStuck [] (depart t.id v)
    have hbelow : t.id < (depart t.id v).bm.nextId := by
      change t.id < v.bm.nextId
      rw [hid]
      exact hone.2.1 t (mem_onBusTransfer hbus).1
    exact ⟨hevolves.gone hbelow fun y hy => not_mem_depart hy, hbelow.trans_le hevolves.queueFrom.1, hevolves.framed.cs.trans hcs,
      hevolves.framed.mu.trans hmu⟩
  cases hreleased : lineReleased run with
  | true =>
    refine ⟨_, exec_recoverySequenceEnd_released hrecovering hready hreleased, ?_⟩
    rw [settleReleased_stale (s := recoveryEnded run derate s) (x := t) hbus hstale]
    obtain ⟨hgone, -, hcs, hmu⟩ := hfinish (recoveryEnded run derate s) rfl rfl rfl
    have hgranted := granted_grantDecision (finish t .busStuck [] (recoveryEnded run derate s))
    exact ⟨hgranted.gone hgone, hgranted.cs.trans hcs, hgranted.mu.trans hmu⟩
  | false =>
    refine ⟨_, exec_recoverySequenceEnd_stuck hrecovering hready hreleased, ?_⟩
    rw [enterBusFault_eq (s := recoveryEnded run derate s) (x := t) hbus]
    have hsettled : settleStuck t (faultCondition (recoveryEnded run derate s))
        = finish t .busStuck [] (faultCondition (recoveryEnded run derate s)) := if_pos hstale
    rw [hsettled]
    obtain ⟨hgone, hbelow, hcs, hmu⟩ := hfinish (faultCondition (recoveryEnded run derate s)) rfl rfl rfl
    have hevolves := evolves_faultManuals (finish t .busStuck [] (faultCondition (recoveryEnded run derate s)))
    exact ⟨hevolves.gone hbelow hgone, hevolves.framed.cs.trans hcs, hevolves.framed.mu.trans hmu⟩

/-- Settles O34. -/
theorem staleOutcomesReleaseTheHold : Obligations.StaleOutcomesReleaseTheHold := by
  unfold Obligations.StaleOutcomesReleaseTheHold
  refine ⟨?_, fun derate run s t => staleAtRecovery_leaves⟩
  intro derate resp s t slot hone hbounded hbus hidle hslot hauto hstale hstuck c
  refine ⟨_, (exec_transactionEnd hbus hidle).trans (congrArg Host.Outcome.next
    (endTransaction_final hstuck (.inr (retried_stale hstale _)))), ?_⟩
  obtain ⟨hothers, hgone, hcs⟩ := ended_beside (resp := resp) (derate := derate) hone hbus hslot (transactionOutcome t resp)
    (deliveredBytes t resp)
  have hroom := concluded_room (resp := resp) (derate := derate) hbounded (mem_onBusTransfer hbus).1
  obtain ⟨-, hce, hctxs, -⟩ := concluded_keeps t resp (sampleDerate derate s)
  have hquiet : (concluded t resp (sampleDerate derate s)).bm.quiet = s.bm.quiet := by
    rw [concluded_eq]
    exact quietAfter_stale hstale _ _
  have hreports : (concluded t resp (sampleDerate derate s)).msgs.tmReports = s.msgs.tmReports := by rw [concluded_eq]; rfl
  have hview (ids : List ProfileId) : LoadView slot ids { s with pins := { s.pins with derate := derate } }
      (concluded t resp (sampleDerate derate s)) := loadView_concluded slot ids t resp (sampleDerate derate s)
  have hdelivered := deliver_stale (x := counted t) (s := concluded t resp (sampleDerate derate s)) hslot hauto hstale
    (transactionOutcome t resp) (deliveredBytes t resp)
  rw [show (concluded t resp (sampleDerate derate s)).ctxs[slot] = c by rw [hctxs]; rfl] at hdelivered
  generalize concluded t resp (sampleDerate derate s) = v at hothers hgone hcs hroom hce hctxs hquiet hreports hview hdelivered ⊢
  have hctx : v.ctxs[slot] = c := by rw [hctxs]; rfl
  have hgranted := granted_grantDecision (deliver (counted t) (transactionOutcome t resp) (deliveredBytes t resp) v)
  have hevolves : Evolves Set.univ v (deliver (counted t) (transactionOutcome t resp) (deliveredBytes t resp) v) :=
    evolves_deliver_stale (x := counted t) hauto hstale ..
  rw [grantDecision_quiet, hgranted.msgs, hevolves.framed.bm, hevolves.framed.msgs]
  generalize grantDecision (deliver (counted t) (transactionOutcome t resp) (deliveredBytes t resp) v) = u at hothers hgone hcs hgranted ⊢
  generalize deliver (counted t) (transactionOutcome t resp) (deliveredBytes t resp) v = d at hdelivered hgranted
  have hself : (modCtx slot (fun c => { c with staleHold := none }) v).ctxs[slot] = { c with staleHold := none } := by
    rw [modCtx_get_self, hctx]
  have hce' : v.ce.shadows = s.ce.shadows := congrArg Ce.shadows hce
  refine ⟨hgone, hquiet, hreports, hothers, hcs, fun hstate id => ?_, fun hcond => ?_, fun hhold hcls => ?_⟩
  · have hshadows : d.ce = v.ce := by
      rw [hdelivered]
      split
      · exact resumeStep_ce (by rw [hself]; exact hstate)
      · rfl
    rw [(hgranted.shadows id).fields.2.1, hshadows, hce']
  · rw [hgranted.ctxs, hdelivered, if_neg fun h => hcond.elim (fun hne => hne h.1) h.2]
    exact hctxs
  · have hkind : (counted t).cls ≠ .compensate := by
      change t.cls ≠ .compensate
      rcases hcls with h | h <;> rw [h] <;> nofun
    rw [if_pos ⟨hhold, hkind⟩] at hdelivered
    rw [hdelivered] at hgranted
    refine ⟨?_, fun hkeeps => ?_, fun r hawaits hr => ?_⟩
    · rw [hgranted.ctxs, resumeStep_staleHold, hself]
    · rw [hgranted.ctxs]
      rcases hkeeps with hsome | hidle
      · rw [resumeStep_awaiting (by rw [hself]; exact hsome), hself]
      · rw [resumeStep_idle (by rw [hself]; exact hidle), hself]
    · have hresumed : StepResumed { s with pins := { s.pins with derate := derate } } u slot r := by
        refine stepResumed_of_retried ⟨fun ids => (hview ids).modCtx ⟨rfl, rfl, rfl⟩, ⟨none, hself⟩, hr, ?_, ?_, hroom⟩
          (hgranted.stillShown slot)
        · rw [hself]
          exact hawaits
        · rw [hself]
      obtain ⟨hprobing, himage, -, -, -, hmarker, hstatus⟩ := hresumed
      refine ⟨fun k hstate hk => ?_, fun k e hstate hcursor he => ?_, fun m hstate hcheck hm => (hmarker m hstate hcheck hm).2,
        fun k hstate hcheck hk => (hstatus k hstate hcheck hk).2⟩
      · obtain ⟨hsame, -, hplaced⟩ := hprobing k hstate hk
        exact ⟨hsame, hplaced⟩
      · obtain ⟨⟨hsame, hcursor', -⟩, hplaced⟩ := himage k e hstate hcursor he
        exact ⟨hsame, hcursor', hplaced⟩

end Sys2Proof.Machine
end

section
/-! Departures from the queue (O26): the steps that wait for room are retried in slot order until one finds the queue
full. -/

namespace Sys2Proof.Machine

section
variable {s t m u : State} {slot i next : Slot} {r q : TargetRecord} {n k : Nat} {slots before after : List Slot}

/-! ### Work on other slots -/

/-- Work on other slots leaves what a slot's step is placed by. -/
structure Elsewhere (slot : Slot) (n : Nat) (s t : State) : Prop where
  shown : StillShown slot s t
  evolves : Evolves Set.univ s t
  flag : t.msgs.ceInvalidate[slot] = s.msgs.ceInvalidate[slot]
  length : t.bm.queue.length ≤ s.bm.queue.length + n

theorem Elsewhere.refl (slot : Slot) (s : State) : Elsewhere slot 0 s s := ⟨.refl slot s, .refl s, rfl, Nat.le_refl _⟩

theorem Elsewhere.trans (h : Elsewhere slot n s t) (h' : Elsewhere slot k t u) : Elsewhere slot (n + k) s u :=
  ⟨h.shown.trans h'.shown, h.evolves.trans h'.evolves, h'.flag.trans h.flag, by have := h.length; have := h'.length; omega⟩

theorem SlotWork.elsewhere (h : SlotWork i n s t) (hi : slot ≠ i) : Elsewhere slot n s t :=
  ⟨h.stillShown hi, h.evolves.mono (Set.subset_univ _), h.flags slot hi, h.length⟩

theorem Elsewhere.view {ids : List ProfileId} {b : State} (h : Elsewhere slot n s t) (hcs : b.cs = s.cs) (hview : LoadView slot ids b s) :
    LoadView slot ids b t :=
  hview.step h.evolves.framed h.flag (by rw [h.shown.ctx]; exact ⟨rfl, rfl, rfl⟩) fun id _ p hp hslot =>
    (h.shown.shadows id p ((activeProfile_congr hcs.symm id).trans hp) hslot).1

/-! ### The retry of the waiting steps -/

theorem waitsForRoom_iff : waitsForRoom s slot = true ↔ s.ctxs[slot].awaited = none ∧ s.ctxs[slot].staleHold = none
    ∧ ((s.ctxs[slot].state = .probing ∧ s.ctxs[slot].roomMark = true) ∨ (s.ctxs[slot].state = .loading ∧ s.ctxs[slot].roomMark = true)
      ∨ (s.ctxs[slot].state = .inService ∧ s.ctxs[slot].checkStep ≠ .idle)) := by
  unfold waitsForRoom
  dsimp only
  cases hstate : s.ctxs[slot].state <;> simp [and_assoc]

theorem waitsForRoom_congr (h : t.ctxs[slot] = s.ctxs[slot]) : waitsForRoom t slot = waitsForRoom s slot := by
  unfold waitsForRoom
  rw [h]

theorem retrySteps_append (h : ∀ i ∈ before, waitsForRoom s i = false) (after : List Slot) :
    retrySteps (before ++ after) s = retrySteps after s := by
  induction before with
  | nil => rfl
  | cons i is ih =>
    obtain ⟨hi, his⟩ := List.forall_mem_cons.1 h
    rw [List.cons_append, retrySteps, if_neg (by rw [hi]; nofun), ih his]

theorem retrySteps_none (h : ∀ i ∈ slots, waitsForRoom s i = false) : retrySteps slots s = s := by
  have happend := retrySteps_append h []
  rwa [List.append_nil] at happend

theorem retrySteps_waiting (h : waitsForRoom s slot = true) (slots : List Slot) : retrySteps (slot :: slots) s
    = if waitsForRoom (resumeStep slot s) slot && queueFull (resumeStep slot s) then resumeStep slot s
      else retrySteps slots (resumeStep slot s) := if_pos h

theorem elsewhere_retrySteps (h : slot ∉ slots) (s : State) : Elsewhere slot slots.length s (retrySteps slots s) := by
  induction slots generalizing s with
  | nil => exact .refl slot s
  | cons i is ih =>
    obtain ⟨hi, his⟩ := not_or.1 (List.mem_cons.not.1 h)
    have hwork := (slotWork_resumeStep i s).elsewhere hi
    have hle {v : State} {a : Nat} (hv : Elsewhere slot a s v) (ha : a ≤ is.length + 1) : Elsewhere slot (is.length + 1) s v :=
      { hv with length := hv.length.trans (Nat.add_le_add_left ha _) }
    rw [List.length_cons]
    cases hwaits : waitsForRoom s i with
    | false =>
      rw [retrySteps, if_neg (by rw [hwaits]; nofun)]
      exact hle (ih his s) (Nat.le_succ _)
    | true =>
      rw [retrySteps_waiting hwaits]
      split
      · exact hle hwork (Nat.le_add_left ..)
      · exact hle (hwork.trans (ih his _)) (Nat.le_of_eq (Nat.add_comm ..))

/-- Behind the retry of one slot the retries of the others show it as it is. -/
theorem stillShown_retryRest (h : waitsForRoom s slot = true) (hnot : slot ∉ slots) :
    StillShown slot (resumeStep slot s) (retrySteps (slot :: slots) s) := by
  rw [retrySteps_waiting h]
  split
  · exact .refl slot _
  · exact (elsewhere_retrySteps hnot _).shown

/-- With room for a step of every slot each waiting one is retried with room. -/
theorem retrySteps_at (hnodup : slots.Nodup) (hmem : slot ∈ slots) (hwaits : waitsForRoom s slot = true)
    (hroom : s.bm.queue.length + slots.length ≤ 32) : ∃ m a, Elsewhere slot a s m ∧ m.bm.queue.length < 32
      ∧ StillShown slot (resumeStep slot m) (retrySteps slots s) := by
  induction slots generalizing s with
  | nil => cases hmem
  | cons i is ih =>
    obtain ⟨hi, his⟩ := List.nodup_cons.1 hnodup
    rw [List.length_cons] at hroom
    by_cases heq : slot = i
    · subst heq
      exact ⟨s, 0, .refl slot s, by omega, stillShown_retryRest hwaits hi⟩
    · have hrest := (List.mem_cons.1 hmem).resolve_left heq
      have hsome := List.length_pos_of_mem hrest
      cases hwaits' : waitsForRoom s i with
      | false =>
        rw [retrySteps, if_neg (by rw [hwaits']; nofun)]
        exact ih his hrest hwaits (by omega)
      | true =>
        have hwork := (slotWork_resumeStep i s).elsewhere heq
        have hlength := hwork.length
        have hopen : queueFull (resumeStep i s) = false := by
          refine decide_eq_false (Nat.not_le.2 (?_ : _ < 32))
          omega
        rw [retrySteps_waiting hwaits', hopen, Bool.and_false, if_neg nofun]
        obtain ⟨m, a, hm, hlt, hshown⟩ := ih his hrest ((waitsForRoom_congr hwork.shown.ctx).trans hwaits) (by omega)
        exact ⟨m, 1 + a, hwork.trans hm, hlt, hshown⟩

/-! ### A step that stands -/

/-- A change of a context that leaves its step as it stands. -/
def SameStep (c d : Ctx) : Prop :=
  d.state = c.state ∧ d.cursor = c.cursor ∧ d.checkStep = c.checkStep ∧ d.awaited = c.awaited ∧ d.staleHold = c.staleHold

/-- A slot's step that stands: enqueued where there is room, and else waiting on with nothing else touched. -/
structure StepAt (slot : Slot) (m t : State) : Prop where
  room : m.bm.queue.length < 32 → ∃ q v, v.bm = m.bm ∧ v.msgs.departures = m.msgs.departures ∧ t = enqueueStep slot q v
  full : 32 ≤ m.bm.queue.length → ∃ d, SameStep m.ctxs[slot] d ∧ (d.roomMark = true ∨ d.state = .inService)
    ∧ t = modCtx slot (fun _ => d) m

theorem modCtx_modCtx (slot : Slot) (f g : Ctx → Ctx) (s : State) :
    modCtx slot g (modCtx slot f s) = modCtx slot (fun _ => g (f s.ctxs[slot])) s := by
  have hself := modCtx_get_self slot f s
  unfold modCtx setCtx at *
  rw [hself]
  simp

theorem stepAt_placeStep {f : Ctx → Ctx} {marks : Bool} (q : Request) (hf : SameStep m.ctxs[slot] (f m.ctxs[slot]))
    (hfree : m.ctxs[slot].staleHold = none) (hmarks : marks = true ∨ m.ctxs[slot].state = .inService) :
    StepAt slot m (placeStep slot marks q (modCtx slot f m)) := by
  obtain ⟨hstate, hcursor, hcheck, hawaited, hhold⟩ := hf
  have hself := modCtx_get_self slot f m
  have hfree' : (modCtx slot f m).ctxs[slot].staleHold = none := by rw [hself, hhold, hfree]
  refine ⟨fun hroom => ⟨q, modCtx slot f m, rfl, rfl, placeStep_of_room hfree' hroom⟩, fun hfull =>
    ⟨{ f m.ctxs[slot] with roomMark := marks }, ⟨hstate, hcursor, hcheck, hawaited, hhold⟩,
      hmarks.imp id fun h => hstate.trans h, ?_⟩⟩
  exact (placeStep_of_full hfree' hfull).trans (modCtx_modCtx ..)

theorem stepAt_placeProfile {f : Ctx → Ctx} (id : ProfileId) (p : Profile) (hf : SameStep m.ctxs[slot] (f m.ctxs[slot]))
    (hfree : m.ctxs[slot].staleHold = none) : StepAt slot m (placeProfile slot r id p (modCtx slot f m)) := by
  obtain ⟨hstate, hcursor, hcheck, hawaited, hhold⟩ := hf
  have hself := modCtx_get_self slot f m
  rcases placeProfile_cases slot r id p (modCtx slot f m) with ⟨h, -⟩ | ⟨hfull, h⟩ | ⟨-, hroom, e, -, h⟩
  · rw [hself, hhold, hfree] at h
    exact absurd h nofun
  · refine ⟨fun hroom => absurd hroom (Nat.not_lt.2 hfull), fun _ =>
      ⟨{ f m.ctxs[slot] with roomMark := true }, ⟨hstate, hcursor, hcheck, hawaited, hhold⟩, .inl rfl, ?_⟩⟩
    exact h.trans (modCtx_modCtx ..)
  · refine ⟨fun _ => ⟨_, _, ?_, ?_, h⟩, fun hfull => absurd hroom (Nat.not_lt.2 hfull)⟩
    · simp
    · have hnoted (w : State) (e : Evaluation) : (recordEvaluation id p e true w).msgs.departures = w.msgs.departures := by
        rw [recordEvaluation_eq]
        rfl
      have hsettled : (settleInvalidation slot (modCtx slot f m)).msgs.departures = m.msgs.departures := by
        unfold settleInvalidation
        split <;> rfl
      exact (hnoted _ e).trans hsettled

theorem stepAt_loading {step : LoadStep} (hr : recordInUse m slot = some r) (hidle : m.ctxs[slot].awaited = none)
    (hstate : m.ctxs[slot].state = .loading) (hcursor : m.ctxs[slot].cursor = step) (hpresent : presentStep m slot step = step)
    (hne : step ≠ .finish) : resumeStep slot m
      = placeLoadStep slot r step (atStep slot step m) := by
  rw [resumeStep_loading hidle hstate hr, hcursor, hpresent, goToStep_atStep hne]

/-- The step of a slot that stands is enqueued or waits on (R82, R83). -/
theorem stepAt_resumeStep (hstands : StepStands m slot r) (hr : activeRecord m slot = some r) (hidle : m.ctxs[slot].awaited = none)
    (hfree : m.ctxs[slot].staleHold = none) : StepAt slot m (resumeStep slot m) := by
  have huse := recordInUse_of_active hr
  have hmove {step : LoadStep} (hcursor : m.ctxs[slot].cursor = step) :
      SameStep m.ctxs[slot] { m.ctxs[slot] with cursor := step, roomMark := false } := ⟨rfl, hcursor.symm, rfl, rfl, rfl⟩
  have hsame : SameStep m.ctxs[slot] m.ctxs[slot] := ⟨rfl, rfl, rfl, rfl, rfl⟩
  have hunmoved : modCtx slot (fun c => c) m = m := by
    unfold modCtx setCtx
    simp
  rcases hstands with ⟨hstate, hidentity⟩
    | ⟨hstate, ⟨j, e, hcursor, he⟩ | ⟨j, id, hcursor, hid, hserves⟩ | ⟨hcursor, hl⟩ | ⟨hcursor, hw⟩⟩
    | ⟨hstate, ⟨hcheck, hw⟩ | ⟨hcheck, hc⟩⟩
  · obtain ⟨c, hc⟩ := Option.isSome_iff_exists.1 hidentity
    rw [resumeStep_probing hidle hstate, placeIdentity_eq huse hc]
    exact stepAt_placeStep _ ⟨rfl, rfl, rfl, rfl, rfl⟩ hfree (.inl rfl)
  · rw [stepAt_loading huse hidle hstate hcursor rfl nofun]
    have hentry : (imageEntries (atStep slot (.image j) m) slot)[j]? = some e :=
      imageEntries_get he
    simp only [placeLoadStep, hentry]
    exact stepAt_placeStep _ (hmove hcursor) hfree (.inl rfl)
  · rw [stepAt_loading huse hidle hstate hcursor (presentStep_profile hid hserves) nofun]
    obtain ⟨p, hp, -⟩ := profileServes_iff.1 hserves
    have hid' : (atStep slot (.profile j) m).ctxs[slot].profileList[j]? = some id := by
      rw [atStep_ctx]
      exact hid
    have hp' : activeProfile (atStep slot (.profile j) m) id = some p := hp
    simp only [placeLoadStep, hid', hp']
    exact stepAt_placeProfile id p (hmove hcursor) hfree
  · obtain ⟨l, hl⟩ := Option.isSome_iff_exists.1 hl
    rw [stepAt_loading huse hidle hstate hcursor rfl nofun]
    simp only [placeLoadStep, hl]
    exact stepAt_placeStep _ (hmove hcursor) hfree (.inl rfl)
  · obtain ⟨w, hw⟩ := Option.isSome_iff_exists.1 hw
    rw [stepAt_loading huse hidle hstate hcursor rfl nofun]
    simp only [placeLoadStep, hw]
    exact stepAt_placeStep _ (hmove hcursor) hfree (.inl rfl)
  · obtain ⟨w, hw⟩ := Option.isSome_iff_exists.1 hw
    rw [resumeStep_inService hidle hstate, placeCheck_eq huse (.inl ⟨hcheck, rfl, w, hw, rfl⟩)]
    have hat := stepAt_placeStep (marks := false) (readRequest .checkMarker slot r.addr w.reg) (f := fun c => c) hsame hfree (.inr hstate)
    rwa [hunmoved] at hat
  · obtain ⟨c, hc⟩ := Option.isSome_iff_exists.1 hc
    rw [resumeStep_inService hidle hstate, placeCheck_eq huse (.inr ⟨hcheck, rfl, c, hc, rfl⟩)]
    have hat := stepAt_placeStep (marks := false) (readRequest .checkStatus slot r.addr c.reg) (f := fun c => c) hsame hfree (.inr hstate)
    rwa [hunmoved] at hat

theorem StepStands.congr (h : StepStands s slot r) (hctx : t.ctxs[slot] = s.ctxs[slot]) (hcs : t.cs = s.cs) : StepStands t slot r := by
  have himage : activeImage t slot = activeImage s slot := by
    unfold activeImage
    rw [hcs]
  unfold StepStands
  rw [hctx, himage, profileServes_congr hcs slot]
  exact h

/-- A waiting slot whose step is enqueued waits no more. -/
theorem waitsForRoom_enqueued {c : Request} {v : State} (h : t = enqueueStep slot c v) : waitsForRoom t slot = false := by
  rw [Bool.eq_false_iff]
  intro hwaits
  obtain ⟨hidle, -⟩ := waitsForRoom_iff.1 hwaits
  rw [h, enqueueStep_ctx] at hidle
  exact absurd hidle nofun

/-- A waiting slot that finds the queue full waits on. -/
theorem waitsForRoom_full {d : Ctx} (h : waitsForRoom m slot = true) (hsame : SameStep m.ctxs[slot] d)
    (hmark : d.roomMark = true ∨ d.state = .inService) : waitsForRoom (modCtx slot (fun _ => d) m) slot = true := by
  obtain ⟨hstate, -, hcheck, hawaited, hhold⟩ := hsame
  obtain ⟨hidle, hfree, hcases⟩ := waitsForRoom_iff.1 h
  rw [waitsForRoom_iff, modCtx_get_self, hawaited, hhold, hstate, hcheck]
  refine ⟨hidle, hfree, ?_⟩
  rcases hcases with ⟨hst, -⟩ | ⟨hst, -⟩ | hchecks
  · exact .inl ⟨hst, hmark.resolve_right (by rw [hstate, hst]; nofun)⟩
  · exact .inr (.inl ⟨hst, hmark.resolve_right (by rw [hstate, hst]; nofun)⟩)
  · exact .inr (.inr hchecks)

/-- The retries end at a slot that finds the queue full, nothing but its context touched. -/
theorem retrySteps_full (hwaits : waitsForRoom m slot = true) (hstands : StepStands m slot r) (hr : activeRecord m slot = some r)
    (hfull : 32 ≤ m.bm.queue.length) (slots : List Slot) : ∃ d, SameStep m.ctxs[slot] d
      ∧ retrySteps (slot :: slots) m = modCtx slot (fun _ => d) m ∧ waitsForRoom (modCtx slot (fun _ => d) m) slot = true := by
  obtain ⟨hidle, hfree, -⟩ := waitsForRoom_iff.1 hwaits
  obtain ⟨d, hsame, hmark, hstep⟩ := (stepAt_resumeStep hstands hr hidle hfree).full hfull
  have hwaits' := waitsForRoom_full hwaits hsame hmark
  have hclosed : queueFull (modCtx slot (fun _ => d) m) = true := decide_eq_true hfull
  refine ⟨d, hsame, ?_, hwaits'⟩
  rw [retrySteps_waiting hwaits, hstep, hwaits', hclosed]
  rfl

/-- The slots before and after one, in ascending order. -/
theorem slots_split (slot : Slot) : ∃ before after, List.finRange 8 = before ++ slot :: after ∧ (∀ i ∈ before, i < slot)
    ∧ (∀ i ∈ after, slot < i) ∧ after.Pairwise (· < ·) := by
  obtain ⟨before, after, h⟩ := List.append_of_mem (List.mem_finRange slot)
  have hsorted : (List.finRange 8).Pairwise (· < ·) := List.pairwise_lt_finRange 8
  rw [h, List.pairwise_append, List.pairwise_cons] at hsorted
  obtain ⟨-, ⟨hafter, hrest⟩, hbefore⟩ := hsorted
  exact ⟨before, after, h, fun i hi => hbefore i hi slot List.mem_cons_self, hafter, hrest⟩

/-- The slots from one on up to a later one. -/
theorem slots_split_two (h : slot < next) : ∃ before mid after, List.finRange 8 = before ++ slot :: (mid ++ next :: after)
    ∧ (∀ i ∈ before, i < slot) ∧ (∀ i ∈ mid, slot < i ∧ i < next) ∧ slot ∉ mid ++ next :: after := by
  obtain ⟨before, rest, hsplit, hlow, hhigh, hsorted⟩ := slots_split slot
  have hmem : next ∈ before ++ slot :: rest := hsplit ▸ List.mem_finRange next
  have hrest : next ∈ rest := by
    rcases List.mem_append.1 hmem with hb | hb
    · exact absurd (hlow next hb) (lt_asymm h)
    · exact (List.mem_cons.1 hb).resolve_left (ne_of_gt h)
  obtain ⟨mid, after, rfl⟩ := List.append_of_mem hrest
  rw [List.pairwise_append] at hsorted
  exact ⟨before, mid, after, hsplit, hlow,
    fun i hi => ⟨hhigh i (List.mem_append_left _ hi), hsorted.2.2 i hi next List.mem_cons_self⟩,
    fun hslot => absurd (hhigh slot hslot) (lt_irrefl slot)⟩

/-- With one place left the first waiting step takes it and the second finds the queue full. -/
theorem retrySteps_one (hlength : m.bm.queue.length = 31) (hlt : slot < next) (hwaits : waitsForRoom m slot = true)
    (hfirst : ∀ i, i < slot → waitsForRoom m i = false) (hwaitsNext : waitsForRoom m next = true)
    (hbetween : ∀ i, slot < i → i < next → waitsForRoom m i = false) (hr : activeRecord m slot = some r)
    (hq : activeRecord m next = some q) (hstands : StepStands m slot r) (hstandsNext : StepStands m next q) :
    (∃ c v d, v.bm = m.bm ∧ v.msgs.departures = m.msgs.departures ∧ resumeStep slot m = enqueueStep slot c v
        ∧ retrySteps (List.finRange 8) m = modCtx next (fun _ => d) (enqueueStep slot c v))
      ∧ StillShown slot (resumeStep slot m) (retrySteps (List.finRange 8) m)
      ∧ waitsForRoom (retrySteps (List.finRange 8) m) next = true := by
  obtain ⟨before, mid, after, hsplit, hlow, hmid, hnot⟩ := slots_split_two hlt
  obtain ⟨hidle, hfree, -⟩ := waitsForRoom_iff.1 hwaits
  obtain ⟨c, v, hbm, hdepartures, hstep⟩ := (stepAt_resumeStep hstands hr hidle hfree).room (by omega)
  have hwork := slotWork_resumeStep slot m
  have hkept (i : Slot) (hi : i ≠ slot) : (resumeStep slot m).ctxs[i] = m.ctxs[i] := hwork.evolves.framed.ctxs i hi
  have hfull : 32 ≤ (resumeStep slot m).bm.queue.length := by
    have hgrown : (enqueueStep slot c v).bm.queue.length = v.bm.queue.length + 1 := by simp [enqueueStep]
    rw [hstep, hgrown, hbm]
    omega
  obtain ⟨d, -, hrest, hnext⟩ := retrySteps_full (m := resumeStep slot m) ((waitsForRoom_congr (hkept next (ne_of_gt hlt))).trans hwaitsNext)
    (hstandsNext.congr (hkept next (ne_of_gt hlt)) hwork.cs) ((activeRecord_congr hwork.cs next).trans hq) hfull after
  have hskip : retrySteps (mid ++ next :: after) (resumeStep slot m) = retrySteps (next :: after) (resumeStep slot m) :=
    retrySteps_append (fun i hi => (waitsForRoom_congr (hkept i (ne_of_gt (hmid i hi).1))).trans
      (hbetween i (hmid i hi).1 (hmid i hi).2)) _
  have hall : retrySteps (List.finRange 8) m = modCtx next (fun _ => d) (resumeStep slot m) := by
    rw [hsplit, retrySteps_append (fun i hi => hfirst i (hlow i hi)), retrySteps_waiting hwaits, waitsForRoom_enqueued hstep,
      Bool.false_and, if_neg nofun, hskip, hrest]
  refine ⟨⟨c, v, d, hbm, hdepartures, hstep, hall.trans (by rw [hstep])⟩, ?_, by rw [hall]; exact hnext⟩
  rw [hsplit, retrySteps_append (fun i hi => hfirst i (hlow i hi))]
  exact stillShown_retryRest hwaits hnot

/-- The part a departure is taken in. -/
def departureTaken (derate : Bool) (s : State) : State :=
  sampleDerate derate { s with msgs := { s.msgs with departures := s.msgs.departures - 1 } }

theorem exec_queueDeparture {derate : Bool} (h : s.msgs.departures ≠ 0) : exec (.queueDeparture derate) s
    = .next (decideIfEnqueued s (retrySteps (List.finRange 8) (departureTaken derate s))) := by
  change execQueueDeparture derate s = _
  unfold execQueueDeparture
  rw [if_neg h]
  rfl

theorem loadView_departureTaken (derate : Bool) (slot : Slot) (ids : List ProfileId) (s : State) :
    LoadView slot ids { s with pins := { s.pins with derate := derate } } (departureTaken derate s) :=
  ⟨rfl, rfl, rfl, fun _ _ => rfl, rfl, rfl, rfl, ⟨rfl, rfl, rfl⟩, List.prefix_rfl, fun _ _ _ _ _ => rfl⟩

/-- A waiting slot's retry with room, other slots' retries before it. -/
theorem retried_of_waits {derate : Bool} (hwaits : waitsForRoom s slot = true) (hr : activeRecord s slot = some r)
    (h : Elsewhere slot n (departureTaken derate s) m) (hroom : m.bm.queue.length < 32) :
    Retried slot r { s with pins := { s.pins with derate := derate } } m := by
  obtain ⟨hidle, hfree, -⟩ := waitsForRoom_iff.1 hwaits
  have hctx : m.ctxs[slot] = s.ctxs[slot] := h.shown.ctx
  exact ⟨fun ids => h.view rfl (loadView_departureTaken derate slot ids s), ⟨s.ctxs[slot].staleHold, hctx⟩, hr,
    by rw [hctx]; exact hidle, by rw [hctx]; exact hfree, hroom⟩

end

/-- Settles O26: the retries in slot order, with room for none, one, or all of them. -/
theorem departureRetriesWaitingSteps : Obligations.DepartureRetriesWaitingSteps := by
  unfold Obligations.DepartureRetriesWaitingSteps
  intro derate s hdepartures s' firstWaiting kept
  have hexec := exec_queueDeparture (derate := derate) hdepartures
  refine ⟨fun hnone => ?_, fun slot r hfirst hr => ⟨fun hroom => ⟨_, hexec, ?_⟩, fun hfull hstands => ?_⟩,
    fun slot next r q hlength hfirst hlt hnext hbetween hr hq hstands hstandsNext => ?_,
    fun hroom => ⟨_, hexec, fun slot r hwaits hr => ?_⟩⟩
  · refine hexec.trans (congrArg Host.Outcome.next ?_)
    rw [retrySteps_none (s := departureTaken derate s) fun i _ => hnone i]
    exact decideIfEnqueued_same rfl
  · obtain ⟨hwaits, hbefore⟩ := hfirst
    obtain ⟨before, after, hsplit, hlow, hhigh, -⟩ := slots_split slot
    have hshown := stillShown_retryRest (s := departureTaken derate s) (slots := after) hwaits
      fun hmem => absurd (hhigh slot hmem) (lt_irrefl slot)
    rw [← retrySteps_append (s := departureTaken derate s) (fun i hi => hbefore i (hlow i hi)), ← hsplit] at hshown
    exact stepResumed_of_retried (retried_of_waits hwaits hr (.refl slot _) hroom)
      (hshown.trans ((granted_decideIfEnqueued s _).stillShown slot))
  · obtain ⟨hwaits, hbefore⟩ := hfirst
    obtain ⟨before, after, hsplit, hlow, -⟩ := slots_split slot
    obtain ⟨d, ⟨hstate, hcursor, hcheck, -⟩, hstep, hwaits'⟩ := retrySteps_full (m := departureTaken derate s) hwaits hstands hr hfull after
    rw [hsplit, retrySteps_append (s := departureTaken derate s) (fun i hi => hbefore i (hlow i hi)), hstep] at hexec
    refine ⟨_, hexec.trans (congrArg Host.Outcome.next (decideIfEnqueued_same rfl)), ⟨rfl, rfl, rfl, rfl⟩, rfl, hwaits', ?_, ?_, ?_,
      fun i hi => ?_, rfl⟩
    · rw [modCtx_get_self]
      exact hstate
    · rw [modCtx_get_self]
      exact hcursor
    · rw [modCtx_get_self]
      exact hcheck
    · exact modCtx_get_ne hi _ _
  · obtain ⟨hwaits, hbefore⟩ := hfirst
    obtain ⟨⟨c, v, d, hbm, hmsgs, hstep, hall⟩, hshown, hnext'⟩ := retrySteps_one (m := departureTaken derate s) hlength hlt hwaits hbefore
      hnext hbetween hr hq hstands hstandsNext
    have hgranted := granted_decideIfEnqueued s (retrySteps (List.finRange 8) (departureTaken derate s))
    have hframed := (evolves_retrySteps (List.finRange 8) (departureTaken derate s)).framed
    have hwork := slotWork_resumeStep slot (departureTaken derate s)
    refine ⟨_, hexec, ⟨?_, hgranted.cs.trans hframed.cs, hgranted.mu.trans hframed.mu, hgranted.oc.trans hframed.oc⟩,
      stepResumed_of_retried (retried_of_waits hwaits hr (.refl slot _) (show s.bm.queue.length < 32 by omega))
        (hshown.trans (hgranted.stillShown slot)), ?_, (waitsForRoom_congr (by rw [hgranted.ctxs])).trans hnext', fun i hi hj => ?_⟩
    · rw [hgranted.msgs, hall]
      exact hmsgs
    · rw [hgranted.length, hall]
      have hgrown : (modCtx next (fun _ => d) (enqueueStep slot c v)).bm.queue.length = v.bm.queue.length + 1 := by simp [enqueueStep]
      rw [hgrown, hbm]
      exact congrArg (· + 1) hlength
    · rw [hgranted.ctxs, hall, modCtx_get_ne hj, ← hstep]
      exact hwork.evolves.framed.ctxs i hi
  · obtain ⟨m, a, hm, hlt, hshown⟩ := retrySteps_at (s := departureTaken derate s) (List.nodup_finRange 8) (List.mem_finRange slot) hwaits
      (by rw [List.length_finRange]; exact hroom)
    exact stepResumed_of_retried (retried_of_waits hwaits hr hm hlt) (hshown.trans ((granted_decideIfEnqueued s _).stillShown slot))

end Sys2Proof.Machine
end

section
/-! A failed attempt (O30): a transfer within its retry limit returns to WAITING, one beyond it fails its owner. -/

namespace Sys2Proof.Machine

section
variable {s t u : State} {x : Transfer} {slot : Slot} {r : TargetRecord} {id : ProfileId} {out : BusOutcome} {resp : BusResponse}
  {derate : Bool}

/-! ### The return to WAITING (R51, R117) -/

/-- No waiting write or latch stands where the transfer returns to. -/
def PlaceFree (s : State) (x : Transfer) : Prop :=
  (∀ id, x.origin = .profile id → s.ce.shadows[id].waiting = none)
    ∧ (∀ slot : Slot, x.origin = .latch → x.slot = some slot → s.ce.latches[slot].waiting = none)

/-- A transfer whose place is free waits again, its reference with it. -/
theorem returnTransfer_waits (h : PlaceFree s x) :
    ∃ ce : Ce, returnTransfer x s = { s with ce := ce, bm := { s.bm with queue := s.bm.queue.map (waitingAgain x.id) } } := by
  obtain ⟨hprofile, hlatch⟩ := h
  unfold returnTransfer
  split
  · next _ id horigin =>
    unfold returnProfile
    dsimp only
    split
    · exact ⟨s.ce, rfl⟩
    · split
      · exact ⟨s.ce, rfl⟩
      · rw [hprofile id horigin]
        exact ⟨_, rfl⟩
  · exact ⟨_, rfl⟩
  · next slot horigin hslot =>
    unfold returnLatch
    dsimp only
    split
    · exact ⟨s.ce, rfl⟩
    · rw [hlatch slot horigin hslot]
      exact ⟨_, rfl⟩
  · exact ⟨s.ce, rfl⟩

section
variable {b w : Ref} {i : Nat}

theorem returnProfile_free (hb : s.ce.shadows[id].onBus = some b) (hw : s.ce.shadows[id].waiting = none) : returnProfile id b.id s
    = backToWaiting b.id (setShadow id { s.ce.shadows[id] with onBus := none, waiting := some b } s) := by
  simp only [returnProfile, hb, hw, ne_eq, not_true_eq_false, if_false]

theorem returnProfile_taken (hb : s.ce.shadows[id].onBus = some b) (hw : s.ce.shadows[id].waiting = some w) : returnProfile id b.id s
    = depart b.id (setShadow id { s.ce.shadows[id] with onBus := none } s) := by
  simp only [returnProfile, hb, hw, ne_eq, not_true_eq_false, if_false]

theorem returnLatch_free (hbus : s.ce.latches[slot].onBus = some i) (hw : s.ce.latches[slot].waiting = none) : returnLatch slot i s
    = backToWaiting i (setLatch slot { s.ce.latches[slot] with onBus := none, waiting := some i } s) := by
  simp only [returnLatch, hbus, hw, ne_eq, not_true_eq_false, if_false]

theorem returnLatch_taken {k : Nat} (hbus : s.ce.latches[slot].onBus = some i) (hw : s.ce.latches[slot].waiting = some k) :
    returnLatch slot i s = depart i (setLatch slot { s.ce.latches[slot] with onBus := none } s) := by
  simp only [returnLatch, hbus, hw, ne_eq, not_true_eq_false, if_false]

end

theorem returnTransfer_profile (horigin : x.origin = .profile id) : returnTransfer x s = returnProfile id x.id s := by
  simp only [returnTransfer, horigin]

theorem returnTransfer_latch (horigin : x.origin = .latch) (hslot : x.slot = some slot) :
    returnTransfer x s = returnLatch slot x.id s := by
  simp only [returnTransfer, horigin, hslot]

/-- A STOP owed before a grant decision is owed behind it unless a transfer went on the bus (R115). -/
theorem grantDecision_owedStop (h : s.bm.owedStop = true) (hidle : ∀ y ∈ (grantDecision s).bm.queue, y.onBus = false) :
    (grantDecision s).bm.owedStop = true := by
  rcases grantDecision_choice s with hsame | ⟨g, hg, -, -, hgrant⟩
  · rw [hsame]
    exact h
  · have hmem : { g with onBus := true } ∈ (grant g s).bm.queue := by
      rw [grant_queue]
      exact List.mem_map.2 ⟨g, hg, if_pos rfl⟩
    rw [hgrant] at hidle
    exact absurd (hidle _ hmem) nofun

/-- The transfer that returned, behind a grant decision. -/
theorem Granted.returned (h : Granted s t) (hx : x ∈ s.bm.queue) :
    ∃ y ∈ t.bm.queue, y.id = x.id ∧ y.age = x.age ∧ y.attempts = x.attempts ∧ y.origin = x.origin ∧ y.data = x.data := by
  obtain ⟨y, hy, hyx⟩ := h.forward hx
  exact ⟨y, hy, by rw [hyx], by rw [hyx], by rw [hyx], by rw [hyx], by rw [hyx]⟩

/-! ### The retry -/

/-- The part at the outcome of a transaction: the attempt counted, a STOP owed after a TIMEOUT (R115, R116). -/
def attempted (x : Transfer) (resp : BusResponse) (s : State) : State :=
  oweStop (transactionOutcome x resp) (modTransfer x.id counted (setWire (transactionWire x resp) s))

theorem attempted_eq (x : Transfer) (resp : BusResponse) (s : State) : attempted x resp s = { s with bm := { s.bm with
    queue := s.bm.queue.map fun y => if y.id = x.id then counted y else y
    owedStop := (attempted x resp s).bm.owedStop
    wire := transactionWire x resp } } := by
  unfold attempted
  rw [oweStop_eq]
  rfl

theorem attempted_owedStop (h : transactionOutcome x resp = .timeout) (s : State) : (attempted x resp s).bm.owedStop = true := by
  unfold attempted oweStop
  rw [if_pos h]

theorem retryLimitOf_active (hslot : x.slot = some slot) (hr : activeRecord s slot = some r) : retryLimitOf s x = r.retryLimit := by
  simp only [retryLimitOf, hslot, recordInUse_of_active hr]

theorem retried_counted (hauto : x.automatic = true) (hstale : x.stale = false) (hslot : x.slot = some slot)
    (hr : activeRecord s slot = some r) : retried s (counted x) = decide (x.attempts + 1 ≤ r.retryLimit) := by
  rw [retried, retryLimitOf_active (x := counted x) hslot hr]
  rw [show (counted x).automatic = true from hauto, show (counted x).stale = false from hstale]
  rfl

theorem endTransaction_retried (hdone : transactionOutcome x resp ≠ .done) (hstuck : transactionOutcome x resp ≠ .busStuck)
    (hretried : retried (attempted x resp s) (counted x) = true) :
    endTransaction x resp s = grantDecision (returnTransfer (counted x) (attempted x resp s)) := by
  unfold endTransaction settle
  dsimp only
  rw [if_neg hstuck, if_neg hdone]
  exact congrArg grantDecision (if_pos hretried)

/-- The part the retry leaves the transfer in (R51, R117). -/
theorem returned_waits (hx : x ∈ s.bm.queue) (h : PlaceFree s x)
    (hgranted : Granted (returnTransfer (counted x) (attempted x resp s)) u) :
    ∃ y ∈ u.bm.queue, y.id = x.id ∧ y.age = x.age ∧ y.attempts = x.attempts + 1 ∧ y.origin = x.origin ∧ y.data = x.data := by
  have hce : (attempted x resp s).ce = s.ce := by rw [attempted_eq]
  have hfree : PlaceFree (attempted x resp s) (counted x) := by
    unfold PlaceFree
    rw [hce]
    exact h
  obtain ⟨ce, heq⟩ := returnTransfer_waits hfree
  have hmem : { counted x with onBus := false } ∈ (returnTransfer (counted x) (attempted x resp s)).bm.queue := by
    rw [heq, attempted_eq]
    refine List.mem_map.2 ⟨counted x, List.mem_map.2 ⟨x, hx, if_pos rfl⟩, ?_⟩
    exact if_pos rfl
  exact hgranted.returned hmem

/-- A write that finds its profile with a waiting one leaves, which stands in its place (R51). -/
theorem returned_profileTaken {b w : Ref} (horigin : x.origin = .profile id) (hw : s.ce.shadows[id].waiting = some w)
    (hb : s.ce.shadows[id].onBus = some b) (hid : b.id = x.id)
    (hgranted : Granted (returnTransfer (counted x) (attempted x resp s)) u) :
    (∀ y ∈ u.bm.queue, y.id ≠ x.id) ∧ u.ce.shadows[id].reference = some w.value := by
  have hce : (attempted x resp s).ce = s.ce := by rw [attempted_eq]
  have heq : returnTransfer (counted x) (attempted x resp s)
      = depart x.id (setShadow id { s.ce.shadows[id] with onBus := none } (attempted x resp s)) := by
    rw [returnTransfer_profile (x := counted x) horigin, show (counted x).id = b.id from hid.symm,
      returnProfile_taken (by rw [hce]; exact hb) (by rw [hce]; exact hw), hce, hid]
  rw [heq] at hgranted
  refine ⟨hgranted.gone fun y hy => not_mem_depart hy, (hgranted.shadows id).reference.trans ?_⟩
  have hshadow : (depart x.id (setShadow id { s.ce.shadows[id] with onBus := none } (attempted x resp s))).ce.shadows[id]
      = { s.ce.shadows[id] with onBus := none } := (setShadow_get ..).trans (if_pos rfl)
  rw [hshadow]
  exact reference_of_waiting (w := w) hw

/-- The latch of a slot behind the retry of its attempt (R51). -/
theorem returned_latch (horigin : x.origin = .latch) (hslot : x.slot = some slot) (hbus : s.ce.latches[slot].onBus = some x.id) :
    (s.ce.latches[slot].waiting = none → (returnTransfer (counted x) (attempted x resp s)).ce.latches[slot]
        = ⟨s.ce.latches[slot].deferred, some x.id, none⟩)
      ∧ ∀ w, s.ce.latches[slot].waiting = some w →
        (∀ y ∈ (returnTransfer (counted x) (attempted x resp s)).bm.queue, y.id ≠ x.id)
          ∧ (returnTransfer (counted x) (attempted x resp s)).ce.latches[slot] = ⟨s.ce.latches[slot].deferred, some w, none⟩ := by
  have hce : (attempted x resp s).ce = s.ce := by rw [attempted_eq]
  have heq : returnTransfer (counted x) (attempted x resp s) = returnLatch slot x.id (attempted x resp s) :=
    returnTransfer_latch (x := counted x) horigin hslot
  have hbus' : (attempted x resp s).ce.latches[slot].onBus = some x.id := by rw [hce]; exact hbus
  refine ⟨fun hw => ?_, fun w hw => ?_⟩
  · rw [heq, returnLatch_free hbus' (by rw [hce]; exact hw), hce]
    exact (setLatch_get slot slot _ _).trans (if_pos rfl)
  · rw [heq, returnLatch_taken hbus' (by rw [hce]; exact hw), hce]
    refine ⟨fun y hy => not_mem_depart hy, ((setLatch_get slot slot _ _).trans (if_pos rfl)).trans ?_⟩
    exact congrArg (fun waiting => (⟨s.ce.latches[slot].deferred, waiting, none⟩ : LatchState)) hw

theorem MovedLatch.of_waiting {l : LatchState} {d : Bool} {w : Nat} (h : MovedLatch ⟨d, some w, none⟩ l) :
    l = ⟨d, some w, none⟩ ∨ l = ⟨d, none, some w⟩ := by
  rcases h with rfl | ⟨v, hv, rfl⟩
  · exact .inl rfl
  · cases hv
    exact .inr rfl

/-! ### The failure -/

/-- A write that has failed: its shadow loses reference and written value, its waiting write leaves (R50). -/
theorem failShadow_spec (id : ProfileId) (s : State) : (failShadow id s).ce.shadows[id] = { s.ce.shadows[id] with
      written := none, waiting := none, onBus := none, deferred := false }
    ∧ (∀ w, s.ce.shadows[id].waiting = some w → ∀ y ∈ (failShadow id s).bm.queue, y.id ≠ w.id)
    ∧ (failShadow id s).msgs.tmReports = s.msgs.tmReports ∧ (failShadow id s).ctxs = s.ctxs := by
  have hset := setShadow_get id id { s.ce.shadows[id] with written := none, onBus := none, waiting := none, deferred := false } s
  rw [if_pos rfl] at hset
  unfold failShadow
  dsimp only
  cases hw : s.ce.shadows[id].waiting with
  | none => exact ⟨hset, nofun, rfl, rfl⟩
  | some w =>
    refine ⟨hset, fun w' hw' y hy => ?_, rfl, rfl⟩
    cases hw'
    exact not_mem_depart hy

theorem compensateOutcome_profileFailed {b : Ref} (hslot : x.slot = some slot) (horigin : x.origin = .profile id) (hstale : x.stale = false)
    (hb : s.ce.shadows[id].onBus = some b) (hid : b.id = x.id) (hdone : out ≠ .done) :
    compensateOutcome x out s = reportFailure slot x.origin out (failShadow id s) := by
  have hnamed : namedBy x.id s.ce.shadows[id].onBus = true := by
    rw [hb, ← hid]
    exact beq_self_eq_true b.id
  have hout : profileOutcome id x.id x.stale out s = (failShadow id s, true) := by
    unfold profileOutcome
    rw [hnamed, hstale, if_neg nofun, if_neg hdone]
  simp only [compensateOutcome, hslot, horigin, hout]

/-- The latch that has failed leaves its slot without latch references (R50). -/
theorem compensateOutcome_latchFailed (hslot : x.slot = some slot) (horigin : x.origin = .latch) (hstale : x.stale = false)
    (hbus : s.ce.latches[slot].onBus = some x.id) (hdone : out ≠ .done) : ∃ v, compensateOutcome x out s = reportFailure slot x.origin out v
      ∧ v.ce.latches[slot] = ⟨s.ce.latches[slot].deferred, none, none⟩ ∧ v.ctxs = s.ctxs ∧ v.msgs.tmReports = s.msgs.tmReports
      ∧ ∀ w, s.ce.latches[slot].waiting = some w → ∀ y ∈ v.bm.queue, y.id ≠ w := by
  have hset := setLatch_get slot slot { s.ce.latches[slot] with onBus := none, waiting := none } s
  rw [if_pos rfl] at hset
  have hlive : (x.stale || s.ce.latches[slot].onBus != some x.id) = false := by rw [hstale, hbus]; simp
  cases hw : s.ce.latches[slot].waiting with
  | none =>
    have hout : latchOutcome slot x.id x.stale out s
        = (setLatch slot { s.ce.latches[slot] with onBus := none, waiting := none } s, true) := by
      unfold latchOutcome
      dsimp only
      rw [hlive, if_neg nofun, if_neg hdone, hw]
    refine ⟨_, ?_, hset, rfl, rfl, nofun⟩
    simp only [compensateOutcome, hslot, horigin, hout]
  | some w =>
    have hout : latchOutcome slot x.id x.stale out s
        = (depart w (setLatch slot { s.ce.latches[slot] with onBus := none, waiting := none } s), true) := by
      unfold latchOutcome
      dsimp only
      rw [hlive, if_neg nofun, if_neg hdone, hw]
    refine ⟨depart w (setLatch slot { s.ce.latches[slot] with onBus := none, waiting := none } s), ?_, hset, rfl, rfl, fun w' hw' y hy => ?_⟩
    · simp only [compensateOutcome, hslot, horigin, hout]
    · cases hw'
      exact not_mem_depart hy

/-- An awaited step that has failed takes its slot to FAULT_HOLD (R84). -/
theorem stepOutcome_failed (hhold : s.ctxs[slot].staleHold ≠ some x.id) (hstale : x.stale = false)
    (hawaited : s.ctxs[slot].awaited = some x.id) (hdone : out ≠ .done) (bytes : List Byte) :
    stepOutcome x slot out bytes s
      = enterFaultHold slot .unreachable (.failed x.origin out) (passToCe x out (stepTaken slot s)) := by
  unfold stepOutcome
  dsimp only
  rw [if_neg hhold, hstale, hawaited, if_neg (by simp), if_neg hdone]
  rfl

theorem deliver_compensate (hcls : x.cls = .compensate) (out : BusOutcome) (bytes : List Byte) (s : State) :
    deliver x out bytes s = compensateOutcome x out s := by
  simp only [deliver, hcls]

theorem failed_step (hslot : x.slot = some slot) (hcls : x.cls = .restore ∨ x.cls = .check) (hstale : x.stale = false)
    (hawaited : s.ctxs[slot].awaited = some x.id) (hhold : s.ctxs[slot].staleHold ≠ some x.id) (hdone : out ≠ .done) (bytes : List Byte)
    (h : Granted (deliver x out bytes s) u) : u.ctxs[slot].state = .faultHold ∧ u.ctxs[slot].reason = .unreachable
      ∧ u.ctxs[slot].detail = .failed x.origin out ∧ u.ctxs[slot].faults = satInc s.ctxs[slot].faults
      ∧ u.ctxs[slot].faultTimer = some (s.now + (activeSettings s).holdTime * 1000)
      ∧ u.ctxs[slot].awaited = none ∧ u.ctxs[slot].checkStep = .idle ∧ SlotQuiet slot u ∧ u.msgs.ceInvalidate[slot] = true := by
  rw [deliver_step hslot hcls, stepOutcome_failed hhold hstale hawaited hdone] at h
  have hframed := (evolves_passToCe (S := {slot}) x out (stepTaken slot s)).framed
  have hctx : (passToCe x out (stepTaken slot s)).ctxs[slot] = { s.ctxs[slot] with awaited := none } := by
    have hsame := passToCe_ctxs x out (stepTaken slot s)
    rw [hsame, stepTaken_ctx]
  have hnow : (passToCe x out (stepTaken slot s)).now = s.now := hframed.now
  have hsettings : activeSettings (passToCe x out (stepTaken slot s)) = activeSettings s := activeSettings_congr hframed.cs
  generalize passToCe x out (stepTaken slot s) = v at h hctx hnow hsettings
  have hquiet := h.slotQuiet (slotQuiet_enterFaultHold slot .unreachable (.failed x.origin out) v)
  have hflag : (enterFaultHold slot .unreachable (.failed x.origin out) v).msgs.ceInvalidate[slot] = true := by
    rw [(enterFaultHold_ce ..).2]
    exact Vector.getElem_set_self _
  rw [h.ctxs, h.msgs, enterFaultHold_ctx, hnow, hsettings]
  exact ⟨rfl, rfl, rfl, by rw [hctx], rfl, rfl, rfl, hquiet, hflag⟩

end

/-- Settles O30: an attempt within the limit is counted and its transfer returns, one beyond it fails its owner. -/
theorem failedAttemptIsRetriedThenFails : Obligations.FailedAttemptIsRetriedThenFails := by
  unfold Obligations.FailedAttemptIsRetriedThenFails
  intro derate resp s t slot r hone hbus hidle hslot hr hauto hstale hdone hstuck out l
  have hexec := exec_transactionEnd (r := resp) (derate := derate) hbus hidle
  have hx := (mem_onBusTransfer hbus).1
  refine ⟨fun hlimit => ?_, fun hlimit => ?_⟩
  · have hactive : activeRecord (attempted t resp (sampleDerate derate s)) slot = some r := by
      rw [attempted_eq]
      exact hr
    have hretried : retried (attempted t resp (sampleDerate derate s)) (counted t) = true := by
      rw [retried_counted hauto hstale hslot hactive]
      exact decide_eq_true hlimit
    rw [endTransaction_retried hdone hstuck hretried] at hexec
    have hgranted := granted_grantDecision (returnTransfer (counted t) (attempted t resp (sampleDerate derate s)))
    have hkept := returnTransfer_keeps (counted t) (attempted t resp (sampleDerate derate s))
    obtain ⟨-, -, -, -, -, hctxs, hcs, -, hhl, hnu⟩ := hkept
    have hattempted := attempted_eq t resp (sampleDerate derate s)
    refine ⟨_, hexec, hgranted.ctxs.trans (hctxs.trans (by rw [hattempted]; rfl)), hgranted.hl.trans (hhl.trans (by rw [hattempted]; rfl)),
      hgranted.nu.trans (hnu.trans (by rw [hattempted]; rfl)), hgranted.cs.trans (hcs.trans (by rw [hattempted]; rfl)),
      fun hprofile hlatch => ?_, fun id w b horigin hw hb hid => ?_, fun horigin hlbus => ⟨fun hw => ?_, fun w hw hne => ?_⟩,
      fun htimeout hbusFree => ?_⟩
    · refine returned_waits (s := sampleDerate derate s) hx ⟨hprofile, fun i horigin hi => ?_⟩ hgranted
      obtain rfl := Option.some.inj (hslot.symm.trans hi)
      exact hlatch horigin
    · exact returned_profileTaken (s := sampleDerate derate s) horigin hw hb hid hgranted
    · obtain ⟨hfree, -⟩ := returned_latch (s := sampleDerate derate s) (resp := resp) horigin hslot hlbus
      have hmoved := grantDecision_latch (returnTransfer (counted t) (attempted t resp (sampleDerate derate s))) slot
      rw [hfree hw] at hmoved
      exact hmoved.of_waiting
    · obtain ⟨-, htaken⟩ := returned_latch (s := sampleDerate derate s) (resp := resp) horigin hslot hlbus
      obtain ⟨hgone, hlatch⟩ := htaken w hw
      have hmoved := grantDecision_latch (returnTransfer (counted t) (attempted t resp (sampleDerate derate s))) slot
      rw [hlatch] at hmoved
      exact ⟨hgranted.gone hgone, hmoved.of_waiting⟩
    · refine grantDecision_owedStop ?_ hbusFree
      rw [(evolves_returnTransfer (S := ∅) (counted t) (attempted t resp (sampleDerate derate s))).framed.bm]
      exact attempted_owedStop htimeout _
  · have hfinal : retried (sampleDerate derate s) (counted t) = false := by
      rw [retried_counted hauto hstale hslot (s := sampleDerate derate s) hr]
      exact decide_eq_false (Nat.not_le.2 hlimit)
    rw [endTransaction_final hstuck (.inr hfinal)] at hexec
    obtain ⟨hothers, hgone, hcs⟩ := ended_beside (resp := resp) (derate := derate) hone hbus hslot out (deliveredBytes t resp)
    have hdeparted := concluded_eq t resp (sampleDerate derate s)
    have howed (htimeout : out = .timeout) : (concluded t resp (sampleDerate derate s)).bm.owedStop = true := by
      rw [hdeparted]
      exact (congrArg (_ || ·) (decide_eq_true htimeout)).trans (Bool.or_true _)
    obtain ⟨hnow, hce, hctxs, hcs', hoc, hmu, -⟩ := concluded_keeps t resp (sampleDerate derate s)
    have hreports : (concluded t resp (sampleDerate derate s)).msgs.tmReports = s.msgs.tmReports := by rw [hdeparted]; rfl
    generalize concluded t resp (sampleDerate derate s) = v at hexec hothers hgone hcs howed hnow hce hctxs hcs' hoc hmu hreports
    obtain ⟨hmu', hoc', howed'⟩ := deliver_rest (x := counted t) hslot out (deliveredBytes t resp) v
    have hgranted := granted_grantDecision (deliver (counted t) out (deliveredBytes t resp) v)
    have hshadows : v.ce.shadows = s.ce.shadows := congrArg Ce.shadows hce
    have hlatches : v.ce.latches = s.ce.latches := congrArg Ce.latches hce
    have hctx : v.ctxs[slot] = s.ctxs[slot] := by rw [hctxs]; rfl
    refine ⟨_, hexec, hgone, hcs, hgranted.mu.trans (hmu'.trans hmu), hgranted.oc.trans (hoc'.trans hoc), fun id b horigin hb hid => ?_,
      fun horigin hlbus => ?_, fun hcls hawaited hhold => ?_, fun htimeout hbusFree => ?_⟩
    · have hcls : (counted t).cls = .compensate := congrArg Origin.cls horigin
      have hfailed : deliver (counted t) out (deliveredBytes t resp) v = reportFailure slot t.origin out (failShadow id v) :=
        (deliver_compensate hcls out _ v).trans (compensateOutcome_profileFailed (x := counted t) hslot horigin hstale
          (by rw [hshadows]; exact hb) hid hdone)
      obtain ⟨hshadow, hwaiting, hkept, hkeptCtxs⟩ := failShadow_spec id v
      rw [hshadows] at hshadow hwaiting
      have hmoved := hgranted.shadows id
      rw [hfailed] at hgranted hmoved ⊢
      rw [show (reportFailure slot t.origin out (failShadow id v)).ce = (failShadow id v).ce from rfl, hshadow] at hmoved
      refine ⟨hmoved.eq_of_none rfl, fun w hw => hgranted.gone (hwaiting w hw), ?_, hgranted.ctxs.trans (hkeptCtxs.trans hctxs)⟩
      rw [hgranted.msgs, ← hreports, ← hkept]
      rfl
    · have hcls : (counted t).cls = .compensate := congrArg Origin.cls horigin
      obtain ⟨d, hd, hlatch, hkeptCtxs, hkept, hwaiting⟩ := compensateOutcome_latchFailed (x := counted t) (s := v) hslot horigin hstale
        (by rw [hlatches]; exact hlbus) hdone
      have hfailed : deliver (counted t) out (deliveredBytes t resp) v = reportFailure slot t.origin out d :=
        (deliver_compensate hcls out _ v).trans hd
      rw [hlatches] at hlatch hwaiting
      have hmoved := grantDecision_latch (deliver (counted t) out (deliveredBytes t resp) v) slot
      rw [hfailed] at hgranted hmoved ⊢
      rw [show (reportFailure slot t.origin out d).ce = d.ce from rfl, hlatch] at hmoved
      refine ⟨?_, fun w hw => hgranted.gone (hwaiting w hw), ?_, hgranted.ctxs.trans (hkeptCtxs.trans hctxs)⟩
      · rcases hmoved with h | ⟨w, hw, -⟩
        · exact h
        · exact absurd hw nofun
      · rw [hgranted.msgs, ← hreports, ← hkept]
        rfl
    · have hfailed := failed_step (x := counted t) hslot hcls hstale (by rw [hctx]; exact hawaited) (by rw [hctx]; exact hhold) hdone
        (deliveredBytes t resp) hgranted
      rw [hctx, hnow, activeSettings_congr (s := s) hcs'] at hfailed
      obtain ⟨hst, hreason, hdetail, hfaults, htimer, hawaits, hcheck, hquiet, hflag⟩ := hfailed
      exact ⟨hst, hreason, hdetail, hfaults, htimer, hawaits, hcheck, hquiet, hflag, hothers⟩
    · exact grantDecision_owedStop (howed'.trans (howed htimeout)) hbusFree

end Sys2Proof.Machine
end

section
/-! Recovery sequences (O36): their beginning, the release of the line, the entry into FAULT and its end. -/

namespace Sys2Proof.Machine

section
variable {s t m u v : State} {x : Transfer} {slot : Slot} {r : TargetRecord} {id : ProfileId} {run : RecoveryRun} {derate : Bool}
  {q : List Transfer}

/-! ### Manual transfers of a queue -/

/-- A MANUAL transfer, waiting or on the bus. -/
def isManual (x : Transfer) : Bool := x.cls == .manual

theorem filter_waitingManual (h : ∀ y ∈ q, y.onBus = true → y.cls ≠ .manual) : q.filter waitingManual = q.filter isManual := by
  refine List.filter_congr fun y hy => ?_
  cases hbus : y.onBus with
  | false => simp [waitingManual, isManual, hbus]
  | true => simp [waitingManual, isManual, h y hy hbus]

/-- The transfer on the bus is one manual transfer more than those that wait. -/
theorem manuals_count (hone : OneOnBus s) (hx : x ∈ s.bm.queue) (hbus : x.onBus = true) (hcls : x.cls = .manual) :
    (s.bm.queue.filter isManual).length = (s.bm.queue.filter waitingManual).length + 1 := by
  have hwaiting : (s.bm.queue.filter isManual).filter (fun y => !(y.id == x.id)) = s.bm.queue.filter waitingManual := by
    rw [List.filter_filter]
    refine List.filter_congr fun y hy => ?_
    by_cases hid : y.id = x.id
    · obtain rfl := hone.eq_of_id hy hx hid
      simp [waitingManual, hbus]
    · have hfree : y.onBus = false := by
        by_contra hon
        exact hid (congrArg Transfer.id (hone.eq_of_onBus hy hx (by simpa using hon) hbus))
      simp [waitingManual, isManual, hid, hfree]
  have hself : (s.bm.queue.filter isManual).filter (fun y => y.id == x.id) = s.bm.queue.filter fun y => y.id == x.id := by
    rw [List.filter_filter]
    refine List.filter_congr fun y hy => ?_
    by_cases hid : y.id = x.id
    · obtain rfl := hone.eq_of_id hy hx hid
      simp [isManual, hcls]
    · simp [hid]
  have hsplit := List.length_eq_length_filter_add (l := s.bm.queue.filter isManual) fun y => y.id == x.id
  rw [hself, hwaiting, departed_count hone hx] at hsplit
  omega

theorem waitingManual_left (hone : OneOnBus s) (hx : x ∈ s.bm.queue) (hbus : x.onBus = true) :
    (depart x.id s).bm.queue.filter waitingManual = s.bm.queue.filter waitingManual := by
  change (s.bm.queue.filter fun y => !(y.id == x.id)).filter waitingManual = _
  rw [List.filter_filter]
  refine List.filter_congr fun y hy => ?_
  by_cases hid : y.id = x.id
  · obtain rfl := hone.eq_of_id hy hx hid
    simp [waitingManual, hbus]
  · simp [hid]

theorem departed_busFree (hone : OneOnBus s) (hx : x ∈ s.bm.queue) (hbus : x.onBus = true) :
    ∀ y ∈ (depart x.id s).bm.queue, y.onBus = false := by
  intro y hy
  by_contra hon
  exact not_mem_depart hy (congrArg Transfer.id (hone.eq_of_onBus (List.mem_of_mem_filter hy) hx (by simpa using hon) hbus))

/-! ### What a step that waited leaves of the manual transfers -/

/-- Transfers were added to the queue, none of them manual. -/
def Appended (m t : State) : Prop := ∃ xs, t.bm.queue = m.bm.queue ++ xs ∧ ∀ y ∈ xs, y.cls ≠ .manual

theorem Appended.waitingManual (h : Appended m t) : t.bm.queue.filter waitingManual = m.bm.queue.filter waitingManual := by
  obtain ⟨xs, hq, hxs⟩ := h
  have hadded : xs.filter Machine.waitingManual = [] :=
    List.filter_eq_nil_iff.2 fun y hy => by simp [Machine.waitingManual, hxs y hy]
  rw [hq, List.filter_append, hadded, List.append_nil]

theorem appended_enqueueStep {c : Request} (hq : v.bm.queue = m.bm.queue) (hc : c.origin.cls ≠ .manual) :
    Appended m (enqueueStep slot c v) := by
  refine ⟨[c.record v.bm.nextId v.bm.nextAge], by simp [enqueueStep, hq], fun y hy => ?_⟩
  rw [List.mem_singleton.1 hy]
  exact hc

theorem appended_placeStep {marks : Bool} {c : Request} (hq : v.bm.queue = m.bm.queue) (hc : c.origin.cls ≠ .manual) :
    Appended m (placeStep slot marks c v) := by
  rcases placeStep_cases slot marks c v with ⟨-, h⟩ | ⟨-, h⟩ | ⟨-, -, h⟩ <;> rw [h]
  · exact ⟨[], by simp [hq], nofun⟩
  · exact ⟨[], by simp [hq], nofun⟩
  · exact appended_enqueueStep hq hc

theorem appended_placeLoadStep {step : LoadStep} (hq : v.bm.queue = m.bm.queue) : Appended m (placeLoadStep slot r step v) := by
  have hnone : Appended m v := ⟨[], by simp [hq], nofun⟩
  unfold placeLoadStep
  split
  case h_1 => exact hnone
  case h_6 => exact hnone
  case h_3 =>
    split
    · exact hnone
    · split
      · exact hnone
      · rcases placeProfile_cases slot r _ _ v with ⟨-, h⟩ | ⟨-, h⟩ | ⟨-, -, e, -, h⟩ <;> rw [h]
        · exact hnone
        · exact hnone
        · exact appended_enqueueStep (by simpa using hq) nofun
  all_goals
    split
    · exact hnone
    · exact appended_placeStep hq nofun

/-- A step that waited is placed or waits on, or completes its load, whose entry purges the raw writes (R68, R92). -/
theorem resumeStep_manuals (hr : activeRecord m slot = some r) :
    ((resumeStep slot m).ctxs[slot].state = m.ctxs[slot].state ∧ Appended m (resumeStep slot m))
      ∨ (m.ctxs[slot].state = .loading ∧ (resumeStep slot m).ctxs[slot].state = .inService
        ∧ (resumeStep slot m).bm.queue = m.bm.queue.filter fun y => !waitingRawWrite r.addr y) := by
  have hnone : Appended m m := ⟨[], by simp, nofun⟩
  unfold resumeStep
  split
  · exact .inl ⟨rfl, hnone⟩
  · split
    · refine .inl ?_
      rcases placeIdentity_cases slot m with h | ⟨r', c, -, -, h⟩ <;> rw [h]
      · exact ⟨rfl, hnone⟩
      · obtain ⟨awaited, mark, hctx⟩ := placeStep_ctx slot true (readRequest .identity slot r'.addr c.reg)
          (modCtx slot (fun x => { x with probe := some c }) m)
        rw [hctx, modCtx_get_self]
        exact ⟨rfl, appended_placeStep rfl nofun⟩
    · next hstate =>
      have hload : resumeLoad slot m = goToStep slot r (presentStep m slot m.ctxs[slot].cursor) m := by
        simp only [resumeLoad, recordInUse_of_active hr]
      rw [hload]
      by_cases hstep : presentStep m slot m.ctxs[slot].cursor = .finish
      · refine .inr ⟨hstate, ?_, ?_⟩
        · rw [hstep, goToStep_finish_ctx]
          rfl
        · have hactive : activeRecord (modCtx slot (fun c => { c with cursor := .finish, roomMark := false }) m) slot = some r := hr
          rw [hstep, goToStep_finish, enterInService, (postTarget_beside ..).1]
          refine (beginEntry_queue ..).trans (List.filter_congr fun y _ => ?_)
          simp [purgedAtEntry, claimedRawWrite, hactive, automaticUse]
      · obtain ⟨awaited, mark, hctx⟩ := goToStep_ctx slot r hstep m
        rw [hctx, goToStep_of_ne hstep]
        exact .inl ⟨rfl, appended_placeLoadStep rfl⟩
    · refine .inl ?_
      obtain ⟨awaited, mark, hctx⟩ := placeCheck_ctx slot m
      rw [hctx]
      rcases placeCheck_cases slot m with h | ⟨c, hc, h⟩ <;> rw [h]
      · exact ⟨rfl, hnone⟩
      · exact ⟨rfl, appended_placeStep rfl (by rw [hc]; nofun)⟩
    · exact .inl ⟨rfl, hnone⟩

/-! ### The entry into FAULT (R120) -/

/-- The part behind the settling of the transfer that met BUS_STUCK, its waiting MANUAL transfers answered. -/
theorem enterBusFault_spec (hbus : onBusTransfer s = some x) (hS : v = settleStuck x (faultCondition s)) :
    (enterBusFault s).bm = { v.bm with queue := v.bm.queue.filter fun y => !waitingManual y } ∧ (enterBusFault s).ce = v.ce
      ∧ (enterBusFault s).ctxs = v.ctxs ∧ (enterBusFault s).cs = v.cs ∧ (enterBusFault s).msgs.tmReports = v.msgs.tmReports
      ∧ (enterBusFault s).msgs.notices = v.msgs.notices ++ [⟨.fault, .busFault 1 x.cls x.slot x.addr (answeredManuals x v)⟩] := by
  have hfaulted : (faultManuals v).bm = { v.bm with queue := v.bm.queue.filter fun y => !waitingManual y }
      ∧ (faultManuals v).ce = v.ce ∧ (faultManuals v).ctxs = v.ctxs ∧ (faultManuals v).cs = v.cs
      ∧ (faultManuals v).msgs.tmReports = v.msgs.tmReports ∧ (faultManuals v).msgs.notices = v.msgs.notices := by
    unfold faultManuals
    obtain ⟨-, -, -, -, hce, hctxs, hbm, hcs, -, hmsgs⟩ := faultAll_keeps (v.bm.queue.filter waitingManual) (departWhere waitingManual v)
    rw [hce, hctxs, hbm, hcs, hmsgs]
    exact ⟨rfl, rfl, rfl, rfl, rfl, rfl⟩
  obtain ⟨hbm, hce, hctxs, hcs, hreports, hnotices⟩ := hfaulted
  rw [enterBusFault_eq hbus, ← hS]
  exact ⟨hbm, hce, hctxs, hcs, hreports, congrArg (· ++ _) hnotices⟩

theorem evolves_settleStuck (hauto : x.stale = true → x.automatic = true) (s : State) : Evolves Set.univ s (settleStuck x s) := by
  unfold settleStuck
  split
  · next hstale => exact (evolves_depart x.id s).trans (evolves_deliver_stale (hauto hstale) hstale .busStuck [] _)
  · split
    · next hcls =>
      have hdelivered : finish x .busFault [] s = endManual x .transferFailed [BusOutcome.busFault.code] (depart x.id s) := by
        simp only [finish, deliver, hcls, manualOutcome]
        exact if_neg nofun
      rw [hdelivered]
      exact (evolves_depart x.id s).trans (evolves_endManual x _ _ _)
    · exact evolves_returnTransfer x s

/-- The Bus Master behind the entry into FAULT (R120). -/
theorem enterBusFault_bm (hbus : onBusTransfer s = some x) (hauto : x.stale = true → x.automatic = true) :
    (enterBusFault s).bm.cond = .fault ∧ (enterBusFault s).bm.attempts = 1 ∧ (enterBusFault s).bm.recoveryTimer = some (s.now + 1000)
      ∧ (enterBusFault s).bm.faultSince = some s.now ∧ (enterBusFault s).bm.recovering = s.bm.recovering
      ∧ (enterBusFault s).bm.wire = s.bm.wire := by
  rw [(enterBusFault_spec hbus rfl).1, (evolves_settleStuck hauto (faultCondition s)).framed.bm]
  exact ⟨rfl, rfl, rfl, rfl, rfl, rfl⟩

/-- No manual transfer is left where none is on the bus. -/
theorem enterBusFault_noManual (hbus : onBusTransfer s = some x)
    (hfree : ∀ y ∈ (settleStuck x (faultCondition s)).bm.queue, y.onBus = true → y.cls ≠ .manual) :
    ∀ y ∈ (enterBusFault s).bm.queue, y.cls ≠ .manual := by
  intro y hy
  rw [(enterBusFault_spec hbus rfl).1] at hy
  obtain ⟨hmem, hnot⟩ := List.mem_filter.1 hy
  intro hcls
  cases hon : y.onBus with
  | true => exact hfree y hmem hon hcls
  | false => simp [waitingManual, hcls, hon] at hnot

theorem enterBusFault_keeps_transfer (hbus : onBusTransfer s = some x) {y : Transfer}
    (hy : y ∈ (settleStuck x (faultCondition s)).bm.queue) (hcls : y.cls ≠ .manual) : y ∈ (enterBusFault s).bm.queue := by
  rw [(enterBusFault_spec hbus rfl).1]
  exact List.mem_filter.2 ⟨hy, by simp [waitingManual, hcls]⟩

/-! ### The end of a recovery sequence of a READY bus -/

theorem lineReleased_iff : lineReleased run = true ↔ ∃ n, run = .sdaHighAfter n := by
  cases run <;> simp [lineReleased]

/-- A grant decision leaves condition, recovery and wire of the bus. -/
theorem grantDecision_condition (s : State) : (grantDecision s).bm.cond = s.bm.cond ∧ (grantDecision s).bm.recovering = s.bm.recovering
    ∧ (grantDecision s).bm.recoveryTimer = s.bm.recoveryTimer ∧ (grantDecision s).bm.faultSince = s.bm.faultSince
    ∧ (grantDecision s).bm.wire = s.bm.wire := by
  rcases grantDecision_choice s with hsame | ⟨g, -, -, -, hgrant⟩
  · rw [hsame]
    exact ⟨rfl, rfl, rfl, rfl, rfl⟩
  · rw [hgrant, grant_bm]
    exact ⟨rfl, rfl, rfl, rfl, rfl⟩

theorem settleReleased_fresh (hbus : onBusTransfer s = some x) (hfresh : x.stale = false) : settleReleased s = returnTransfer x s := by
  simp only [settleReleased, hbus, hfresh]
  exact if_neg nofun

theorem settleStuck_fresh (hfresh : x.stale = false) (hcls : x.cls ≠ .manual) : settleStuck x s = returnTransfer x s := by
  unfold settleStuck
  rw [hfresh, if_neg nofun, if_neg hcls]

theorem settleStuck_manual (hfresh : x.stale = false) (hcls : x.cls = .manual) :
    settleStuck x s = endManual x .transferFailed [BusOutcome.busFault.code] (depart x.id s) := by
  unfold settleStuck
  rw [hfresh, if_neg nofun, if_pos hcls]
  simp only [finish, deliver, hcls, manualOutcome]
  exact if_neg nofun

theorem placeFree_of_neither (hprofile : ∀ id, x.origin ≠ .profile id) (hlatch : x.origin ≠ .latch) (s : State) : PlaceFree s x :=
  ⟨fun id h => absurd h (hprofile id), fun _ h => absurd h hlatch⟩

/-- A returned transfer waits. -/
theorem mem_returned (hx : x ∈ q) : { x with onBus := false } ∈ q.map (waitingAgain x.id) :=
  List.mem_map.2 ⟨x, hx, if_pos rfl⟩

theorem returned_busFree (hone : OneOnBus s) (hx : x ∈ s.bm.queue) (hbus : x.onBus = true) :
    ∀ y ∈ s.bm.queue.map (waitingAgain x.id), y.onBus = false := by
  intro y hy
  obtain ⟨z, hz, rfl⟩ := List.mem_map.1 hy
  unfold waitingAgain
  split
  · rfl
  · next hid =>
    by_contra hon
    exact hid (congrArg Transfer.id (hone.eq_of_onBus hz hx (by simpa using hon) hbus))

/-- Waiting again changes of the queue nothing that is manual. -/
theorem filter_isManual_returned (i : Nat) (q : List Transfer) : ((q.map (waitingAgain i)).filter isManual).length = (q.filter isManual).length := by
  have hsame : isManual ∘ waitingAgain i = isManual := by
    funext y
    simp only [Function.comp_apply, waitingAgain]
    split <;> rfl
  rw [List.filter_map, List.length_map, hsame]

/-- The settling of a transfer that is no pass's write or latch (R119, R120): what is left, and how many manual ones are answered. -/
theorem settleStuck_plain (hone : OneOnBus s) (hbus : onBusTransfer s = some x) (hfresh : x.stale = false)
    (hprofile : ∀ id, x.origin ≠ .profile id) (hlatch : x.origin ≠ .latch) (hv : v = settleStuck x s) :
    v.ctxs = s.ctxs ∧ v.cs = s.cs ∧ v.msgs.notices = s.msgs.notices
      ∧ (∀ y ∈ v.bm.queue, y.onBus = false) ∧ answeredManuals x v = (s.bm.queue.filter isManual).length
      ∧ (x.cls ≠ .manual → { x with onBus := false } ∈ v.bm.queue) := by
  obtain ⟨hx, honBus⟩ := mem_onBusTransfer hbus
  subst hv
  by_cases hcls : x.cls = .manual
  · rw [settleStuck_manual hfresh hcls]
    obtain ⟨-, -, -, -, -, hctxs, hbm, hcs, -, hmsgs⟩ := endManual_keeps x .transferFailed [BusOutcome.busFault.code] (depart x.id s)
    rw [hctxs, hcs, hmsgs, hbm]
    refine ⟨rfl, rfl, rfl, departed_busFree hone hx honBus, ?_, fun h => absurd hcls h⟩
    rw [answeredManuals, hbm, waitingManual_left hone hx honBus, if_pos ⟨hcls, hfresh⟩]
    exact (manuals_count hone hx honBus hcls).symm
  · rw [settleStuck_fresh hfresh hcls]
    obtain ⟨ce, heq⟩ := returnTransfer_waits (placeFree_of_neither hprofile hlatch s)
    rw [heq]
    refine ⟨rfl, rfl, rfl, returned_busFree hone hx honBus, ?_, fun _ => mem_returned hx⟩
    rw [answeredManuals, if_neg fun h => hcls h.1]
    refine (congrArg List.length (filter_waitingManual fun y hy hon => ?_)).trans (filter_isManual_returned x.id s.bm.queue)
    exact absurd ((returned_busFree hone hx honBus y hy).symm.trans hon) nofun

/-- A fresh transfer that is no pass's write or latch met BUS_STUCK: it returns, or at the entry into FAULT is answered. -/
theorem recovery_plain (hrec : s.bm.recovering = true) (hone : OneOnBus s) (hcond : s.bm.cond = .ready) (hbus : onBusTransfer s = some x)
    (hfresh : x.stale = false) (hprofile : ∀ id, x.origin ≠ .profile id) (hlatch : x.origin ≠ .latch) :
    Gives (.recoverySequenceEnd run derate) s (fun u =>
      u.bm.recovering = false ∧ u.bm.wire = recoveryWire run ∧ u.cs = s.cs ∧ u.ctxs = s.ctxs
      ∧ (lineReleased run = true → u.bm.cond = .ready ∧ u.hl = s.hl ∧ u.msgs = s.msgs
          ∧ ∃ y ∈ u.bm.queue, y.id = x.id ∧ y.age = x.age ∧ y.attempts = x.attempts)
      ∧ (¬ lineReleased run = true →
          u.bm.cond = .fault ∧ u.bm.attempts = 1 ∧ u.bm.recoveryTimer = some (s.now + 1000) ∧ u.bm.faultSince = some s.now
          ∧ (∀ y ∈ u.bm.queue, y.cls ≠ .manual)
          ∧ (x.automatic = true → ∃ y ∈ u.bm.queue, y.id = x.id ∧ y.age = x.age ∧ y.attempts = x.attempts ∧ y.onBus = false)
          ∧ u.msgs.notices = s.msgs.notices ++ [⟨.fault, .busFault 1 x.cls x.slot x.addr (s.bm.queue.filter isManual).length⟩])) := by
  obtain ⟨hx, -⟩ := mem_onBusTransfer hbus
  cases hreleased : lineReleased run with
  | true =>
    obtain ⟨ce, heq⟩ := returnTransfer_waits (placeFree_of_neither hprofile hlatch (recoveryEnded run derate s))
    have hsettled := settleReleased_fresh (s := recoveryEnded run derate s) (x := x) hbus hfresh
    rw [heq] at hsettled
    have hgranted := granted_grantDecision (settleReleased (recoveryEnded run derate s))
    obtain ⟨hready, hrecovering, -, -, hwire⟩ := grantDecision_condition (settleReleased (recoveryEnded run derate s))
    refine ⟨_, exec_recoverySequenceEnd_released hrec hcond hreleased, ?_⟩
    rw [hsettled] at hgranted hready hrecovering hwire ⊢
    refine ⟨hrecovering, hwire, hgranted.cs, hgranted.ctxs, fun _ => ⟨hready.trans hcond, hgranted.hl, hgranted.msgs, ?_⟩,
      fun h => absurd rfl h⟩
    obtain ⟨y, hy, hid, hage, hattempts, -⟩ := hgranted.returned (mem_returned hx)
    exact ⟨y, hy, hid, hage, hattempts⟩
  | false =>
    have hbus' : onBusTransfer (recoveryEnded run derate s) = some x := hbus
    obtain ⟨-, -, hctxs, hcs, -, hnotices⟩ := enterBusFault_spec hbus' rfl
    obtain ⟨hfault, hattempts, htimer, hsince, hrecovering, hwire⟩ := enterBusFault_bm hbus' fun h => by rw [hfresh] at h; exact absurd h nofun
    obtain ⟨hctxs', hcs', hnotices', hfree, hcount, hstays⟩ := settleStuck_plain (s := faultCondition (recoveryEnded run derate s)) hone hbus
      hfresh hprofile hlatch rfl
    refine ⟨_, exec_recoverySequenceEnd_stuck hrec hcond hreleased, hrecovering, hwire, hcs.trans hcs', hctxs.trans hctxs', fun h => absurd h nofun,
      fun _ => ⟨hfault, hattempts, htimer, hsince, ?_, fun hauto => ?_, ?_⟩⟩
    · exact enterBusFault_noManual hbus' fun y hy hon => absurd ((hfree y hy).symm.trans hon) nofun
    · have hcls : x.cls ≠ .manual := by simpa [Transfer.automatic] using hauto
      exact ⟨_, enterBusFault_keeps_transfer hbus' (hstays hcls) hcls, rfl, rfl, rfl, rfl⟩
    · rw [hnotices, hnotices', hcount]
      rfl

theorem automatic_not_manual (h : x.automatic = true) : x.cls ≠ .manual := by simpa [Transfer.automatic] using h

/-- What the settling of a stale transfer leaves for the entry into FAULT: its slot's step may complete a load, whose entry
purges the raw writes. -/
theorem settleStuck_stale (hone : OneOnBus s) (hbus : onBusTransfer s = some x) (hauto : x.automatic = true) (hstale : x.stale = true)
    (hslot : x.slot = some slot) (hr : activeRecord s slot = some r) (hv : v = settleStuck x s) :
    (∀ y ∈ v.bm.queue, y.id ≠ x.id) ∧ (∀ y ∈ v.bm.queue, y.onBus = true → y.cls ≠ .manual)
      ∧ s.msgs.notices <+: v.msgs.notices
      ∧ ((v.ctxs[slot].state = s.ctxs[slot].state ∧ v.bm.queue.filter waitingManual = s.bm.queue.filter waitingManual)
        ∨ (s.ctxs[slot].state = .loading ∧ v.ctxs[slot].state = .inService
          ∧ v.bm.queue.filter waitingManual = (s.bm.queue.filter waitingManual).filter fun y => !waitingRawWrite r.addr y)) := by
  obtain ⟨hx, honBus⟩ := mem_onBusTransfer hbus
  have heq : settleStuck x s = deliver x .busStuck [] (depart x.id s) := if_pos hstale
  have hevolves : Evolves Set.univ (depart x.id s) (settleStuck x s) := heq ▸ evolves_deliver_stale hauto hstale ..
  have hgone : ∀ y ∈ v.bm.queue, y.id ≠ x.id := hv ▸ hevolves.gone (hone.2.1 x hx) fun y hy => not_mem_depart hy
  have hnotices : s.msgs.notices <+: v.msgs.notices := hv ▸ hevolves.framed.notices
  have hleft := waitingManual_left hone hx honBus
  have hfree := departed_busFree hone hx honBus
  refine ⟨hgone, ?_⟩
  rw [deliver_stale hslot hauto hstale] at heq
  split at heq
  · have hself := modCtx_get_self slot (fun c => { c with staleHold := none }) (depart x.id s)
    rcases resumeStep_manuals (m := modCtx slot (fun c => { c with staleHold := none }) (depart x.id s)) (slot := slot) (r := r) hr
      with ⟨hstate, happended⟩ | ⟨hloading, hstate, hqueue⟩ <;> rw [← heq, ← hv] at hstate
    · rw [← heq, ← hv] at happended
      refine ⟨fun y hy hon => ?_, hnotices, .inl ⟨by rw [hstate, hself]; rfl, happended.waitingManual.trans hleft⟩⟩
      obtain ⟨xs, hq, hxs⟩ := happended
      rw [hq] at hy
      rcases List.mem_append.1 hy with hm | hm
      · exact absurd ((hfree y hm).symm.trans hon) nofun
      · exact hxs y hm
    · rw [← heq, ← hv] at hqueue
      rw [hself] at hloading
      refine ⟨fun y hy hon => ?_, hnotices, .inr ⟨hloading, hstate, ?_⟩⟩
      · rw [hqueue] at hy
        exact absurd ((hfree y (List.mem_of_mem_filter hy)).symm.trans hon) nofun
      · rw [hqueue, ← hleft, List.filter_filter, List.filter_filter]
        exact List.filter_congr fun y _ => Bool.and_comm ..
  · rw [← hv] at heq
    rw [heq]
    exact ⟨fun y hy hon => absurd ((hfree y hy).symm.trans hon) nofun, List.prefix_rfl, .inl ⟨rfl, hleft⟩⟩

/-- A stale transfer met BUS_STUCK and the line was not released (R120, R121). -/
theorem recovery_stale (hrec : s.bm.recovering = true) (hone : OneOnBus s) (hcond : s.bm.cond = .ready) (hbus : onBusTransfer s = some x)
    (hstale : x.stale = true) (hauto : x.automatic = true) (hslot : x.slot = some slot) (hr : activeRecord s slot = some r)
    (hreleased : lineReleased run = false) :
    Gives (.recoverySequenceEnd run derate) s (fun u =>
      u.bm.cond = .fault ∧ u.bm.attempts = 1 ∧ u.bm.recoveryTimer = some (s.now + 1000) ∧ u.bm.faultSince = some s.now
      ∧ (∀ y ∈ u.bm.queue, y.cls ≠ .manual ∧ y.id ≠ x.id)
      ∧ ∃ entries n, u.msgs.notices = s.msgs.notices ++ entries ++ [⟨.fault, .busFault 1 x.cls x.slot x.addr n⟩]
        ∧ (u.ctxs[slot].state = s.ctxs[slot].state → n = (s.bm.queue.filter isManual).length)
        ∧ (u.ctxs[slot].state ≠ s.ctxs[slot].state → u.ctxs[slot].state = .inService
          ∧ n + (s.bm.queue.filter (waitingRawWrite r.addr)).length = (s.bm.queue.filter isManual).length)) := by
  obtain ⟨hx, honBus⟩ := mem_onBusTransfer hbus
  have hbus' : onBusTransfer (recoveryEnded run derate s) = some x := hbus
  obtain ⟨hbm, -, hctxs, -, -, hnotices⟩ := enterBusFault_spec hbus' rfl
  obtain ⟨hfault, hattempts, htimer, hsince, -⟩ := enterBusFault_bm hbus' fun _ => hauto
  obtain ⟨hgone, hfree, ⟨entries, hentries⟩, hcases⟩ := settleStuck_stale (s := faultCondition (recoveryEnded run derate s)) hone hbus hauto
    hstale hslot hr rfl
  have hmanuals : s.bm.queue.filter waitingManual = s.bm.queue.filter isManual := filter_waitingManual fun y hy hon => by
    rw [hone.eq_of_onBus hy hx hon honBus]
    exact automatic_not_manual hauto
  refine ⟨_, exec_recoverySequenceEnd_stuck hrec hcond hreleased, hfault, hattempts, htimer, hsince,
    fun y hy => ⟨enterBusFault_noManual hbus' hfree y hy, hgone y ?_⟩, entries, _, by rw [hnotices, ← hentries]; rfl, ?_⟩
  · rw [hbm] at hy
    exact (List.mem_filter.1 hy).1
  · rw [hctxs, answeredManuals, if_neg fun h => Bool.noConfusion (hstale.symm.trans h.2), Nat.add_zero]
    rcases hcases with ⟨hstate, hq⟩ | ⟨hloading, hstate, hq⟩ <;> rw [hq]
    · exact ⟨fun _ => congrArg List.length hmanuals, fun h => absurd hstate h⟩
    · refine ⟨fun h => absurd (h.symm.trans hstate) ?_, fun _ => ⟨hstate, ?_⟩⟩
      · rw [show s.ctxs[slot].state = .loading from hloading]
        nofun
      · have hraw : (s.bm.queue.filter waitingManual).filter (waitingRawWrite r.addr) = s.bm.queue.filter (waitingRawWrite r.addr) := by
          rw [List.filter_filter]
          refine List.filter_congr fun y _ => ?_
          cases hw : waitingRawWrite r.addr y with
          | false => rfl
          | true =>
            simp only [waitingRawWrite, Bool.and_eq_true] at hw
            simp [waitingManual, hw.1.1.1.1, hw.1.1.1.2]
        have hsplit := List.length_eq_length_filter_add (l := s.bm.queue.filter waitingManual) (waitingRawWrite r.addr)
        rw [hraw] at hsplit
        rw [← hmanuals, hsplit]
        exact Nat.add_comm ..

end

end Sys2Proof.Machine
end

section
/-! Recovery sequences (O36), continued: a pass's write or latch that met BUS_STUCK, and the end of FAULT. -/

namespace Sys2Proof.Machine

section
variable {s u v : State} {x : Transfer} {slot : Slot} {id : ProfileId} {run : RecoveryRun} {derate : Bool} {b : Ref}

/-! ### A pass's write or latch (R51) -/

/-- A fresh COMPENSATE transfer that met BUS_STUCK is settled by its return, at the release and at the entry into FAULT alike. -/
theorem settled_compensate (hbus : onBusTransfer s = some x) (hfresh : x.stale = false) (hcls : x.cls = .compensate) :
    settleReleased s = returnTransfer x s ∧ settleStuck x s = returnTransfer x s :=
  ⟨settleReleased_fresh hbus hfresh, settleStuck_fresh hfresh (by rw [hcls]; nofun)⟩

/-- What the return of a write leaves of its profile. -/
theorem returnTransfer_write (horigin : x.origin = .profile id) (hx : x ∈ s.bm.queue) (hb : s.ce.shadows[id].onBus = some b)
    (hid : b.id = x.id) : (returnTransfer x s).ce.shadows[id]
        = { s.ce.shadows[id] with onBus := none, waiting := some (s.ce.shadows[id].waiting.getD b) }
      ∧ (s.ce.shadows[id].waiting = none → { x with onBus := false } ∈ (returnTransfer x s).bm.queue)
      ∧ (s.ce.shadows[id].waiting.isSome = true → ∀ y ∈ (returnTransfer x s).bm.queue, y.id ≠ x.id)
      ∧ (returnTransfer x s).msgs.tmReports = s.msgs.tmReports := by
  rw [returnTransfer_profile horigin, ← hid]
  cases hw : s.ce.shadows[id].waiting with
  | none =>
    rw [returnProfile_free hb hw, hid]
    exact ⟨(setShadow_get ..).trans (if_pos rfl), fun _ => mem_returned hx, nofun, rfl⟩
  | some w =>
    rw [returnProfile_taken hb hw]
    refine ⟨((setShadow_get ..).trans (if_pos rfl)).trans ?_, nofun, fun _ y hy => not_mem_depart hy, rfl⟩
    exact congrArg (fun waiting => ({ s.ce.shadows[id] with onBus := none, waiting := waiting } : Shadow)) hw

/-- What the return of a latch leaves of its slot. -/
theorem returnTransfer_ofLatch (horigin : x.origin = .latch) (hslot : x.slot = some slot) (hx : x ∈ s.bm.queue)
    (hbus : s.ce.latches[slot].onBus = some x.id) : (returnTransfer x s).ce.latches[slot]
        = ⟨s.ce.latches[slot].deferred, some (s.ce.latches[slot].waiting.getD x.id), none⟩
      ∧ (s.ce.latches[slot].waiting = none → { x with onBus := false } ∈ (returnTransfer x s).bm.queue)
      ∧ (s.ce.latches[slot].waiting.isSome = true → ∀ y ∈ (returnTransfer x s).bm.queue, y.id ≠ x.id)
      ∧ (returnTransfer x s).msgs.tmReports = s.msgs.tmReports := by
  rw [returnTransfer_latch horigin hslot]
  cases hw : s.ce.latches[slot].waiting with
  | none =>
    rw [returnLatch_free hbus hw]
    exact ⟨(setLatch_get ..).trans (if_pos rfl), fun _ => mem_returned hx, nofun, rfl⟩
  | some w =>
    rw [returnLatch_taken hbus hw]
    refine ⟨((setLatch_get ..).trans (if_pos rfl)).trans ?_, nofun, fun _ y hy => not_mem_depart hy, rfl⟩
    exact congrArg (fun waiting => (⟨s.ce.latches[slot].deferred, waiting, none⟩ : LatchState)) hw

/-- The end of a recovery sequence of a pass's write or latch: behind its return a grant is decided, or the bus enters FAULT. -/
theorem recovery_compensate (hrec : s.bm.recovering = true) (hcond : s.bm.cond = .ready) (hbus : onBusTransfer s = some x)
    (hfresh : x.stale = false) (hcls : x.cls = .compensate) : ∃ u v, exec (.recoverySequenceEnd run derate) s = .next u
      ∧ v = returnTransfer x (if lineReleased run then recoveryEnded run derate s else faultCondition (recoveryEnded run derate s))
      ∧ u.cs = s.cs ∧ u.ctxs = s.ctxs ∧ u.msgs.tmReports = v.msgs.tmReports
      ∧ (∀ i, (∀ y ∈ v.bm.queue, y.id ≠ i) → ∀ y ∈ u.bm.queue, y.id ≠ i)
      ∧ (∀ y ∈ v.bm.queue, y.cls = .compensate →
        ∃ z ∈ u.bm.queue, z.id = y.id ∧ z.age = y.age ∧ z.attempts = y.attempts ∧ z.data = y.data)
      ∧ (∀ i : ProfileId, MovedShadow v.ce.shadows[i] u.ce.shadows[i]) ∧ (∀ i : Slot, MovedLatch v.ce.latches[i] u.ce.latches[i])
      ∧ (¬ lineReleased run = true → u.bm.cond = .fault ∧ u.ce = v.ce) := by
  cases hreleased : lineReleased run with
  | true =>
    have hsettled := (settled_compensate (s := recoveryEnded run derate s) hbus hfresh hcls).1
    have hgranted := granted_grantDecision (returnTransfer x (recoveryEnded run derate s))
    obtain ⟨-, -, -, -, -, hctxs, hcs, -⟩ := returnTransfer_keeps x (recoveryEnded run derate s)
    refine ⟨_, _, exec_recoverySequenceEnd_released hrec hcond hreleased, rfl, ?_⟩
    rw [hsettled, if_pos rfl]
    refine ⟨hgranted.cs.trans hcs, hgranted.ctxs.trans hctxs, by rw [hgranted.msgs], fun i => hgranted.gone, fun y hy _ => ?_,
      hgranted.shadows, grantDecision_latch _, fun h => absurd rfl h⟩
    obtain ⟨z, hz, hid, hage, hattempts, -, hdata⟩ := hgranted.returned hy
    exact ⟨z, hz, hid, hage, hattempts, hdata⟩
  | false =>
    have hbus' : onBusTransfer (recoveryEnded run derate s) = some x := hbus
    have hsettled := (settled_compensate (s := faultCondition (recoveryEnded run derate s)) hbus hfresh hcls).2
    obtain ⟨hbm, hce, hctxs, hcs, hreports, -⟩ := enterBusFault_spec hbus' hsettled.symm
    obtain ⟨hfault, -⟩ := enterBusFault_bm hbus' fun h => Bool.noConfusion (hfresh.symm.trans h)
    obtain ⟨-, -, -, -, -, hctxs', hcs', -⟩ := returnTransfer_keeps x (faultCondition (recoveryEnded run derate s))
    refine ⟨_, _, exec_recoverySequenceEnd_stuck hrec hcond hreleased, rfl, ?_⟩
    rw [if_neg nofun, hbm, hce]
    refine ⟨hcs.trans hcs', hctxs.trans hctxs', hreports, fun i hgone y hy => hgone y (List.mem_of_mem_filter hy), fun y hy hy' => ?_,
      fun _ => .inl rfl, fun _ => .inl rfl, fun _ => ⟨(congrArg Bm.cond hbm).symm.trans hfault, rfl⟩⟩
    exact ⟨y, List.mem_filter.2 ⟨hy, by simp [waitingManual, hy']⟩, rfl, rfl, rfl, rfl⟩

/-- The part a transfer is settled in at the end of a recovery sequence shows what the part before it showed. -/
theorem settledIn_keeps (run : RecoveryRun) (derate : Bool) (s : State) :
    (if lineReleased run then recoveryEnded run derate s else faultCondition (recoveryEnded run derate s)).ce = s.ce
      ∧ (if lineReleased run then recoveryEnded run derate s else faultCondition (recoveryEnded run derate s)).bm.queue = s.bm.queue
      ∧ (if lineReleased run then recoveryEnded run derate s else faultCondition (recoveryEnded run derate s)).msgs = s.msgs := by
  split <;> exact ⟨rfl, rfl, rfl⟩

theorem recovery_write (hrec : s.bm.recovering = true) (hcond : s.bm.cond = .ready) (hbus : onBusTransfer s = some x)
    (hfresh : x.stale = false) (horigin : x.origin = .profile id) (hb : s.ce.shadows[id].onBus = some b) (hid : b.id = x.id) :
    Gives (.recoverySequenceEnd run derate) s (fun u =>
      (s.ce.shadows[id].waiting = none → u.ce.shadows[id].reference = some b.value
        ∧ ∃ y ∈ u.bm.queue, y.id = x.id ∧ y.age = x.age ∧ y.attempts = x.attempts ∧ y.data = x.data)
      ∧ (∀ w, s.ce.shadows[id].waiting = some w → u.ce.shadows[id].reference = some w.value ∧ ∀ y ∈ u.bm.queue, y.id ≠ x.id)
      ∧ (¬ lineReleased run = true → u.bm.cond = .fault
          ∧ u.ce.shadows[id] = { s.ce.shadows[id] with onBus := none, waiting := some (s.ce.shadows[id].waiting.getD b) })
      ∧ u.ce.shadows[id].written = s.ce.shadows[id].written ∧ u.msgs.tmReports = s.msgs.tmReports ∧ u.ctxs = s.ctxs ∧ u.cs = s.cs) := by
  have hcls : x.cls = .compensate := congrArg Origin.cls horigin
  obtain ⟨u, v, hexec, hv, hcs, hctxs, hreports, hgone, hstays, hshadows, -, hfault⟩ :=
    recovery_compensate (run := run) (derate := derate) hrec hcond hbus hfresh hcls
  obtain ⟨hce, hqueue, hmsgs⟩ := settledIn_keeps run derate s
  generalize (if lineReleased run then recoveryEnded run derate s else faultCondition (recoveryEnded run derate s)) = d
    at hv hce hqueue hmsgs
  obtain ⟨hshadow, hwaits, hleaves, hkept⟩ := returnTransfer_write (s := d) horigin (by rw [hqueue]; exact (mem_onBusTransfer hbus).1)
    (by rw [hce]; exact hb) hid
  rw [← hv, hce] at hshadow hwaits hleaves
  rw [← hv, hmsgs] at hkept
  have hreference : u.ce.shadows[id].reference = some (s.ce.shadows[id].waiting.getD b).value := by
    rw [(hshadows id).reference, hshadow]
    exact reference_of_waiting (w := s.ce.shadows[id].waiting.getD b) rfl
  refine ⟨u, hexec, fun hw => ⟨?_, ?_⟩, fun w hw => ⟨?_, hgone x.id (hleaves (by rw [hw]; rfl))⟩, fun hnot => ?_, ?_,
    hreports.trans hkept, hctxs, hcs⟩
  · rw [hreference, hw]
    rfl
  · exact hstays { x with onBus := false } (hwaits hw) hcls
  · rw [hreference, hw]
    rfl
  · obtain ⟨hcond', hsame⟩ := hfault hnot
    rw [hsame]
    exact ⟨hcond', hshadow⟩
  · rw [(hshadows id).fields.2.1, hshadow]

theorem recovery_latch (hrec : s.bm.recovering = true) (hcond : s.bm.cond = .ready) (hbus : onBusTransfer s = some x)
    (hfresh : x.stale = false) (horigin : x.origin = .latch) (hslot : x.slot = some slot)
    (hlbus : s.ce.latches[slot].onBus = some x.id) :
    Gives (.recoverySequenceEnd run derate) s (fun u =>
      (s.ce.latches[slot].waiting = none → ∃ y ∈ u.bm.queue, y.id = x.id ∧ y.age = x.age ∧ y.attempts = x.attempts ∧ y.data = x.data)
      ∧ (s.ce.latches[slot].waiting.isSome = true → ∀ y ∈ u.bm.queue, y.id ≠ x.id)
      ∧ (u.ce.latches[slot] = ⟨s.ce.latches[slot].deferred, some (s.ce.latches[slot].waiting.getD x.id), none⟩
        ∨ (lineReleased run = true
          ∧ u.ce.latches[slot] = ⟨s.ce.latches[slot].deferred, none, some (s.ce.latches[slot].waiting.getD x.id)⟩))
      ∧ (¬ lineReleased run = true → u.bm.cond = .fault)
      ∧ u.msgs.tmReports = s.msgs.tmReports ∧ u.ctxs = s.ctxs ∧ u.cs = s.cs) := by
  have hcls : x.cls = .compensate := congrArg Origin.cls horigin
  obtain ⟨u, v, hexec, hv, hcs, hctxs, hreports, hgone, hstays, -, hlatches, hfault⟩ :=
    recovery_compensate (run := run) (derate := derate) hrec hcond hbus hfresh hcls
  obtain ⟨hce, hqueue, hmsgs⟩ := settledIn_keeps run derate s
  generalize (if lineReleased run then recoveryEnded run derate s else faultCondition (recoveryEnded run derate s)) = d
    at hv hce hqueue hmsgs
  obtain ⟨hlatch, hwaits, hleaves, hkept⟩ := returnTransfer_ofLatch (s := d) horigin hslot (by rw [hqueue]; exact (mem_onBusTransfer hbus).1)
    (by rw [hce]; exact hlbus)
  rw [← hv, hce] at hlatch hwaits hleaves
  rw [← hv, hmsgs] at hkept
  refine ⟨u, hexec, fun hw => hstays { x with onBus := false } (hwaits hw) hcls, fun hw => hgone x.id (hleaves hw), ?_, fun hnot => (hfault hnot).1,
    hreports.trans hkept, hctxs, hcs⟩
  by_cases hreleased : lineReleased run = true
  · have hmoved := hlatches slot
    rw [hlatch] at hmoved
    exact hmoved.of_waiting.imp id fun h => ⟨hreleased, h⟩
  · rw [(hfault hreleased).2]
    exact .inl hlatch

/-! ### The end of FAULT -/

theorem exec_recoverySequenceEnd_left (hrec : s.bm.recovering = true) (hcond : s.bm.cond = .fault) (hreleased : lineReleased run = true) :
    exec (.recoverySequenceEnd run derate) s = .next (grantDecision (leaveBusFault (recoveryEnded run derate s))) := by
  change execRecoverySequenceEnd run derate s = _
  unfold execRecoverySequenceEnd endRecovery
  rw [if_pos hrec, show (sampleDerate derate s).bm.cond = .fault from hcond, hreleased]
  rfl

theorem exec_recoverySequenceEnd_again (hrec : s.bm.recovering = true) (hcond : s.bm.cond = .fault) (hreleased : lineReleased run = false) :
    exec (.recoverySequenceEnd run derate) s = .next { s with
      pins := { s.pins with derate := derate }
      bm := { s.bm with recovering := false, recoveryTimer := some (s.now + 1000), wire := recoveryWire run } } := by
  change execRecoverySequenceEnd run derate s = _
  unfold execRecoverySequenceEnd endRecovery
  rw [if_pos hrec, show (sampleDerate derate s).bm.cond = .fault from hcond, hreleased]
  rfl

/-- The line is released in FAULT: the bus is READY again (R120, R121). -/
theorem recovery_left (hrec : s.bm.recovering = true) (hcond : s.bm.cond = .fault) (hreleased : lineReleased run = true) :
    Gives (.recoverySequenceEnd run derate) s (fun u =>
      u.bm.cond = .ready ∧ u.bm.recovering = false ∧ u.bm.recoveryTimer = none ∧ u.bm.wire = recoveryWire run
      ∧ (∀ since, s.bm.faultSince = some since →
          u.msgs.notices = s.msgs.notices ++ [⟨.info, .busReady s.bm.attempts ((s.now - since) / 1000)⟩])
      ∧ u.bm.faultSince = none
      ∧ u.ctxs = s.ctxs ∧ u.hl = s.hl ∧ u.cs = s.cs ∧ u.bm.queue.length = s.bm.queue.length) := by
  have hgranted := granted_grantDecision (leaveBusFault (recoveryEnded run derate s))
  obtain ⟨hready, hrecovering, htimer, hsince, hwire⟩ := grantDecision_condition (leaveBusFault (recoveryEnded run derate s))
  refine ⟨_, exec_recoverySequenceEnd_left hrec hcond hreleased, hready, hrecovering, htimer, hwire, fun since h => ?_, hsince,
    hgranted.ctxs, hgranted.hl, hgranted.cs, hgranted.length⟩
  have hseconds : secondsInFault (recoveryEnded run derate s) = (s.now - since) / 1000 := by
    change (s.now - s.bm.faultSince.getD s.now) / 1000 = _
    rw [h]
    rfl
  rw [hgranted.msgs, ← hseconds]
  rfl

/-- What a READ whose repeated START met the low line has shown, and any other transaction (R115; log 21). -/
theorem stuckWire_eq (x : Transfer) (repeated : Bool) : stuckWire x repeated = if repeated = true ∧ x.dir = .read
    then [.startCond, .sent (x.addr <<< 1) true, .sent x.reg true] else [] := by
  unfold stuckWire
  cases x.dir <;> cases repeated <;> simp [addressByte_write]

theorem exec_transactionEnd_stuck {repeated : Bool} (hbus : onBusTransfer s = some x) (hidle : s.bm.recovering = false) :
    exec (.transactionEnd (.lineStuck repeated) derate) s
      = .next (beginRecovery (setWire (stuckWire x repeated) (sampleDerate derate s))) := by
  rw [exec_transactionEnd hbus hidle]
  unfold endTransaction
  rw [show transactionOutcome x (.lineStuck repeated) = .busStuck from rfl]
  rfl

theorem exec_recoveryTimerExpiry {at' : Nat} (hcond : s.bm.cond = .fault) (htimer : s.bm.recoveryTimer = some at')
    (hidle : s.bm.recovering = false) : exec .recoveryTimerExpiry s = .next (recoveryDue (advanceTo at' s)) := by
  change execRecoveryTimerExpiry s = _
  unfold execRecoveryTimerExpiry
  rw [htimer]
  exact congrArg Host.Outcome.next (if_pos ⟨hcond, hidle⟩)

end

/-- Settles O36: each kind of transfer at the end of a recovery sequence, and the bus in FAULT. -/
theorem recoveryReleasesRetriesOrFaults : Obligations.RecoveryReleasesRetriesOrFaults := by
  unfold Obligations.RecoveryReleasesRetriesOrFaults
  refine ⟨fun derate repeated s t hbus hidle => (exec_transactionEnd_stuck hbus hidle).trans (by rw [stuckWire_eq]; rfl),
    fun s at' hcond htimer hidle => exec_recoveryTimerExpiry hcond htimer hidle, fun derate run s hrec => ?_⟩
  intro released shown
  have hreleased : released ↔ lineReleased run = true := lineReleased_iff.symm
  have hshown : shown = recoveryWire run := by cases run <;> rfl
  rw [hshown, propext hreleased]
  refine ⟨fun t hone hcond hbus hfresh hprofile hlatch => recovery_plain hrec hone hcond hbus hfresh hprofile hlatch,
    fun t slot r hone hcond hbus hstale hauto hslot hr hnot =>
      recovery_stale hrec hone hcond hbus hstale hauto hslot hr (Bool.eq_false_iff.2 hnot),
    fun t id b _ hcond hbus hfresh horigin hb hid _ => recovery_write hrec hcond hbus hfresh horigin hb hid,
    fun t slot _ hcond hbus hfresh horigin hslot hlbus _ => recovery_latch hrec hcond hbus hfresh horigin hslot hlbus,
    fun hcond hrel => recovery_left hrec hcond hrel,
    fun hcond hnot => exec_recoverySequenceEnd_again hrec hcond (Bool.eq_false_iff.2 hnot)⟩

end Sys2Proof.Machine
end
